-- ==== Sys2Proof/Word.lean ====
section
/-! DEFINITION. The word types of the module and the plain records that commands carry as operands
(packet headers, bulk parts, Erg frames, trio operand fields). Arithmetic on them lives under Machine. -/

namespace Sys2Proof

/-- A byte of a record, a packet or a store. -/
abbrev Byte := BitVec 8
/-- A 32-bit word: a parameter register, an instruction word, a check value. -/
abbrev Word := BitVec 32
/-- A byte string, the byte at the lowest offset first. -/
abbrev Bytes := List Byte
/-- A time in REF cycles of 10 ns, counted from the first power-up of the model's run. -/
abbrev Time := Nat
/-- A table from keys to values in one canonical form: keys strictly rising, no entry that equals
what an unlisted key reads as. -/
abbrev Table (α : Type) := List (Nat × α)

/-- The interface a packet arrives on: the host interface (R383), the service port or SVC-UART (R482),
or the Erg Link, as a forwarded packet (R398, R499). -/
inductive Link where
  | host | service | uart | forwarded
  deriving DecidableEq, Repr

/-- The Ethernet frame and IPv4 datagram that bring a packet (R383): as the interfaces take them, or with an IEEE 802.1Q tag, as a
fragment, or with IPv4 options. -/
inductive Carrier where
  | plain | tagged | fragment | options
  deriving DecidableEq, Repr

/-- What a command packet that passes step 1 of Table 14.3 carries beside its parameters (Table 14.1), with the addresses of its
datagram and the form of its frame. `lenOk` says that PLEN is the length the opcode's parameters take; a packet whose PLEN is
another reaches step 10 and fails there (R387, BAD_PARAM). -/
structure Hdr where
  t       : Time
  link    : Link
  srcIp   : BitVec 32
  srcPort : BitVec 16
  dstIp   : BitVec 32 := 0xC0A82510
  dstPort : BitVec 16 := 47600
  carrier : Carrier := .plain
  version : Byte := 1
  rsvd    : BitVec 16 := 0
  hseq    : Word
  dseq    : Word
  target  : Byte := 0
  lenOk   : Bool := true
  deriving DecidableEq, Repr

/-- The parameters of a bulk opcode (R399). -/
structure BulkPart where
  index  : Nat
  rsvd   : Nat := 0
  total  : Nat
  offset : Nat
  data   : Bytes
  deriving DecidableEq, Repr

/-- One item of PARAM_WRITE (Table 14.6). -/
structure ParamItem where
  id    : Nat
  rsvd  : Nat := 0
  value : Word
  deriving DecidableEq, Repr

/-- A packet of a camera stream that carries a row (R70): virtual channel, CSI-2 data type, row number,
payload length in bits, header ECC result (0 passed, 1 one bit corrected, 2 failed), payload CRC result,
and the row's bytes in the stored order of Table 3.4. For data type 0x12 the bytes are the embedded line. -/
structure RowPacket where
  vc      : Nat
  dtype   : Nat
  row     : Nat
  lenBits : Nat
  ecc     : Fin 3
  crcOk   : Bool
  bytes   : Bytes
  deriving DecidableEq, Repr

/-- A frame of the Erg Link as received (Table 13.1). -/
structure ErgFrame where
  ftype   : Byte
  sender  : Byte
  slot    : BitVec 16
  cycle   : Word
  hops    : Byte
  rsvd    : Byte := 0
  payload : Bytes
  fcs     : Word
  deriving DecidableEq, Repr

/-- The operand fields of a format O trio instruction (Table 10.5): SPACE, IXF and ADDR. -/
structure OpRef where
  space : BitVec 4
  ixf   : Bool
  addr  : BitVec 16
  deriving DecidableEq, Repr

/-- The fields of a format T trio instruction (Table 10.5). -/
structure TimerRef where
  num   : BitVec 8
  pv    : Bool
  base  : BitVec 2
  count : BitVec 13
  deriving DecidableEq, Repr

/-- The operand part of a trio instruction word (Table 10.5): none (format N), operand (O), edge (E), timer (T),
a timer or counter number alone (T with zeros, C), jump target (J). -/
inductive TArg where
  | nil
  | opd (o : OpRef)
  | edge (e : BitVec 12)
  | timer (tm : TimerRef)
  | num (n : BitVec 8)
  | target (tgt : BitVec 16)
  deriving DecidableEq, Repr

/-- A trio instruction: opcode and operand part. -/
structure TInstr where
  code : BitVec 8
  arg  : TArg
  deriving DecidableEq, Repr

/-- A disturbance of one voter copy in the vote of the cycle (R241): its Q, Y and S results are changed by `q`, `y` and `sb`. -/
structure VoterFlip where
  copy : Fin 3
  q    : BitVec 16 := 0
  y    : BitVec 2048 := 0
  sb   : BitVec 512 := 0
  deriving DecidableEq, Repr

/-- An upset of one core's SRAM, by the environment (R244): `kind` 0 a corrected single-bit error of the data SRAM,
1 an uncorrectable error of it, 2 a divergence of its byte at `offset` by the mask `flip` (R243), 3 an uncorrectable
error of the instruction SRAM, 4 a corrected one; `bit` is the bit of the byte that a corrected error sits in. -/
structure Upset where
  core   : Fin 3
  offset : Nat
  kind   : Fin 5
  flip   : Byte := 0
  bit    : Fin 8 := 0
  deriving DecidableEq, Repr

/-- A single-bit upset of the DRAM stack, by the environment (R93): in the data word that holds byte `addr`, a flip of its bit
`bit`; 64 stands for a check bit. -/
structure DramFlip where
  addr : Nat
  bit  : Fin 65
  deriving DecidableEq, Repr

/-- A CSI-2 short packet (R55, R82): its virtual channel, and its ECC result: 0 good, 1 corrected, 2 not corrected. -/
structure ShortPacket where
  vc  : Nat
  ecc : Fin 3
  deriving DecidableEq, Repr

/-- How the steps of a Crucible recovery ended (R110): whether all passed, and the pages that the memory test has repaired. -/
structure RecoveryEnd where
  ok      : Bool
  repairs : List Nat
  deriving DecidableEq, Repr

/-- A disturbance of one word that a core publishes in the agreement round (R237): the sample of `core`
is changed by `flip` in its word `word`, 0 to 128. -/
structure Stray where
  core : Fin 3
  word : Fin 129
  flip : Word
  deriving DecidableEq, Repr

/-- What one witness lane reports where it does not compute as R186 to R190 state (a fault of the lane):
witnesses compared, mismatches, and the REASON bits of Table 7.4. -/
structure LaneReport where
  lane   : Fin 3
  nw     : Nat
  miss   : Nat
  reason : BitVec 16
  deriving DecidableEq, Repr

/-- A detection as a fault source presents it to the collector (R407, R423): location word and DETAIL. -/
structure Detection where
  loc    : BitVec 64 := 0
  detail : Word := 0
  deriving DecidableEq, Repr

/-- What the environment gives a start-up (R441, R445): whether SVC_BOOT is high, which tests fail, and
the first measurements of the temperature sensors. `badBlocks` lists the SoC units that fail a test, by block code and kind: 1 logic,
2 memory not repaired, 3 repair resources exhausted, 4 known-answer test (Table 17.6). `cfgCopyBad` and `repairCopyBad` say whether
the copies of the configuration record and of the soft-repair table (the one written last, the other) read damaged, `collectorBad`
whether the collector's test fails, and `trained` which ports and pipes train their links in a fast start before step 10 (block
code; gear or rate; round trip or lanes). The rest are: which stored objects (kind, index) and journal copies (2 × unit + copy) fail their checks, how long steps
1 to 8 took, which words of the boot record read uncorrectable, the tick edges in that time, the SoC blocks whose SRAM was repaired, and the pages of the Crucible that were. -/
structure StartOutcome where
  svcBoot    : Bool := false
  fuseBad    : Bool := false
  lcVoteBad  : Option (Fin 5) := none
  badBlocks  : List (Nat × Nat) := []
  cruBad     : Bool := false
  fwReason   : Nat := 0
  cfgCopyBad : Bool × Bool := (false, false)
  badObjects : List (Nat × Nat) := []
  badJournal : List Nat := []
  elapsedMs  : Nat := 1540
  ticks      : Nat := 0
  tj         : Int := 40
  cruTemp    : Int := 40
  fioTemp    : Int := 40
  repaired   : List Nat := []
  cruRepairs : List Nat := []
  repairCopyBad : Bool × Bool := (false, false)
  collectorBad  : Bool := false
  trained       : List (Nat × Nat × Nat) := []
  bootBad       : List Nat := []
  deriving DecidableEq, Repr

end Sys2Proof
end

