-- ==== Sys2Proof/Config.lean ====
section
/-! DEFINITION. What the spec leaves open and the machine does not stop at: free values. Each is a constant
without a body, so that nothing can be proved of the value it gives; log entries 10 and following say where the
spec leaves it open. The counter `free` of the state is their argument where a fresh value is wanted each time. -/

namespace Sys2Proof

/-- A 32-bit value that nothing constrains: a counter past its largest value (log 10), a result bit the spec does
not state. -/
opaque Config.freeWord : Nat → BitVec 32

/-- A byte that nothing constrains: a NONCE (19 R484), what a failed journal write leaves (log 19). -/
opaque Config.freeByte : Nat → BitVec 8

/-- Byte `offset` of the snapshot of a tick and a trio, whose layout the spec does not give (log 11). -/
opaque Config.snapshotByte (tick trio offset : Nat) : BitVec 8

/-- The rounding direction of a tie that the spec does not state (log 12). -/
opaque Config.freeBit : Nat → Bool

/-- The bursts of the source and mesh reads that the witness lanes make for their references in a tick (04 R101, log 30). -/
opaque Config.witnessBursts : Nat → Nat

/-- The public keys in ROM, by KEY_CLASS, X then Y (19 R487). -/
opaque Config.romKey : Nat → List (BitVec 8)

/-- The error of an engine's incremental position against direct evaluation, before it is limited to the 1/1,024
pixel that the spec allows (05 R126). -/
opaque Config.positionError : Nat → Nat

/-- Whether a bicubic weight between two codes, of a fraction and a tap, is quantised upwards (05 R131). -/
opaque Config.cubicUp (f tap : Nat) : Bool

/-- Whether an interpolated weight half-way between two integers is rounded upwards (05 R127). -/
opaque Config.weightTie : Bool

/-- Whether a line's minor coordinate half-way between two pixels steps on (05 R137). -/
opaque Config.lineTie : Bool

/-- A pixel of the icon in ROM, a white camera outline crossed by a red bar on black, whose drawing the spec describes in words
only (08 R222): 0 black, 1 white, 2 red. -/
opaque Config.romIcon (x y : Nat) : Fin 3

/-- Where in its band of 10.0 V ± 0.5 V the driver minimum supply of the field I/O die lies, in mV above 9,500 before
it is limited to the band (12 R327). -/
opaque Config.driverMin : Nat

end Sys2Proof
end

