-- ==== Sys2Proof/Syntax.lean ====
section
/-! DEFINITION. The commands of the module: one constructor per row of spec/opcode_table.json, in the
table's order (UNDEFINED_OPCODE_PACKET stands with the packets), each with the operands its rule gives it. Host commands carry the packet header that passed
step 1 of Table 14.3; every other command carries the time `t` of its edge; the trio instructions name the
core that executes them and carry their operand fields (Table 10.5). -/

namespace Sys2Proof

/-- The commands. -/
inductive Instr where
  /-- HELLO (R388). Opens a host session, sets HSEQ_NEXT to its own HSEQ plus one and empties the replay window. -/
  | hello (h : Hdr) (flags : Byte) (rsvd : Nat) (tag : Bytes)
  /-- RESYNC (R397). Rebinds or opens the session and returns HSEQ_NEXT, HSEQ_LAST, the ESEQ range and SYS_BOOT_ID. -/
  | resync (h : Hdr)
  /-- REPLAY_REPLY (R389). Resends a stored reply from the replay window with REPLAY set. -/
  | replayReply (h : Hdr) (hseq : Word)
  /-- REPLAY_EVENTS (R395). Resends the requested events held in the log, mirror or SP ring, then replies with the count sent. -/
  | replayEvents (h : Hdr) (first : Word) (count : Nat)
  /-- BYE (R388). Ends the host session. -/
  | bye (h : Hdr)
  /-- PING (R391). Echoes up to 64 bytes and keeps the session alive. -/
  | ping (h : Hdr) (data : Bytes)
  /-- PARAM_READ (R402). Reads up to 64 parameters; RC parameters are cleared by an item read with status OK. -/
  | paramRead (h : Hdr) (count : Nat) (ids : List Nat)
  /-- PARAM_WRITE (R402). Checks all items in sequence, applies them together only if all pass, and stores RW values in the configuration record. -/
  | paramWrite (h : Hdr) (count rsvd : Nat) (items : List ParamItem)
  /-- CAM_ENABLE_START (R61). A write of 1 to CAM_ENABLE in LINKED starts triggering from the next tick. -/
  | camEnableStart (h : Hdr) (c : Fin 16)
  /-- CAM_ENABLE_STOP (R61). A write of 0 to CAM_ENABLE stops triggering from the next tick edge and returns the port to LINKED. -/
  | camEnableStop (h : Hdr) (c : Fin 16)
  /-- SO_ENABLE_START (R206). A write of 1 to SO_ENABLE is checked and puts the pipe into TRAINING. -/
  | soEnableStart (h : Hdr) (p : Fin 8)
  /-- SO_ENABLE_STOP (R208). A write of 0 to SO_ENABLE stops the pipe at the next tick edge after the frame in progress. -/
  | soEnableStop (h : Hdr) (p : Fin 8)
  /-- TICK_RATE_WRITE (R35). Changes the tick rate from the next tick edge, subject to camera, credit and pipe checks. -/
  | tickRateWrite (h : Hdr) (value : Word)
  /-- TICK_SOURCE_WRITE (R525). Changes the tick source; the TICK_IN source takes effect in holdover with no reference. -/
  | tickSourceWrite (h : Hdr) (value : Word)
  /-- MIR_HOST_ANGLE_WRITE (R158). A host angle write reaches the predictor as a measurement and restarts its timeout. -/
  | mirHostAngleWrite (h : Hdr) (n : Fin 4) (value : Word)
  /-- WIT_SEED_WRITE (R183). A new witness selection seed takes effect at the next tick edge and starts a new coverage run. -/
  | witSeedWrite (h : Hdr) (value : Word)
  /-- PARAM_INFO (R400). Returns the type, access code, reset value and range of a parameter. -/
  | paramInfo (h : Hdr) (id : Nat)
  /-- POOL_LOAD (R90). Loads a pool table, checks it, re-places the stored objects and applies it at the next tick edge. -/
  | poolLoad (h : Hdr) (part : BulkPart)
  /-- EVT_ACK (R394). Acknowledges events up to DSEQ. -/
  | evtAck (h : Hdr)
  /-- EVT_MUTE (R400). Stops or resumes the sending of event packets; logging continues. -/
  | evtMute (h : Hdr) (mute : Byte)
  /-- EVT_LOG_INFO (R400). Returns the event log extents and the count of lost events. -/
  | evtLogInfo (h : Hdr)
  /-- EVT_MIRROR_READ (R395). Returns entries of the MRAM event mirror. -/
  | evtMirrorRead (h : Hdr) (index count : Nat)
  /-- VIEW_WRITE (R114). Checks a view context, stores it in MRAM and stages it for the next tick edge. -/
  | viewWrite (h : Hdr) (index rsvd : Nat) (rec : Bytes)
  /-- VIEW_READ (R119). Returns the view context record in force or the staged one. -/
  | viewRead (h : Hdr) (index bank : Nat)
  /-- VIEW_STATUS (R151). Returns the view status words. -/
  | viewStatus (h : Hdr) (first count : Nat)
  /-- MESH_LOAD (R125). Loads a mesh, checks it and computes its readiness table. -/
  | meshLoad (h : Hdr) (part : BulkPart)
  /-- MESH_DELETE (R400). Deletes a mesh that no enabled context names. -/
  | meshDelete (h : Hdr) (index : Nat)
  /-- OVL_LOAD (R136). Loads and checks an overlay list. -/
  | ovlLoad (h : Hdr) (part : BulkPart)
  /-- OVL_DELETE (R400). Deletes an overlay list that no enabled context names. -/
  | ovlDelete (h : Hdr) (index : Nat)
  /-- SEL_LOAD (R149). Checks a selection table, stores it and applies it at the next tick edge. -/
  | selLoad (h : Hdr) (tbl : Bytes)
  /-- COMMIT_READ (R171). Returns a commit record slot. -/
  | commitRead (h : Hdr) (view slot : Nat)
  /-- WITNESS_READ (R202). Returns a lane part of a witness report. -/
  | witnessRead (h : Hdr) (view slot lane : Nat)
  /-- CAM_DIAG (R85). Returns CAM_LINK, the port state and the header of the last settled frame. -/
  | camDiag (h : Hdr) (camera : Nat)
  /-- CAM_I2C (R67). Runs an I2C transaction over the camera back channel, yielding to triggers. -/
  | camI2c (h : Hdr) (camera addr wlen rlen : Nat) (data : Bytes)
  /-- LAYOUT_LOAD (R216). Checks a pipe layout table, stores it and applies it at the next tick edge. -/
  | layoutLoad (h : Hdr) (tbl : Bytes)
  /-- CRCREG_LOAD (R200). Checks a CRC region table, stores it and applies it at the next tick edge. -/
  | crcregLoad (h : Hdr) (tbl : Bytes)
  /-- LAYER_LOAD (R220). Loads and checks a static layer image and places its copy in a pool. -/
  | layerLoad (h : Hdr) (part : BulkPart)
  /-- LAYER_DELETE (R400). Deletes a static layer image that no selection table in force names. -/
  | layerDelete (h : Hdr) (index : Nat)
  /-- ICON_LOAD (R222). Loads and checks an MRAM fallback icon entry. -/
  | iconLoad (h : Hdr) (part : BulkPart)
  /-- PROG_LOAD (R305). Checks and stores a trio program container; the trio enters STOP with its working data cleared. -/
  | progLoad (h : Hdr) (part : BulkPart)
  /-- PROG_DELETE (R291). Deletes the program of a stopped trio, which enters EMPTY. -/
  | progDelete (h : Hdr) (trio core : Nat)
  /-- TRIO_START (R291). Starts a stopped trio cold or warm while the check value is confirmed. -/
  | trioStart (h : Hdr) (trio core kind : Nat)
  /-- TRIO_STOP (R291). Stops a running trio at the next cycle boundary. -/
  | trioStop (h : Hdr) (trio core : Nat)
  /-- TRIO_RESTART (R294). Restarts a halted trio cold or warm. -/
  | trioRestart (h : Hdr) (trio core kind : Nat)
  /-- PROG_EXCHANGE (R306). Checks a new program and optional ownership map and stages them for an on-line exchange. -/
  | progExchange (h : Hdr) (part : BulkPart)
  /-- OWNER_LOAD (R256). Checks and stores an ownership map, which takes effect at the next cycle boundaries. -/
  | ownerLoad (h : Hdr) (part : BulkPart)
  /-- COMMISSION (R302). Confirms the commissioning check value when it equals the computed value. -/
  | commission (h : Hdr) (value : Word)
  /-- HALT_INFO (R284). Returns the halt cause, exception code, raising core and PC of a trio. -/
  | haltInfo (h : Hdr) (trio core : Nat)
  /-- DBG_HALT (R259). Halts a trio at an instruction boundary into DEBUG. -/
  | dbgHalt (h : Hdr) (trio core : Nat)
  /-- DBG_STEP (R260). Steps a halted trio by a number of instructions. -/
  | dbgStep (h : Hdr) (trio core count : Nat)
  /-- DBG_BREAK (R259). Sets or clears a breakpoint. -/
  | dbgBreak (h : Hdr) (trio core slot set pc : Nat)
  /-- DBG_RESUME (R291). Resumes a trio from DEBUG to RUN. -/
  | dbgResume (h : Hdr) (trio core : Nat)
  /-- DBG_READ (R259). Reads the registers or data SRAM of core A or of a split core. -/
  | dbgRead (h : Hdr) (trio core area rsvd offset len : Nat)
  /-- DBG_WRITE (R260). Writes data SRAM at the next instruction boundary, replayed to cores B and C. -/
  | dbgWrite (h : Hdr) (trio core offset len : Nat) (data : Bytes)
  /-- SNAPSHOT_READ (R99). Returns bytes of the latest complete trio I/O snapshot. -/
  | snapshotRead (h : Hdr) (trio rsvd offset len : Nat)
  /-- FIO_LOAD (R344). Checks and stores the safety I/O record and sends it to the field I/O die. -/
  | fioLoad (h : Hdr) (rec : Bytes)
  /-- FIO_READ (R400). Returns the safety I/O record in force. -/
  | fioRead (h : Hdr)
  /-- FIO_ACK (R346). Clears latched field I/O faults whose cause has gone and closes group switches that read low. -/
  | fioAck (h : Hdr)
  /-- ERG_SCHED_LOAD (R356). Checks and stores an Erg schedule for the next join. -/
  | ergSchedLoad (h : Hdr) (part : BulkPart)
  /-- ERG_MAP_LOAD (R374). Checks and stores a remote-signal map. -/
  | ergMapLoad (h : Hdr) (part : BulkPart)
  /-- ERG_JOIN (R364). Starts the join of the configured role and ends SILENT. -/
  | ergJoin (h : Hdr)
  /-- ERG_LEAVE (R356). Moves the module from RUNNING or LEADING to LISTEN. -/
  | ergLeave (h : Hdr)
  /-- FAULT_SUMMARY (R424). Returns the ACTIVE and LATCHED bits of every fault source. -/
  | faultSummary (h : Hdr)
  /-- FAULT_RECORD (R422). Returns the first-fault and latest-fault records of a source. -/
  | faultRecord (h : Hdr) (source : Nat)
  /-- FAULT_CLEAR (R425). Clears the records, counts and escalation of inactive sources and raises EV-002. -/
  | faultClear (h : Hdr) (source : Nat)
  /-- FAULT_LOG_READ (R426). Returns entries of the MRAM fault log. -/
  | faultLogRead (h : Hdr) (index count : Nat)
  /-- CRU_RECOVER (R110). Retrains and tests the Crucible, clears the poison, reloads its contents and returns it to service. -/
  | cruRecover (h : Hdr)
  /-- BIST_RUN (R462). Runs all 16 BIST segments of a view engine, lane or core in consecutive slices. -/
  | bistRun (h : Hdr) (block : Nat)
  /-- BIST_STATUS (R463). Returns the BIST status record. -/
  | bistStatus (h : Hdr)
  /-- LC_READ (R400). Returns the life-cycle state and the slot information. -/
  | lcRead (h : Hdr)
  /-- SVC_CHALLENGE (R484). Returns a fresh NONCE and the serial number for service authentication. -/
  | svcChallenge (h : Hdr)
  /-- SVC_AUTH (R484). Authenticates a service session by HMAC response. -/
  | svcAuth (h : Hdr) (response : Bytes)
  /-- UPD_OPEN (R498). Takes the update lock. -/
  | updOpen (h : Hdr)
  /-- UPD_DOWNLOAD (R490). Writes an image container into the inactive slot in parts. -/
  | updDownload (h : Hdr) (part : BulkPart)
  /-- UPD_VERIFY (R491). Checks the downloaded container and marks the slot VERIFIED or INVALID. -/
  | updVerify (h : Hdr)
  /-- UPD_ACTIVATE (R492). Writes the boot control word for a trial of the new slot and restarts the SP. -/
  | updActivate (h : Hdr)
  /-- UPD_CONFIRM (R496). Ends the trial, raises the version floor, blows anti-rollback fuses and supersedes the other slot. -/
  | updConfirm (h : Hdr)
  /-- UPD_CLOSE (R498). Releases the update lock. -/
  | updClose (h : Hdr)
  /-- LC_ADVANCE (R502). Fuses the customer key hash and moves the module from DEVELOP to FIELD. -/
  | lcAdvance (h : Hdr) (key : Bytes)
  /-- LC_RETURN (R503). Moves the module to RETURN and resets it for the erase. -/
  | lcReturn (h : Hdr) (key sig : Bytes)
  /-- LC_SCRAP (R504). Moves the module to SCRAPPED, destroys the key and erases the MRAM. -/
  | lcScrap (h : Hdr) (key sig : Bytes)
  /-- UNDEFINED_OPCODE_PACKET (R386). A command packet with an opcode not in Tables 14.6 to 14.11 passes steps 1 to 6, consumes its HSEQ and gets a stored BAD_OPCODE reply. -/
  | undefinedOpcodePacket (h : Hdr) (opcode : BitVec 16) (data : Bytes)
  /-- WORKER_TIMEOUT (R379). ERG_FWD_TIMEOUT tick edges pass with no worker reply, so the lead replies WORKER_TIMEOUT. -/
  | workerTimeout (t : Time) (hseq : Word)
  /-- SESSION_TIMEOUT (R388). A session ends after its timeout with no packet passing step 4. Sessions are numbered 0 host,
  1 and 2 service sessions 0 and 1, 3 recovery, 4 forwarded. -/
  | sessionTimeout (t : Time) (which : Fin 5)
  /-- EVENT_RESEND (R394). An unacknowledged event is sent again after SYS_EVT_RESEND, at most 3 times. -/
  | eventResend (t : Time) (eseq : Word)
  /-- UPD_LOCK_TIMEOUT (R498). The update lock is released after 60 s without a packet from its holder. -/
  | updLockTimeout (t : Time)
  /-- NONCE_EXPIRY (R484). A service NONCE becomes invalid 10 s after issue. -/
  | nonceExpiry (t : Time) (session : Fin 5)
  /-- AUTH_LOCKOUT_END (R484). SVC_CHALLENGE is served again 60 s after 3 failed authentications. -/
  | authLockoutEnd (t : Time) (link : Link)
  /-- TICK_EDGE (R40). An active tick edge increments TICK_COUNT and starts tick k with all its edge actions. -/
  | tickEdge (t : Time)
  /-- TICK_IN_EDGE (R37). A TICK_IN edge is judged against the expected edge and, if accepted, steers the tick. -/
  | tickInEdge (t : Time) (falling : Bool)
  /-- TICK_HOLDOVER (R37). Two expected TICK_IN edges pass unaccepted, so the generator enters holdover and raises the tick-source fault. -/
  | tickHoldover (t : Time)
  /-- TICK_RELOCK (R38). Three consecutive accepted TICK_IN edges make the generator leave holdover and relock. -/
  | tickRelock (t : Time)
  /-- CAM_TRIGGER (R65). The trigger pulse of the tick is sent over the back channel at k + CAM_PHASE. -/
  | camTrigger (t : Time) (c : Fin 16)
  /-- CAM_DELAY_MEASURE (R67). An echo exchange measures the back-channel delay. -/
  | camDelayMeasure (t : Time) (c : Fin 16) (roundTrip : Nat)
  /-- CAM_FRAME_START (R69). A Frame Start packet is accepted into the frame window or discarded, and the header is written. -/
  | camFrameStart (t : Time) (c : Fin 16) (pkt : ShortPacket) (frameNo : Nat)
  /-- CAM_ROW_RECEIVE (R70). A received row packet is written, poisoned as an error row, or discarded. -/
  | camRowReceive (t : Time) (c : Fin 16) (row : RowPacket)
  /-- CAM_FRAME_END (R72). A Frame End packet is received for the frame. -/
  | camFrameEnd (t : Time) (c : Fin 16) (pkt : ShortPacket)
  /-- CAM_FRAME_SETTLE (R72). The frame settles or is discarded, and its header is rewritten and read back. -/
  | camFrameSettle (t : Time) (c : Fin 16) (readBackOk : Bool)
  /-- CAMERA_FROZEN (R81). CAM_FREEZE repeats in a row declare the camera frozen. -/
  | cameraFrozen (t : Time) (c : Fin 16)
  /-- CAM_WINDOW_END (R73). A frame window ends without a settled frame. -/
  | camWindowEnd (t : Time) (c : Fin 16)
  /-- CAM_LOST (R73). CAM_LOSS_TICKS windows in a row without a settled frame put the port into LOST. -/
  | camLost (t : Time) (c : Fin 16)
  /-- CAM_LINK_LOCK (R56). The camera link locks, and the port moves to LINKED, STARTED or LOST by gear and configuration. -/
  | camLinkLock (t : Time) (c : Fin 16) (gear roundTrip : Nat)
  /-- CAM_LINK_LOSS (R82). A camera link loss clears CAM_LINK and is counted. -/
  | camLinkLoss (t : Time) (c : Fin 16)
  /-- CRU_SCRUB_READ (R94). The patrol scrub reads a word and treats any ECC error it finds; `flips` of one bit, and errors of
  two bits at the bytes `doubles`, have come to lie in the stack since its last read. -/
  | cruScrubRead (t : Time) (flips : List DramFlip) (doubles : List Nat)
  /-- CREDIT_OVERRUN (R106). A guaranteed class exhausts its credits within the tick. -/
  | creditOverrun (t : Time) (cls : Fin 4)
  /-- CRU_LOSS (R108). The Crucible is declared lost and all video falls back. -/
  | cruLoss (t : Time) (cause : Fin 6)
  /-- JOB_DISPATCH (R142). A ready tile-row job is dispatched to a free view engine. -/
  | jobDispatch (t : Time) (engine : Fin 8) (crcBad : Bool)
  /-- RENDER_COMPLETE (R145). A render completes on time, is flipped to ready, and its commit record is written and read back. -/
  | renderComplete (t : Time) (v : Fin 256) (readBackOk : Bool)
  /-- VIEW_RECOVER (R51). TICK_RECOVER_COUNT on-time renders end an invalid declaration. -/
  | viewRecover (t : Time) (v : Fin 256)
  /-- RENDER_DEADLINE (R44). At the deadline a missed render is stopped and the view made stale or shown as its envelope. -/
  | renderDeadline (t : Time) (v : Fin 256) (readBackOk : Bool)
  /-- VIEW_INVALID (R50). The stale count reaches TICK_STALE_LIMIT, and the view is declared invalid. -/
  | viewInvalid (t : Time) (v : Fin 256)
  /-- MIRAGE_COMMIT_POINT (R164). At the commit point the measurement is latched and the tick is decided HIT, RERENDER or ENVELOPE. -/
  | mirageCommitPoint (t : Time) (v : Fin 256) (readBackOk : Bool)
  /-- HOST_ANGLE_TIMEOUT (R157). A host angle becomes not valid after MIR_HOST_TIMEOUT tick edges without a write. -/
  | hostAngleTimeout (t : Time) (n : Fin 4)
  /-- SCANOUT_FRAME_START (R46). A pipe begins the frame that shows the renders of tick k, or a fallback or relay frame. -/
  | scanoutFrameStart (t : Time) (p : Fin 8)
  /-- PIPE_FRAME_COMPLETE (R527). The frame's region results are decided and PIPE_HEALTHY is set or cleared. -/
  | pipeFrameComplete (t : Time) (p : Fin 8) (wrong : BitVec 3)
  /-- PIPE_TRAINING_DONE (R207). An output link completes training, and the pipe enters ACTIVE from the following tick edge. -/
  | pipeTrainingDone (t : Time) (p : Fin 8) (rate lanes : Nat)
  /-- PIPE_LINK_LOSS (R215). An output link loss puts the pipe into LINK_DOWN. -/
  | pipeLinkLoss (t : Time) (p : Fin 8)
  /-- SCANOUT_UNDERRUN (R224). A layer pixel is due before its data, and the pipe shows full fallback for the rest of the frame. -/
  | scanoutUnderrun (t : Time) (p : Fin 8) (x y : Nat)
  /-- ICON_PARITY_ERROR (R223). A parity error in the icon SRAM makes the pipe draw black, reload the icon and raise a fault. -/
  | iconParityError (t : Time) (p : Fin 8)
  /-- VERDICT_COMPLETE (R191). The lane verdicts of a view frame complete, are voted, update VERIFIED and are reported. -/
  | verdictComplete (t : Time) (v : Fin 256) (faulty : List LaneReport) (copyFlip : BitVec 3)
  /-- WITNESS_INVALID (R197). WIT_INVALID_AFTER failed verdicts, or a camera freeze, declare the view invalid and start probation. -/
  | witnessInvalid (t : Time) (v : Fin 256)
  /-- PROBATION_END (R199). WIT_RECOVER verified probation verdicts end the witness invalid declaration. -/
  | probationEnd (t : Time) (v : Fin 256)
  /-- LANE_REMOVAL (R193). WIT_BLAME_TICKS ticks of disagreement take the lane OUT and schedule its self-test. -/
  | laneRemoval (t : Time) (lane : Fin 3)
  /-- WIT_VOTER_TEST (R194). Every 1,024 ticks each witness voter copy is tested on injected verdicts. -/
  | witVoterTest (t : Time) (wrong : BitVec 3)
  /-- TRIO_CYCLE_START (R286). A trio cycle starts, latches T_NOW and the snapshot, agrees inputs and writes the image. -/
  | trioCycleStart (t : Time) (trio : Fin 8) (code : Fin 4) (upsets : List Upset) (strays : List Stray) (flips : List VoterFlip)
  /-- NOP (R274). No operation. -/
  | nop (core : Fin 24)
  /-- END (R274). Ends program execution for the cycle. -/
  | endProg (core : Fin 24)
  /-- VOTER_SUSPECT (R250). A third blame within 1,000 cycles halts the trio as voter-suspect. -/
  | voterSuspect (t : Time) (trio : Fin 8)
  /-- VOTER_TEST (R251). Every 10,000 cycles each voter copy and the blame logic are tested. -/
  | voterTest (t : Time) (trio : Fin 8) (wrong : BitVec 3)
  /-- JMP (R274). Jumps to the target. -/
  | jmp (core : Fin 24) (target : BitVec 16)
  /-- JC (R274). Jumps if ACC is 1. -/
  | jc (core : Fin 24) (target : BitVec 16)
  /-- JNC (R274). Jumps if ACC is 0. -/
  | jnc (core : Fin 24) (target : BitVec 16)
  /-- CALL (R274). Pushes the return address and jumps. -/
  | call (core : Fin 24) (target : BitVec 16)
  /-- RET (R274). Pops the return address. -/
  | ret (core : Fin 24)
  /-- LD (R274). Loads a bit into ACC. -/
  | ld (core : Fin 24) (op : OpRef)
  /-- LDN (R274). Loads the inverse of a bit into ACC. -/
  | ldn (core : Fin 24) (op : OpRef)
  /-- AND (R274). ANDs a bit into ACC. -/
  | and (core : Fin 24) (op : OpRef)
  /-- ANDN (R274). ANDs the inverse of a bit into ACC. -/
  | andn (core : Fin 24) (op : OpRef)
  /-- OR (R274). ORs a bit into ACC. -/
  | or (core : Fin 24) (op : OpRef)
  /-- ORN (R274). ORs the inverse of a bit into ACC. -/
  | orn (core : Fin 24) (op : OpRef)
  /-- XOR (R274). XORs a bit into ACC. -/
  | xor (core : Fin 24) (op : OpRef)
  /-- NOT (R274). Inverts ACC. -/
  | not (core : Fin 24)
  /-- PSH (R274). Pushes ACC onto the logic stack. -/
  | psh (core : Fin 24)
  /-- POP (R274). Pops the logic stack into ACC. -/
  | pop (core : Fin 24)
  /-- TOP (R274). Copies the top of the logic stack into ACC. -/
  | top (core : Fin 24)
  /-- ANDS (R274). ANDs ACC with a popped stack entry. -/
  | ands (core : Fin 24)
  /-- ORS (R274). ORs ACC with a popped stack entry. -/
  | ors (core : Fin 24)
  /-- ST (R274). Stores ACC into a bit. -/
  | st (core : Fin 24) (op : OpRef)
  /-- STN (R274). Stores the inverse of ACC into a bit. -/
  | stn (core : Fin 24) (op : OpRef)
  /-- SET (R274). Sets a bit if ACC is 1. -/
  | set (core : Fin 24) (op : OpRef)
  /-- RST (R274). Clears a bit if ACC is 1. -/
  | rst (core : Fin 24) (op : OpRef)
  /-- PE (R274). Detects a rising edge with an edge bit. -/
  | pe (core : Fin 24) (e : BitVec 12)
  /-- NE (R274). Detects a falling edge with an edge bit. -/
  | ne (core : Fin 24) (e : BitVec 12)
  /-- TON (R279). Evaluates an on-delay timer. -/
  | ton (core : Fin 24) (tm : TimerRef)
  /-- TOF (R279). Evaluates an off-delay timer. -/
  | tof (core : Fin 24) (tm : TimerRef)
  /-- TP (R279). Evaluates a pulse timer. -/
  | tp (core : Fin 24) (tm : TimerRef)
  /-- TRT (R279). Evaluates a retentive on-delay timer. -/
  | trt (core : Fin 24) (tm : TimerRef)
  /-- TRS (R279). Resets a timer if ACC is 1. -/
  | trs (core : Fin 24) (num : BitVec 8)
  /-- TPS (R275). Sets a timer preset from WACC. -/
  | tps (core : Fin 24) (num : BitVec 8)
  /-- TLE (R275). Loads a timer's elapsed time into WACC. -/
  | tle (core : Fin 24) (num : BitVec 8)
  /-- CTU (R282). Counts up on a rising ACC. -/
  | ctu (core : Fin 24) (num : BitVec 8)
  /-- CTD (R282). Counts down on a rising ACC. -/
  | ctd (core : Fin 24) (num : BitVec 8)
  /-- CRS (R275). Resets a counter if ACC is 1. -/
  | crs (core : Fin 24) (num : BitVec 8)
  /-- CLD (R275). Loads a counter with its preset if ACC is 1. -/
  | cld (core : Fin 24) (num : BitVec 8)
  /-- CPS (R275). Sets a counter preset from WACC. -/
  | cps (core : Fin 24) (num : BitVec 8)
  /-- CLV (R275). Loads a counter value into WACC. -/
  | clv (core : Fin 24) (num : BitVec 8)
  /-- LDW (R276). Loads a word sign-extended into WACC. -/
  | ldw (core : Fin 24) (op : OpRef)
  /-- LDWU (R276). Loads a word zero-extended into WACC. -/
  | ldwu (core : Fin 24) (op : OpRef)
  /-- LDD (R276). Loads a double word into WACC. -/
  | ldd (core : Fin 24) (op : OpRef)
  /-- LDIH (R276). Loads the immediate into the upper half of WACC. -/
  | ldih (core : Fin 24) (imm : BitVec 16)
  /-- STW (R276). Stores the lower half of WACC into a word. -/
  | stw (core : Fin 24) (op : OpRef)
  /-- STD (R276). Stores WACC into two words. -/
  | std (core : Fin 24) (op : OpRef)
  /-- LDX (R276). Loads IX from WACC. -/
  | ldx (core : Fin 24)
  /-- LDB (R276). Loads 16 bits into WACC. -/
  | ldb (core : Fin 24) (op : OpRef)
  /-- STB (R276). Stores WACC into 16 bits. -/
  | stb (core : Fin 24) (op : OpRef)
  /-- ADD (R276). Adds the operand to WACC. -/
  | add (core : Fin 24) (op : OpRef)
  /-- SUB (R276). Subtracts the operand from WACC. -/
  | sub (core : Fin 24) (op : OpRef)
  /-- MUL (R276). Multiplies WACC by the operand. -/
  | mul (core : Fin 24) (op : OpRef)
  /-- DIV (R276). Divides WACC by the operand. -/
  | div (core : Fin 24) (op : OpRef)
  /-- MIN (R276). Keeps the smaller of WACC and the operand. -/
  | min (core : Fin 24) (op : OpRef)
  /-- MAX (R276). Keeps the larger of WACC and the operand. -/
  | max (core : Fin 24) (op : OpRef)
  /-- NEG (R276). Negates WACC. -/
  | neg (core : Fin 24)
  /-- ANDW (R276). Bitwise AND into WACC. -/
  | andw (core : Fin 24) (op : OpRef)
  /-- ORW (R276). Bitwise OR into WACC. -/
  | orw (core : Fin 24) (op : OpRef)
  /-- XORW (R276). Bitwise XOR into WACC. -/
  | xorw (core : Fin 24) (op : OpRef)
  /-- SHL (R276). Shifts WACC left. -/
  | shl (core : Fin 24) (op : OpRef)
  /-- SHR (R276). Shifts WACC right, logically. -/
  | shr (core : Fin 24) (op : OpRef)
  /-- SAR (R276). Shifts WACC right, arithmetically. -/
  | sar (core : Fin 24) (op : OpRef)
  /-- BTST (R276). Copies a bit of WACC into ACC. -/
  | btst (core : Fin 24) (bit : BitVec 5)
  /-- CEQ (R276). Compares for equality into ACC. -/
  | ceq (core : Fin 24) (op : OpRef)
  /-- CNE (R276). Compares for inequality into ACC. -/
  | cne (core : Fin 24) (op : OpRef)
  /-- CLT (R276). Compares less-than into ACC. -/
  | clt (core : Fin 24) (op : OpRef)
  /-- CLE (R276). Compares less-or-equal into ACC. -/
  | cle (core : Fin 24) (op : OpRef)
  /-- CGT (R276). Compares greater-than into ACC. -/
  | cgt (core : Fin 24) (op : OpRef)
  /-- CGE (R276). Compares greater-or-equal into ACC. -/
  | cge (core : Fin 24) (op : OpRef)
  /-- TRIO_WDT_EXPIRY (R289). The cycle watchdog expires and the trio halts with cause 6. -/
  | trioWdtExpiry (t : Time) (trio : Fin 8) (code : Fin 4)
  /-- KCOMMIT_DUE (R296). A retentive commit falls due after TRIO_KCOMMIT. -/
  | kcommitDue (t : Time) (trio : Fin 8) (code : Fin 4)
  /-- JOURNAL_WRITE (R298). The MRAM controller completes a journal copy write and its read-back. -/
  | journalWrite (t : Time) (trio : Fin 8) (code : Fin 4) (ok : Bool)
  /-- INPUT_IMAGE_FRAME (R314). An I/O link frame from the die delivers the input image, encoder counts and status. -/
  | inputImageFrame (t : Time) (raw : BitVec 32) (readback : BitVec 16) (l1mv l2mv : Nat) (crcOk : Bool)
  /-- OUTPUT_COMMAND_FRAME (R314). An I/O link frame from the SoC delivers the voted output fields, applied after its CRC passes. -/
  | outputCommandFrame (t : Time) (crcOk : Bool)
  /-- IO_LINK_LOSS (R315). No valid I/O link frame for 200 us zeroes I and invalidates the encoders. -/
  | ioLinkLoss (t : Time)
  /-- INPUT_CHANGE_EVENT (R319). A filtered input change is reported, merged within 1 ms. -/
  | inputChangeEvent (t : Time) (i : Fin 32)
  /-- INPUT_DISCREPANCY (R321). A pair stays outside safe and active longer than DISC. -/
  | inputDiscrepancy (t : Time) (k : Fin 16)
  /-- TEST_PULSE_WINDOW (R322). A test-pulse window runs and the TP pin and its inputs are checked. -/
  | testPulseWindow (t : Time) (n : Fin 4) (pinOk : Bool) (before mid after : BitVec 32)
  /-- ENCODER_EDGE (R325). An accepted encoder edge is counted, or an illegal transition faults the channel. -/
  | encoderEdge (t : Time) (ch : Fin 2) (a b : Bool)
  /-- OUTPUT_OVERLOAD (R331). An ON output reads low or limits current for 1 ms and is switched OFF. -/
  | outputOverload (t : Time) (q : Fin 16) (limited : Bool)
  /-- OVERLOAD_RETRY (R331). A non-safety output with OVL_RETRY tries ON again after 1 s. -/
  | overloadRetry (t : Time) (q : Fin 16)
  /-- EXTERNAL_DRIVE (R332). An OFF output reads high after RB_TIME, and its group switch opens. -/
  | externalDrive (t : Time) (q : Fin 16)
  /-- EXTERNAL_DRIVE_CLASSIFY (R332). The readback 2 ms later classes the fault as internal or external. -/
  | externalDriveClassify (t : Time) (q : Fin 16) (high : Bool)
  /-- DARK_TEST (R333). An ON output is switched off for DARK in its slot. -/
  | darkTest (t : Time) (q : Fin 16)
  /-- DARK_TEST_END (R333). The dark test is judged when DARK ends. -/
  | darkTestEnd (t : Time) (q : Fin 16) (wentLow : Bool)
  /-- BRIGHT_TEST (R334). An OFF output is pulsed ON for DARK in its slot. -/
  | brightTest (t : Time) (q : Fin 16)
  /-- BRIGHT_TEST_END (R334). The bright test is judged when DARK ends. -/
  | brightTestEnd (t : Time) (q : Fin 16) (wentHigh : Bool)
  /-- FEEDBACK_TIMEOUT (R336). A contactor feedback input misses its state within FB_TIME. -/
  | feedbackTimeout (t : Time) (q : Fin 16)
  /-- GROUP_OVERCURRENT (R327). A group current over its limit opens the group switch. -/
  | groupOvercurrent (t : Time) (g : Fin 4) (milliamp durationUs : Nat)
  /-- L1P_LOW (R340). L1P falls below its minimum for 2 samples. -/
  | l1pLow (t : Time) (mv : Nat)
  /-- L1P_RECOVER (R340). L1P stays above its minimum for 10 ms, and filters and pairs are set anew. -/
  | l1pRecover (t : Time) (mv : Nat) (raw : BitVec 32)
  /-- L2P_LOW (R339). L2P falls below its minimum, and the safety outputs are forced OFF. -/
  | l2pLow (t : Time) (mv : Nat)
  /-- L2P_RECOVER (R338). L2P stays above its minimum for 10 ms. -/
  | l2pRecover (t : Time) (mv : Nat)
  /-- FIELD_OVERVOLTAGE (R338). A field supply above 32 V for 2 samples raises the overvoltage fault. -/
  | fieldOvervoltage (t : Time) (l2 : Bool) (mv : Nat)
  /-- HEARTBEAT_SEND (R341). The SoC sends a heartbeat frame every HB_PERIOD. -/
  | heartbeatSend (t : Time)
  /-- HEARTBEAT_ACCEPT (R342). The die accepts a heartbeat, and after 4 in a row applies commands again. -/
  | heartbeatAccept (t : Time) (seq : Byte) (crcOk quenchReq : Bool)
  /-- HEARTBEAT_EXPIRY (R341). No accepted heartbeat within 1.5 HB_PERIOD drives every output to its safe state. -/
  | heartbeatExpiry (t : Time)
  /-- QUENCH_LINE_CHANGE (R16). The die sees Quench asserted, released or rail-faulted on the Quench line. -/
  | quenchLineChange (t : Time) (pair : BitVec 2)
  /-- FIO_RECORD_APPLY (R344). The safety I/O record takes effect at the die and the filters are set. -/
  | fioRecordApply (t : Time) (raw : BitVec 32)
  /-- FIO_SELFTEST_COMPLETE (R446). The die's self-test, including any deferred output parts, passes and outputs may be released. -/
  | fioSelftestComplete (t : Time) (pass : Bool)
  /-- FIO_DRIVER_SHUTDOWN (R516). The field I/O die temperature threshold is crossed, raising FS-086 or turning drivers off with FS-087. -/
  | fioDriverShutdown (t : Time) (celsius : Int)
  /-- SYNC_FRAME_RX (R363). A sync frame is received, timed and counted for consistency, conflict or hand-back. -/
  | syncFrameRx (t : Time) (portB : Bool) (stampNs : Int) (f : ErgFrame)
  /-- DATA_FRAME_RX (R376). A DATA frame is validated and its X bits and angles written. -/
  | dataFrameRx (t : Time) (portB : Bool) (stampNs : Int) (f : ErgFrame)
  /-- NULL_FRAME_RX (R372). A NULL frame counts the sender alive and its signals as missed updates. -/
  | nullFrameRx (t : Time) (portB : Bool) (stampNs : Int) (f : ErgFrame)
  /-- CLAIM_FRAME_RX (R371). The lead grants a SPARE slot for a valid claim. -/
  | claimFrameRx (t : Time) (portB : Bool) (stampNs : Int) (f : ErgFrame)
  /-- SERVICE_FRAME_RX (R378). A SERVICE frame carries a forwarded command, reply or event. -/
  | serviceFrameRx (t : Time) (portB : Bool) (stampNs : Int) (f : ErgFrame)
  /-- Y_CAPTURE (R375). Y bits and angle words are captured 5 us before an owned slot. -/
  | yCapture (t : Time) (slot : Nat)
  /-- SLOT_TRANSMIT (R361). An owned frame starts within the guardian window or is suppressed. -/
  | slotTransmit (t : Time) (slot : Nat) (offsetNs : Int) (stagingPoisoned : Bool)
  /-- GUARDIAN_CUTOFF (R361). The guardian forces the transmitter silent at the end of the owned slot. -/
  | guardianCutoff (t : Time) (slot : Nat)
  /-- CLAIM_TRANSMIT (R370). A module sends a CLAIM frame for its SPARE slot after its back-off. -/
  | claimTransmit (t : Time)
  /-- SLOT_MISS (R372). No valid frame by the miss decision edge counts the slot as missed. -/
  | slotMiss (t : Time) (slot : Nat)
  /-- X_STALE (R376). The M-th missed update writes the substitute value with quality 0. -/
  | xStale (t : Time) (slot : Nat)
  /-- ERG_RUNNING_ENTRY (R363). Three consistent syncs put the module into RUNNING. -/
  | ergRunningEntry (t : Time)
  /-- ERG_HOLDOVER (R365). Three missed syncs put the module into HOLDOVER, or the standby takes over. -/
  | ergHoldover (t : Time)
  /-- GUARDIAN_HOLDOVER (R361). Three cycles of guardian suppression put the module into HOLDOVER. -/
  | guardianHoldover (t : Time)
  /-- LEAD_CONFLICT_END (R366). After 8 silent cycles the lower serial number leads. -/
  | leadConflictEnd (t : Time)
  /-- GRANT_WITHDRAW (R371). A grant is withdrawn after 256 cycles with no frame in its slot. -/
  | grantWithdraw (t : Time) (slot : Nat)
  /-- RING_OPEN (R377). A ring port without a valid frame for 16 cycles raises ring open. -/
  | ringOpen (t : Time) (portB : Bool)
  /-- ERG_CABLE_MEASURE (R351). A port measures its cable delay by echo and pads the forwarding point. -/
  | ergCableMeasure (t : Time) (portB : Bool) (delayNs : Nat)
  /-- ERG_JOIN_TIMEOUT (R364). ERG_JOIN_WAIT expires and start-up continues in LISTEN. -/
  | ergJoinTimeout (t : Time)
  /-- ERG_PORT_LINK (R349). An Erg port links up or down, and a bad link raises the port fault. -/
  | ergPortLink (t : Time) (portB up badPeer : Bool)
  /-- HOST_LINK_DOWN (R410). The host link goes down and FS-083 is raised. -/
  | hostLinkDown (t : Time)
  /-- FAULT_EVENT (R413). The collector records, classifies and escalates a source event and may assert Quench. -/
  | faultEvent (t : Time) (source : Fin 97) (pair : BitVec 2) (det : Detection) (persists : Bool)
  /-- COLLECTOR_SELFTEST (R421). The collector tests its detection logic once a second. -/
  | collectorSelftest (t : Time) (pass : Bool)
  /-- KAT_RUN (R451). A check-value channel without slices runs its known-answer test each second. -/
  | katRun (t : Time) (block : Nat) (preset : Fin 4) (answer : Word)
  /-- REFCLK_FAIL (R467). A REFCLK failure switches REF to the backup oscillator and raises FS-063. -/
  | refclkFail (t : Time)
  /-- PLL_LOCK_LOSS (R468). A domain clock loses lock or stops and is gated off. -/
  | pllLockLoss (t : Time) (domain : Fin 8)
  /-- DOMAIN_RESET_HOLD (R469). A domain stopped for 1 ms without relock is held in reset. -/
  | domainResetHold (t : Time) (domain : Fin 8)
  /-- PLL_RELOCK (R468). A domain's PLL relocks and the domain returns as its table row states. -/
  | pllRelock (t : Time) (domain : Fin 8)
  /-- INTERNAL_RAIL_FAULT (R470). An internal rail leaves its range and FS-073 is raised. -/
  | internalRailFault (t : Time)
  /-- SOC_TEMP_THRESHOLD (R470). The SoC junction crosses SYS_TJ_HIGH or the critical limit. -/
  | socTempThreshold (t : Time) (celsius : Int)
  /-- DRAM_TEMP_THRESHOLD (R516). The DRAM stack temperature reaches 105 C or its limit. -/
  | dramTempThreshold (t : Time) (celsius : Int)
  /-- SP_LOCKSTEP_MISMATCH (R470). The two SP cores disagree and FS-075 is raised. -/
  | spLockstepMismatch (t : Time)
  /-- SP_WATCHDOG_EXPIRY (R470). The SP hardware watchdog expires and FS-076 is raised. -/
  | spWatchdogExpiry (t : Time)
  /-- SP_RESTART (R471). The SP restarts alone, as a boot counted for trials, or is held in reset. -/
  | spRestart (t : Time) (containerReason : Nat)
  /-- SP_RESTART_DONE (R493). Command service resumes after an SP restart and queued commands and held events proceed. -/
  | spRestartDone (t : Time)
  /-- NRESET_FALL (R479). nRESET falls, Quench is asserted and every domain is held in reset. -/
  | nresetFall (t : Time) (widthNs : Nat)
  /-- NRESET_RELEASE (R441). nRESET is released and start-up, or ROM recovery, begins. -/
  | nresetRelease (t : Time) (powerOn : Bool) (env : StartOutcome)
  /-- CAMERA_START_DONE (R442). Step 10 completes when links have trained or 500 ms pass, and EV-100 is raised. -/
  | cameraStartDone (t : Time)
  /-- ENGINE_SLICE (R457). A view engine slice begins. -/
  | engineSlice (t : Time)
  /-- LANE_SLICE (R457). A witness lane slice begins with the lane UNDER_TEST. -/
  | laneSlice (t : Time)
  /-- CORE_SLICE (R457). A trio core slice begins at a cycle boundary. -/
  | coreSlice (t : Time)
  /-- CRUCIBLE_SLICE (R457). A Crucible block is copied, tested and copied back. -/
  | crucibleSlice (t : Time)
  /-- SLICE_COMPLETE (R458). A slice ends, restores its unit and judges its segment. `mem`: 0 the memory passed, 1 repaired,
  2 the retest after repair failed, 3 no spare left; `page` is the failing page of a Crucible block. -/
  | sliceComplete (t : Time) (cls : Fin 4) (logicFail katFail : Bool) (mem page : Fin 4)
  /-- SLICE_ABORT (R459). An abort condition stops a slice, restores the unit and schedules a retry. -/
  | sliceAbort (t : Time) (cls : Fin 4)
  /-- CRU_RECOVERY_DONE (R110). The Crucible recovery procedure ends, by success or by a failing step, leaving CRU_STATE IN_SERVICE at the next tick edge or LOST, ending collector mode RECOVERY and releasing the held reply. -/
  | cruRecoveryDone (t : Time) (result : RecoveryEnd)
  /-- I2C_TUNNEL_COMPLETION (R400). A camera I2C transaction over the back channel completes, is NACKed or reaches its 10 ms limit, and the CAM_I2C reply is formed. -/
  | i2cTunnelCompletion (t : Time) (ok : Bool) (index : Byte) (data : Bytes)
  /-- FIO_INTERNAL_SUPPLY_TRIP (R410). The field I/O die's internal supply trips, turning its drivers off and raising FS-087. -/
  | fioInternalSupplyTrip (t : Time)
  /-- ARP_REQUEST (R383). An ARP request for SYS_IP_ADDR arrives on the host interface and is answered. -/
  | arpRequest (t : Time) (targetIp senderIp : BitVec 32)
  /-- ICMP_ECHO_REQUEST (R383). An ICMP echo request arrives on the host interface and is answered with an echo reply. -/
  | icmpEchoRequest (t : Time) (dstIp srcIp : BitVec 32) (data : Bytes)
  /-- HOST_PACKET_DROP (R386). A malformed packet (too short, wrong MAGIC, wrong PLEN, bad PCRC or nonzero command FLAGS) arrives and is dropped and counted in SYS_HOST_DROPS. -/
  | hostPacketDrop (t : Time) (link : Link) (udpLen : Nat) (packet : Bytes)
  deriving DecidableEq, Repr

end Sys2Proof
end

