-- ==== Sys2Proof/Machine/State.lean ====
section
/-! DEFINITION. The state of the module as plain data, and the state right after reset. Every field's
docstring gives its meaning, its width, the file and rule of spec/ that names it, and its reset value. -/

namespace Sys2Proof.Machine

/-- Why a run stops. -/
inductive Fault where
  /-- A temperature or a field supply lies beyond the absolute maximum ratings, where the spec says the
  module can be damaged and makes no statement of its behaviour (20 R507). Raised by SOC_TEMP_THRESHOLD,
  DRAM_TEMP_THRESHOLD, FIO_DRIVER_SHUTDOWN, INPUT_IMAGE_FRAME, L1P_RECOVER, L2P_RECOVER and FIELD_OVERVOLTAGE. Safe: the model stops where the
  spec says nothing. -/
  | absoluteMaximum
  deriving DecidableEq, Repr

/-- Why a command has no meaning here. -/
inductive Refusal where
  /-- The command has no meaning yet. Raised by Dispatch only. Safe. -/
  | notModelled (mnemonic : String)
  deriving DecidableEq, Repr

/-! ### Small records -/

/-- The units that write to the Crucible (04 Table 4.3). -/
inductive Writer where
  | camera | engine | predictor | lane (n : Nat) | snapshot | erg | sp | selfTest
  deriving DecidableEq, Repr

/-- Camera port states (03 Table 3.3). -/
inductive CamState where
  | disabled | training | linked | started | lost
  deriving DecidableEq, Repr

/-- Pipe states (08 Table 8.1). -/
inductive PipeState where
  | disabled | training | active | linkDown
  deriving DecidableEq, Repr

/-- States of a trio or of a split-mode core (09 Table 9.2). -/
inductive RunState where
  | empty | stop | run | halted | debug
  deriving DecidableEq, Repr

/-- States of a core of a voted trio (09 Table 9.1). -/
inductive CoreState where
  | inn | rejoining | underTest | out
  deriving DecidableEq, Repr

/-- States of a witness lane (07 R178). -/
inductive LaneState where
  | inService | underTest | out
  deriving DecidableEq, Repr

/-- CRU_STATE (04 Table 4.7). -/
inductive CruState where
  | notReady | underTest | inService | lost | recovering
  deriving DecidableEq, Repr

/-- States of the Erg Link unit (13 Table 13.4). -/
inductive ErgState where
  | off | listen | syncing | running | leading | holdover | silent
  deriving DecidableEq, Repr

/-- States of a Mirage track (06 R159). -/
inductive TrackState where
  | invalid | init | run
  deriving DecidableEq, Repr

/-- A clock domain's status (18 Table 18.6). -/
inductive DomState where
  | running | stopped | heldInReset
  deriving DecidableEq, Repr

/-- The service processor: running, restarting (R471, R493), or held in reset (R471, R495). -/
inductive SpState where
  | running | restarting | held
  deriving DecidableEq, Repr

/-- The collector's mode outside TEST (15 R412). -/
inductive FltMode where
  | service | start | recovery
  deriving DecidableEq, Repr

/-- The decision on a view's tick (06 Table 6.3, DECISION). -/
inductive Decision where
  | plain | hit | rerender | envelope | missed
  deriving DecidableEq, Repr

/-- How a layer of an output frame is filled (08 R216, R221; 02 R49; 06 R168). -/
inductive LayerMode where
  | live | repeated | envelope | fallback | static | empty
  deriving DecidableEq, Repr

/-- What leaves the module on a packet interface. -/
inductive OutKind where
  | reply | event | arp | icmp
  deriving DecidableEq, Repr

/-- A packet the module sends (14 Table 14.1). -/
structure OutPkt where
  kind   : OutKind
  link   : Link := .host
  ip     : BitVec 32 := 0
  port   : BitVec 16 := 0
  /-- The address the frame is sent to: the receiver's own, or the gateway's (14 Table 14.12). -/
  via    : BitVec 32 := 0
  replay : Bool := false
  late   : Bool := false
  hseq   : Word := 0
  dseq   : Word := 0
  target : Nat := 0
  status : Nat := 0
  opcode : Nat := 0
  params : Bytes := []
  deriving DecidableEq, Repr

/-! ### The units -/

/-- Tick generator (02). -/
structure TickSt where
  /-- TICK_COUNT; 32 bits; 02 R40; reset 0. -/
  count : Word := 0
  /-- Locked (TICK_STATUS[0], V space bit 820); 1 bit; 02 R38, R525; reset 0 (TICK_STATUS 0x0000). -/
  locked : Bool := false
  /-- Holdover (TICK_STATUS[1]); 1 bit; 02 R37; reset 0. -/
  holdover : Bool := false
  /-- Relocking (TICK_STATUS[2]); 1 bit; 02 R38; reset 0. -/
  relocking : Bool := false
  /-- The source in force (TICK_STATUS[4:3]); 2 bits; 02 R34, R35; reset 0. -/
  source : Nat := 0
  /-- Tick rate in force in 0.001 Hz; 17 bits; 02 R35; reset 60,000. -/
  rate : Nat := 60000
  /-- Reference: time of the last accepted TICK_IN edge, or none; REF cycles; 02 R37; reset none. -/
  ref : Option Time := none
  /-- Accepted TICK_IN edges in a row; count; 02 R38; reset 0. -/
  accepted : Nat := 0
  /-- Phase error that steering still has to remove; signed REF cycles; 02 R38; reset 0. -/
  phaseErr : Int := 0
  /-- Time of the generator's own last edge, and of the one before; REF cycles; 02 R34, 06 R165; reset 0. -/
  lastEdge : Time := 0
  prevEdge : Time := 0
  /-- How much later than its clock edge the last tick edge stood in the fractional accumulator; signed, in 2^-24 REF cycles; 02 R36; reset 0. -/
  frac : Int := 0
  /-- The phase is not yet fixed: the next edge may fall anywhere within one period (17 R442, 13 R364); 1 bit; reset 1. -/
  loose : Bool := true
  deriving DecidableEq, Repr

/-- What the packets that arrive on a port's channel belong to (03 R68 to R70): no frame, the frame it takes in, a discarded one, or,
since the link has locked, one that may have begun before. -/
inductive CamStream where
  | idle | taken | discarded | unknown
  deriving DecidableEq, Repr

/-- A trigger pulse on the back channel (03 R65): its leading edge, and the GPIO, polarity and width that CAM_TRIG selects. -/
structure CamPulse where
  at' : Time
  gpio : Nat
  low : Bool
  widthUs : Nat
  deriving DecidableEq, Repr

/-- A control segment of the I2C tunnel (03 R66): when it was ready, and when it begins; none while it waits for a trigger to be
sent. -/
structure CamSegment where
  ready : Time
  begun : Option Time := none
  deriving DecidableEq, Repr

/-- A frame window of a camera (03 R68). -/
structure CamWindow where
  /-- Tick of the window; 32 bits; 03 R68. -/
  tick : Word
  /-- Trigger edge; REF cycles; 03 R65, R68. -/
  trigAt : Time
  /-- A Frame Start has been accepted; 1 bit; 03 R68. -/
  begun : Bool := false
  /-- A frame of the window has settled; 1 bit; 03 R73. -/
  settled : Bool := false
  /-- CAM_FREEZE, CAM_FSWIN, CAM_ERRMAX as taken at the window's start; 03 R62. -/
  freeze : Nat := 2
  fswin : Nat := 50
  errmax : Nat := 8
  /-- CAM_PHASE in 0.01 tick: the window ends at k + 1 + CAM_PHASE; 03 R68. -/
  phase : Nat := 0
  deriving DecidableEq, Repr

/-- A frame being received (03 R68 to R78). -/
structure CamFrame where
  /-- Tick stamp; 32 bits; 03 R41, R76. -/
  tick : Word
  /-- The buffer being filled; 0 to 2; 02 R47. -/
  buf : Nat
  trigAt : Time
  startAt : Time
  /-- CSI-2 frame number; 16 bits; 03 R78. -/
  frameNo : Nat
  /-- First embedded-data line, when one came; bytes; 03 R78. -/
  embedded : Option Bytes := none
  /-- Rows written, and rows poisoned; row numbers; 03 R70, R71. -/
  okRows : List Nat := []
  errRows : List Nat := []
  /-- Rows beyond CAM_HEIGHT came; 1 bit; 03 R70. -/
  extra : Bool := false
  /-- Frame End received; 1 bit; 03 R72. -/
  ended : Bool := false
  /-- Address of its buffer, CAM_WIDTH, CAM_HEIGHT, CAM_FORMAT and CAM_FCNT_SRC as of its Frame Start, and the 64 header bytes
  written then; 03 R62, R74, R76. -/
  addr : Nat := 0
  width : Nat := 0
  height : Nat := 0
  fmt : Nat := 0
  fcnt : Nat := 1
  hdr : Bytes := []
  /-- Rows that arrived at the latest edge at which rows did, and that edge; 05 R141. -/
  newRows : List Nat := []
  newAt : Time := 0
  deriving DecidableEq, Repr

/-- A camera frame that a buffer holds (02 R47). -/
structure CamBuf where
  buf : Nat
  tick : Word
  gen : Word
  fresh : Bool
  /-- Settle edge; REF cycles; 03 R72. -/
  at' : Time
  /-- Its address, width, height and format; 03 R74. -/
  addr : Nat := 0
  width : Nat := 0
  height : Nat := 0
  fmt : Nat := 0
  /-- Rows that arrived at the latest edge at which rows did, and that edge; 05 R141. -/
  newRows : List Nat := []
  newAt : Time := 0
  deriving DecidableEq, Repr

/-- One camera port (03). -/
structure CamPort where
  /-- CAM_STATE; 03 R60, Table 3.3; reset DISABLED (0). -/
  st : CamState := .disabled
  /-- Trained gear, 0 when not locked (CAM_LINK[1:0], [2]); 2 bits; 03 R56, R85; reset 0. -/
  gear : Nat := 0
  /-- Back-channel delay in 10 ns (CAM_LINK[31:16]); 16 bits; 03 R67; reset 0 (DESIGN CHOICE, log 4). -/
  delay : Nat := 0
  /-- Frozen (CAM_LINK[3]); 1 bit; 03 R81; reset 0. -/
  frozen : Bool := false
  /-- CAM_FRESH, V space bit 768 + c; 1 bit; 03 R80; reset 0. -/
  fresh : Bool := false
  /-- The last settled frame was fresh (CAM_LINK[4]); 1 bit; 03 R85; reset 0. -/
  lastFresh : Bool := false
  /-- The link stayed locked and clean since the last snapshot; 1 bit; 03 R82; reset 0. -/
  linkOk : Bool := false
  /-- Triggering, from the tick after the start; 1 bit; 03 R61; reset 0. -/
  triggering : Bool := false
  /-- An accepted stop waits for the next tick edge; 1 bit; 03 R61; reset 0. -/
  stopping : Bool := false
  /-- The open frame window; 03 R68; reset none. -/
  window : Option CamWindow := none
  /-- CAM_LOSS_TICKS as taken at the start of the last window; 03 R62, R73; reset 2. -/
  lossTicks : Nat := 2
  /-- The frame in progress; 03 R68; reset none. -/
  frame : Option CamFrame := none
  /-- The settled and the held buffer; 02 R47; reset none. -/
  settled : Option CamBuf := none
  held : Option CamBuf := none
  /-- The frame held before that one, whose verdicts may still be to come; 02 R47; reset none. -/
  older : Option CamBuf := none
  /-- FCOUNT of the previous settled frame, none before the first after LINKED; 32 bits; 03 R78, R79; reset none. -/
  prevCount : Option Word := none
  /-- The last two frames that settled: their ticks and settle edges, latest first; 32 bits, REF cycles; 06 R165; reset none. -/
  settledAt : List (Word × Time) := []
  /-- Repeats in a row; count; 03 R81; reset 0. -/
  repeats : Nat := 0
  /-- Windows in a row without a settled frame; count; 03 R73; reset 0. -/
  missRun : Nat := 0
  /-- Frames written since start (GEN); 32 bits; 03 R76; reset 0. -/
  gen : Word := 0
  /-- Header bytes 0x00 to 0x3F of the last settled frame; 64 bytes; 14 Table 14.8; reset none. -/
  lastHdr : Bytes := []
  /-- What the packets on its channel belong to; 03 R68 to R70; reset nothing. -/
  stream : CamStream := .idle
  /-- Rows that have come on its channel since the last Frame Start, and CAM_HEIGHT then; 03 R82; reset none, 0. -/
  rowsSeen : List Nat := []
  rowsDue : Nat := 0
  /-- The last trigger pulse on the back channel; 03 R65; reset none. -/
  pulse : Option CamPulse := none
  /-- The control segment of the transaction in hand; 03 R66; reset none. -/
  segment : Option CamSegment := none
  /-- Tick of the last delay measurement; 32 bits; 03 R67; reset 0 (DESIGN CHOICE, log 4). -/
  measuredAt : Word := 0
  deriving DecidableEq, Repr

/-- A port as it stood before a frame settled, the header in its buffer then, whether the settling counted a skip, and whether that
field of CAM_COUNT_B was full (03 R83). -/
structure CamUndo where
  port : CamPort
  header : Bytes
  skip : Bool
  full : Bool
  deriving DecidableEq, Repr

/-- The Crucible and its controller (04). -/
structure CruSt where
  /-- CRU_STATE; 04 Table 4.7; reset not ready (0). -/
  st : CruState := .notReady
  /-- Contents, byte by byte; 1,792 MiB; 04 R86; an unlisted byte reads 0 (DESIGN CHOICE, log 5). -/
  mem : List Host.Cell := []
  /-- Poisoned tiles, by tile number (address / 256), rising; 04 R97; reset none. -/
  poison : List Nat := []
  /-- Pool table in force, and a table accepted for the next tick edge; 528 bytes at most; 04 R90; reset none. -/
  pool : Bytes := []
  poolNext : Option Bytes := none
  /-- Runs of the placed objects, by kind x 65,536 + index: base and length in 256-byte units; 04 R91; reset none. -/
  runs : Table (Nat × Nat) := []
  /-- Credits used so far in this tick by classes 1 to 6; 32 bits each; 04 R101, R102; reset 0. -/
  used : Table Nat := []
  /-- Credits the guaranteed classes 1 to 4 still hold in this tick; 32 bits each; 04 R102; reset 0. -/
  credits : Table Nat := []
  /-- Errors that lie in words and that no read has met yet, by word number (address / 8): 1 to 64 a single-bit error of the
  bit one lower, 65 a double-bit error, 66 an error of a check bit; 04 R93; reset none. -/
  errs : Table Nat := []
  /-- Guaranteed classes whose overrun this tick has been counted; 4 bits; 04 R106; reset none. -/
  overrun : List Nat := []
  /-- Byte address of the word the patrol scrub reads next (CRU_SCRUB_POS x 256); 04 R94; reset 0. -/
  scrubAt : Nat := 0
  /-- Corrected errors per word within this scrub pass; counts; 04 R95; reset none. -/
  ceWords : Table Nat := []
  /-- Remapped pages: page number to spare page; 17 R452; reset none. -/
  spares : Table Nat := []
  /-- Context bank in force in the SP work area; 1 bit; 05 R119; reset bank 0. -/
  bank : Bool := false
  /-- Tick of the latest complete trio I/O snapshots, none before one; 04 Table 4.1, 14 SNAPSHOT_READ; reset none. -/
  snapTick : Option Word := none
  /-- A completed recovery waits for the next tick edge; 1 bit; 04 R110; reset 0. -/
  returning : Bool := false
  deriving DecidableEq, Repr

/-- A render in progress or just completed (05 R140 to R145; 06 R162 to R166). -/
structure Render where
  /-- Tick of the render; 32 bits; 02 R40. -/
  tick : Word
  /-- The context record it uses; 128 bytes; 05 R116. -/
  ctx : Bytes
  /-- The copy of that record in the bank in force, as its latest job read it; empty before the first; 128 bytes; 05 R119. -/
  used : Bytes := []
  /-- Its target buffer, 0 to 3; 02 R47. -/
  buf : Nat
  /-- Source headers compared with the mesh and found equal; refused for a difference; 1 bit each; 05 R129. -/
  checked : Bool := false
  rejected : Bool := false
  /-- The store was lost or the view clock stopped while it ran: it never completes; 1 bit; 04 R108, 18 R468. -/
  halted : Bool := false
  /-- It is a Mirage re-render; 1 bit; 06 R166. -/
  again : Bool := false
  /-- Tile rows dispatched so far, and the compute clocks they took; 05 R140, R143. -/
  rows : Nat := 0
  clocks : Nat := 0
  /-- A read returned poison; a context mismatch; 05 R119, 04 R99. -/
  poison : Bool := false
  suspect : Bool := false
  /-- Mirage: predicted angle, measured angle, pan in 1/8 pixel, track INIT; 06 R161, R164. -/
  thetaPred : Int := 0
  thetaMeas : Int := 0
  pan : Int := 0
  trackInit : Bool := false
  /-- Decision taken, none before it; the commit point has latched its measurement; flags SOURCE_INVALID and BUDGET; 06 R164. -/
  decision : Option Decision := none
  latched : Bool := false
  sourceInvalid : Bool := false
  budget : Bool := false
  /-- It completed, with the time in 0.001 tick; 05 R145. -/
  done : Option Nat := none
  /-- Its frame took the ready role; its flip was withdrawn; the tick is settled, by a flip, an envelope or a miss;
  it missed; 1 bit each; 06 R166, R167, R172, 02 R44. -/
  flipped : Bool := false
  withdrawn : Bool := false
  settled : Bool := false
  missed : Bool := false
  /-- It is shown as its envelope, which the deadline still has to count; 1 bit; 06 R174. -/
  tally : Bool := false
  deriving DecidableEq, Repr

/-- A completed render that a view buffer holds (02 R47). -/
structure ViewFrame where
  /-- Buffer number 0 to 3 of the view's own buffers, or of the envelope context. -/
  buf : Nat
  tick : Word
  /-- Buffer address in 256-byte units. -/
  addr : Nat
  /-- Shown as the envelope of context n (06 R168). -/
  env : Option Nat := none
  /-- A pipe has begun to show it; 1 bit; 02 R47. -/
  shown : Bool := false
  deriving DecidableEq, Repr

/-- One view context and its view (05, 02, 07). -/
structure ViewSt where
  /-- Context record in force; 128 bytes, empty for the all-zero record; 05 R113; reset all zero. -/
  ctx : Bytes := []
  /-- Staged record; 128 bytes; 05 R116; reset none. -/
  staged : Option Bytes := none
  /-- When the record was staged: one accepted on a tick edge waits for the next; REF cycles; 05 R116, 02 Table 2.9; reset 0. -/
  stagedAt : Time := 0
  /-- What it replaced at that edge: a record accepted before the edge still takes effect on it; 128 bytes; 05 R116; reset none. -/
  stagedWas : Option Bytes := none
  /-- VERIFIED, V space bit v; 1 bit; 01 R21; reset 0. -/
  verified : Bool := false
  /-- Named by a layer of an entry an ACTIVE pipe evaluated (SHOWN); 1 bit; 01 R22; reset 0. -/
  shownSel : Bool := false
  /-- Declared invalid under R50; 1 bit; 02 R50; reset 0. -/
  invalid : Bool := false
  /-- Stale count; 0 to 8; 02 R48; reset 0. -/
  stale : Nat := 0
  /-- On-time renders counted towards recovery; 0 to 8; 02 R51; reset 0. -/
  recover : Nat := 0
  /-- Missed its last completed tick; 1 bit; 05 R151; reset 0. -/
  staleLast : Bool := false
  /-- Declared invalid under R197 (in probation); 1 bit; 07 R197, R198; reset 0. -/
  witInvalid : Bool := false
  /-- Failed voted verdicts in a row; 0 to 8; 07 R197; reset 0. -/
  failRun : Nat := 0
  /-- Verified probation verdicts in a row; 0 to 8; 07 R199; reset 0. -/
  probRun : Nat := 0
  /-- A camera of the view has been declared frozen and the declaration is due; 1 bit; 07 R197; reset 0. -/
  freezeDue : Bool := false
  /-- Last render suspect; 1 bit; 05 R151; reset 0. -/
  suspectLast : Bool := false
  /-- The render of the tick in progress; 02 R43; reset none. -/
  render : Option Render := none
  /-- Completed renders that are ready or shown, latest first, and the last verified one; 02 R47; reset none. -/
  frames : List ViewFrame := []
  lastVer : Option ViewFrame := none
  /-- Completion of the last on-time render in 0.001 tick; 10 bits; 05 R151; reset 0. -/
  doneMilli : Nat := 0
  /-- Compute clocks of the last completed render, none before one since enable; 06 R165; reset none. -/
  lastClocks : Option Nat := none
  /-- HITS, RERENDERS, ENVELOPES, MISSES since enable; 32 bits each; 06 Table 6.3; reset 0. -/
  hits : Nat := 0
  rerenders : Nat := 0
  envelopes : Nat := 0
  misses : Nat := 0
  deriving DecidableEq, Repr

/-- One Mirage track (06 R159). -/
structure Track where
  /-- Angle estimate in 0.01 degree, 16 fractional bits; 06 R159; reset 0 (DESIGN CHOICE, log 4). -/
  theta : Int := 0
  /-- Rate in 0.01 degree per tick, 16 fractional bits; 06 R159; reset 0 (DESIGN CHOICE, log 4). -/
  omega : Int := 0
  /-- Track state; 2 bits; 06 R159; reset INVALID. -/
  st : TrackState := .invalid
  deriving DecidableEq, Repr

/-- One witness lane (07). -/
structure Lane where
  /-- Lane state; 2 bits; 07 R178; reset OUT (WIT_LANE_STATE 0x2A). -/
  st : LaneState := .out
  /-- Consecutive disagreeing ticks; 0 to 8; 07 R193; reset 0. -/
  blame : Nat := 0
  /-- Disagreed in the tick in progress; 1 bit; 07 R193; reset 0. -/
  disagreed : Bool := false
  /-- LANE_OK, V space bits 816 to 818; 1 bit; 07 R193; reset 0. -/
  ok : Bool := false
  /-- Removals since start-up (WIT_REMOVALS); 2 bits; 07 R193; reset 0. -/
  removals : Nat := 0
  /-- Removed and not yet returned: its domain is held in reset; 1 bit; 07 R193, 18 Table 18.3; reset 0. -/
  removed : Bool := false
  /-- Its in-service self-test after a removal is scheduled, or has passed; 1 bit each; 07 R193; reset 0. -/
  testDue : Bool := false
  returning : Bool := false
  /-- Dropped a witness in the tick in progress; 1 bit; 07 R179; reset 0. -/
  overflow : Bool := false
  /-- Witnesses of the tick in progress; count; 07 R179 (WIT_LOAD); reset 0. -/
  load : Nat := 0
  /-- When the lane last left service; REF cycles; 07 R190, R201; reset never. -/
  leftAt : Option Time := none
  /-- When the lane will have computed every witness that waits in its queue; ns; 07 R179; reset 0. -/
  busyTo : Nat := 0
  /-- Up to when the lane has taken the witnesses that arrive; ns; 07 R179 (MODEL's own); reset 0. -/
  tapTo : Nat := 0
  /-- Witnesses dropped: view, tick, pipe, position; 07 R179; reset none. -/
  dropped : List (Nat × Word × Nat × Nat) := []
  deriving DecidableEq, Repr

/-- One layer of an output frame (08 R216, R221). -/
structure LayerShown where
  layer : Nat
  mode : LayerMode
  /-- View index or static image index. -/
  index : Nat
  x : Nat
  y : Nat
  w : Nat
  h : Nat
  /-- Address of the buffer read, in 256-byte units. -/
  addr : Nat
  tick : Word
  /-- A completed render of the frame's tick stands at that address; 1 bit; 07 R198. -/
  present : Bool := false
  /-- The view's verdict of this frame has been given; 1 bit; 07 R191. -/
  judged : Bool := false
  /-- The commit record as the lanes read it at the first active line of the first pipe that shows the frame, and whether the
  read returned poison; 512 bytes; 06 R170. -/
  record : Bytes := []
  recPoison : Bool := false
  deriving DecidableEq, Repr

/-- The output frame in progress on a pipe (08). -/
structure OutFrame where
  /-- Tick whose renders the frame shows; 02 R46. -/
  tick : Word
  /-- Selection entry in force; 4 bits; 05 R147. -/
  entry : Nat
  layers : List LayerShown
  /-- Full fallback for the whole frame; 1 bit; 08 R221. -/
  full : Bool := false
  /-- Underrun, from this pixel number (line x active width + column) on; 08 R224. -/
  underrun : Option Nat := none
  /-- A relay frame that is not sent; 1 bit; 08 R227. -/
  unsent : Bool := false
  /-- The link was lost in the frame, from this pixel number on; 08 R215. -/
  lostAt : Option Nat := none
  /-- Its region results have been decided; 1 bit; 07 R527. -/
  complete : Bool := false
  /-- First active line; REF cycles; 02 R46. -/
  startAt : Time := 0
  /-- Lanes in service at its first active line; 3 bits; 07 R190, R201. -/
  lanes : BitVec 3 := 0
  /-- Selection seed in force at its first active line; 32 bits; 07 R183. -/
  seed : Word := 0
  deriving DecidableEq, Repr

/-- A packet of a CSI-2 relay stream, on a virtual channel (08 R212, R225): Frame Start with its number, a long packet with its
data type and bytes, Frame End. -/
inductive CsiPacket where
  | frameStart (vc number : Nat)
  | long (vc dtype : Nat) (data : Bytes)
  | frameEnd (vc : Nat)
  deriving DecidableEq, Repr

/-- One scan-out pipe (08). -/
structure PipeSt where
  /-- SO_STATE; 2 bits; 08 R207; reset DISABLED. -/
  st : PipeState := .disabled
  /-- An accepted stop, and a completed training, wait for a tick edge; 1 bit each; 08 R208, R207; reset 0. -/
  stopping : Bool := false
  trainedNext : Bool := false
  /-- When the stop was accepted and the training completed; REF cycles; 08 R229; reset 0. -/
  stopAt : Time := 0
  trainedAt : Time := 0
  /-- Trained rate or gear, lanes, trained, failed attempts in a row (SO_LINK); 08 Table 8.8; reset 0. -/
  rate : Nat := 0
  lanes : Nat := 0
  trained : Bool := false
  fails : Nat := 0
  /-- PIPE_HEALTHY, V space bit 800 + p; 1 bit; 07 R527; reset 0. -/
  healthy : Bool := false
  /-- PIPE_FALLBACK, V space bit 808 + p; 1 bit; 08 R221; reset 0. -/
  fallback : Bool := false
  /-- Selection table in force and accepted for the next tick edge; 528 bytes at most; 05 R146, R149; reset none. -/
  sel : Bytes := []
  selNext : Option Bytes := none
  /-- Layout table in force and next; 528 bytes; 08 R216; reset none (every X and Y 0). -/
  layout : Bytes := []
  layoutNext : Option Bytes := none
  /-- CRC region table in force and next; 528 bytes at most; 07 R200; reset none. -/
  region : Bytes := []
  regionNext : Option Bytes := none
  /-- Entry in force (VIEW_SEL_ACTIVE) and held on entry 0 (VIEW_SEL_DEFAULTED); 4 + 1 bits; 05 R147, R148; reset 0. -/
  entry : Nat := 0
  defaulted : Bool := false
  /-- The frame in progress or just completed, and the one before; 02 R46; reset none. -/
  frame : Option OutFrame := none
  prev : Option OutFrame := none
  /-- RCOUNT, and whether the last frame advanced it; 32 + 1 bits; 08 R226; reset 0 (DESIGN CHOICE, log 4). -/
  rcount : Word := 0
  advanced : Bool := false
  /-- The packets of the last relay frame; 08 R225, R226; reset none. -/
  sent : List CsiPacket := []
  /-- Icon and palette in the pipe's SRAM: icon number, its record bytes (empty for the ROM icon), drawn
  as plain black after a parity error; 08 R222, R223; reset the ROM icon. -/
  iconSel : Nat := 0
  icon : Bytes := []
  iconBlack : Bool := false
  iconReload : Bool := false
  /-- The icon before the last copy and whether it was drawn black, and when the copy was made; 08 R229; reset none. -/
  iconWas : Bytes × Bool := ([], false)
  iconAt : Option Time := none
  /-- The last frame had a failing region (WIT_CRC_FAIL); 1 bit; 07 R201; reset 0. -/
  crcFail : Bool := false
  deriving DecidableEq, Repr

/-- One trio core: the registers of 10 Table 10.1, the data SRAM, and what 09 says of a core. -/
structure Core where
  /-- Core state of a voted trio; 2 bits; 09 R233; reset OUT (TRIO_CORES 0x3F). -/
  st : CoreState := .out
  /-- Kept out until the next start-up of the module (09 Table 9.1): a failure took the core OUT; reset 0. -/
  failed : Bool := false
  /-- PC; 17 bits; 10 R265; reset 0. -/
  pc : Nat := 0
  /-- ACC; 1 bit; 10 R265; reset 0. -/
  acc : Bool := false
  /-- LS, top first; 16 entries of 1 bit; 10 R265; reset empty. -/
  ls : List Bool := []
  /-- WACC; 32 bits; 10 R265; reset 0. -/
  wacc : Word := 0
  /-- IX; 16 bits; 10 R265; reset 0. -/
  ix : BitVec 16 := 0
  /-- Z, N, V, C and OVS; 1 bit each; 10 R265; reset 0. -/
  z : Bool := false
  n : Bool := false
  v : Bool := false
  c : Bool := false
  ovs : Bool := false
  /-- CS, top first; 8 entries of 17 bits; 10 R265; reset empty. -/
  cs : List Nat := []
  /-- T_NOW; 32 bits; 10 R265; reset 0 (DESIGN CHOICE, log 4). -/
  tnow : Word := 0
  /-- Data SRAM; 32 KiB; 10 R269; an unlisted byte reads 0 (DESIGN CHOICE, log 5). -/
  sram : List Host.Cell := []
  /-- Exchange mask: elements (timer n, 1,000 + counter n by CTU, 2,000 + counter n by CTD, 10,000 + edge bit n); 11 R307, R308; reset none. -/
  mask : List Nat := []
  /-- The core has executed END in this cycle; 1 bit; 10 R274; reset 0. -/
  ended : Bool := false
  /-- Clocks of the cycle in progress, and instructions executed in it; counts; 11 R286, 09 R260; reset 0. -/
  clocks : Nat := 0
  steps : Nat := 0
  /-- Input registers: I, X values, X qualities; 32 + 2,048 + 2,048 bits; 09 R236; reset 0 (DESIGN CHOICE, log 4). -/
  inI : BitVec 32 := 0
  inX : BitVec 2048 := 0
  inXQ : BitVec 2048 := 0
  /-- Parity of each input register: I in bit 0, X values in bit 1, X qualities in bit 2; one bit each, even (DESIGN CHOICE, log 166);
  3 bits; 09 R236; reset 0. -/
  inPar : BitVec 3 := 0
  /-- When the input registers were last written, and what they held before: I, X values, X qualities; 09 R236 (MODEL's own);
  reset none, 0. -/
  inAt : Option Time := none
  inWas : BitVec 32 × BitVec 2048 × BitVec 2048 := (0, 0, 0)
  /-- Bits of data SRAM with a correctable error (8 x offset + bit), and bytes with an uncorrectable one; 09 R244; reset none. -/
  ceAt : List Nat := []
  ueAt : List Nat := []
  /-- Cycle numbers of its blames, latest first; 09 R247; reset none. -/
  blames : List Nat := []
  deriving DecidableEq, Repr

/-- What runs a program: a voted trio (code 0) or a split-mode core (code 1 to 3). -/
structure RunUnit where
  /-- State; 3 bits; 09 R234; reset EMPTY (0). -/
  st : RunState := .empty
  /-- Halt cause (TRIO_HALT_CAUSE); 0 to 8; 09 R248, R254; reset 0. -/
  cause : Nat := 0
  /-- Exception code, raising core, its PC, cycle number and T_NOW at the halt; 10 R284, 14 Table 14.9; reset 0. -/
  excCode : Nat := 0
  excCore : Nat := 0
  excPc : Nat := 0
  excCycle : Nat := 0
  excTnow : Word := 0
  /-- Instruction SRAM: the program words, and the container they came from; 64 Ki words; 10 R271, 11 R304; reset none. -/
  code : List Word := []
  container : Bytes := []
  /-- When the unit last entered HALTED; REF cycles; 10 R285 (MODEL's own); reset 0. -/
  haltAt : Time := 0
  /-- The program has not changed since the unit last ran; 1 bit; 11 R294; reset 0. -/
  unchanged : Bool := false
  /-- Cycles started (the number of the cycle is one less), start of the cycle, in a cycle; 11 R286, 09 R242; reset 0. -/
  cycle : Nat := 0
  cycleAt : Time := 0
  inCycle : Bool := false
  /-- The cycle watchdog runs, and the start of its period; 11 R289; reset 0. -/
  wdtOn : Bool := false
  wdtAt : Time := 0
  /-- The cycle in progress follows an exchange pause; 1 bit; 11 R290; reset 0. -/
  exchCycle : Bool := false
  /-- First-cycle flags F0, F1, F2, F5 due at the next cycle start; 1 bit each; 10 R270, 11 R293; reset 0. -/
  first : Bool := false
  warm : Bool := false
  cold : Bool := false
  exch : Bool := false
  /-- The unit is halted for an uncorrectable error in its data SRAM; 1 bit; 09 R254, 11 R294; reset 0. -/
  dataErr : Bool := false
  /-- Clocks from the last cycle start to the one before; count; 11 R287; reset 0. -/
  lastClocks : Nat := 0
  /-- A debugger step is executing; 1 bit; 09 R260 (MODEL's own); reset 0. -/
  stepping : Bool := false
  /-- A stop request, and a debug halt request, wait for a boundary; 1 bit each; 11 R291, 09 R260; reset 0. -/
  stopReq : Bool := false
  /-- Breakpoints, by slot 0 to 3; 14 Table 14.9; reset none. -/
  breaks : Table (Option Nat) := []
  /-- Debugger writes waiting for an instruction boundary: instructions executed there, when the write arrived, offset, bytes;
  09 R260, R263; reset none. -/
  dbgWrites : List (Nat × Time × Nat × Bytes) := []
  /-- When DEBUG was entered, and the boundary at which a breakpoint is passed after a resume; 09 R259, 11 R291; reset 0, none. -/
  debugAt : Time := 0
  resumeAt : Option Nat := none
  /-- A retentive commit is due; 1 bit; 11 R296; reset 0. -/
  kDue : Bool := false
  /-- Time of the last capture; 11 R296; reset 0. -/
  kAt : Time := 0
  /-- Captured commit on its way to MRAM: T_NOW and the K and KW image; 11 R296; reset none. -/
  kStage : Option (Word × Bytes) := none
  /-- K and KW of the last written commit; 1,152 bytes; 11 R297; reset none. -/
  kLast : Option Bytes := none
  /-- Commit sequence and the copy to write next; 32 + 1 bits; 11 R295, R298; reset 0. -/
  kSeq : Word := 0
  kCopy : Bool := false
  /-- Journal restored or written (TRIO_KJ_STATE); 1 bit; 11 R300; reset 0. -/
  kOk : Bool := false
  /-- Staged exchange: container, ownership map (empty for none), check value, requesting packet; 11 R306; reset none. -/
  stage : Option (Bytes × Bytes × Word × Hdr) := none
  deriving DecidableEq, Repr

/-- The shared logic of one trio (09). -/
structure TrioSt where
  /-- Mode in force: split; 1 bit; 09 R252; reset voted (0). -/
  split : Bool := false
  /-- Voter-suspect (TRIO_CORES[8]); 1 bit; 09 R250; reset 0. -/
  suspect : Bool := false
  /-- Voter copies forced to 0 on the I/O link; 3 bits; 09 R241, R251; reset none. -/
  forced : BitVec 3 := 0
  /-- Voter copies failed since start-up, tests run, last passed (TRIO_VTEST); 09 R251; reset 0. -/
  failed : BitVec 3 := 0
  vtests : BitVec 16 := 0
  vtestOk : Bool := false
  /-- Cycle in which the copies were last tested; 09 R251; reset none. -/
  testedAt : Option Nat := none
  /-- Q results of the voter copies A, B, C (split mode: the core's own Q); 16 bits each; 09 R239; reset 0. -/
  qA : BitVec 16 := 0
  qB : BitVec 16 := 0
  qC : BitVec 16 := 0
  /-- Voted Y bits; 2,048 bits; 09 R239; reset 0. -/
  y : BitVec 2048 := 0
  /-- Disturbances of the voter copies in this cycle's vote; 09 R241; reset none. -/
  flips : List VoterFlip := []
  /-- Cores that this cycle's voter test has taken OUT: their offers still stand in its vote; 3 bits; 09 R251, R263; reset none. -/
  leaving : BitVec 3 := 0
  /-- Reintegrations whose core has been blamed again; 09 R247; reset none. -/
  readmitted : List (Fin 3) := []
  deriving DecidableEq, Repr

/-- One field input (12). -/
structure InSt where
  /-- CNT; 0 to 255; 12 R317; reset 0 (set from the first sample, R318). -/
  cnt : Nat := 0
  /-- Filtered value; 1 bit; 12 R317; reset 0. -/
  filt : Bool := false
  /-- Pulse-missing and cross-short faults, and clean frames since; 12 R324; reset none. -/
  testFault : Bool := false
  crossFault : Bool := false
  clean : Nat := 0
  /-- A check of this test frame failed; 1 bit; 12 R324; reset 0. -/
  dirty : Bool := false
  /-- Change event waiting: MERGED, changes merged, sample count, time of the last event; 12 R319; reset none. -/
  evtDue : Bool := false
  merged : Nat := 0
  evtSample : Nat := 0
  evtAt : Option Time := none
  /-- Samples before this time are masked by the input's test-pulse window; REF cycles; 12 R323; reset none. -/
  maskTo : Time := 0
  /-- Value of the input at the last evaluation of its pair, its fault forcing included; 1 bit; 12 R319, R321; reset 0. -/
  last : Bool := false
  deriving DecidableEq, Repr

/-- One input pair in equivalence or antivalence mode (12). -/
structure PairSt where
  /-- Pair value; 1 bit; 12 R320; reset 0. -/
  value : Bool := false
  /-- Discrepancy fault; 1 bit; 12 R321; reset 0. -/
  disc : Bool := false
  /-- Passed through the safe combination since last active or faulted; 1 bit; 12 R321; reset 0. -/
  passedSafe : Bool := false
  /-- When each channel last left its safe level; 12 R321; reset none. -/
  leftA : Option Time := none
  leftB : Option Time := none
  /-- Since when the pair stands in neither combination; 12 R321; reset none. -/
  since : Option Time := none
  deriving DecidableEq, Repr

/-- One test-pulse supply (12 R322). -/
structure TpSt where
  /-- Supply fault, and clean frames since; 12 R322; reset healthy (FIO_TP_STATUS 0x0F). -/
  fault : Bool := false
  clean : Nat := 0
  /-- The pin read wrong in this test frame; 1 bit; 12 R322; reset 0. -/
  dirty : Bool := false
  deriving DecidableEq, Repr

/-- A test-pulse window whose checks are still to come (12 R322 to R324). -/
structure TestWin where
  /-- Number of the TP, and the window's start edge; 0 to 3, REF cycles; 12 R322; reset 0. -/
  n : Nat := 0
  start : Time := 0
  /-- The pin reads back as it should; 1 bit; 12 R322; reset 1. -/
  pinOk : Bool := true
  /-- The samples before the window, 350 µs into it, and the first one not masked after it; 32 bits each; 12 R324; reset 0. -/
  before : BitVec 32 := 0
  mid : BitVec 32 := 0
  after : BitVec 32 := 0
  /-- The pin has been judged, the sample 350 µs into the window has been judged; 1 bit each; 12 R322, R324; reset 0. -/
  pinDone : Bool := false
  midDone : Bool := false
  deriving DecidableEq, Repr

/-- One encoder channel (12). -/
structure EncSt where
  /-- Position count (FIO_ENC_COUNTn); 32 bits, signed; 12 R325; reset 0. -/
  count : Word := 0
  /-- Accepted levels of phases A and B; 1 bit each; 12 R325; reset 0 (DESIGN CHOICE, log 4). -/
  a : Bool := false
  b : Bool := false
  /-- Faulted; 1 bit; 12 R326; reset 0. -/
  faulted : Bool := false
  deriving DecidableEq, Repr

/-- One field output (12). -/
structure OutSt where
  /-- Last accepted fields of voter copies A, B, C; 1 bit each; 12 R314; reset 0. -/
  fA : Bool := false
  fB : Bool := false
  fC : Bool := false
  /-- Driver ON (FIO_Q_DRIVE); 1 bit; 12 R328; reset OFF. -/
  drive : Bool := false
  /-- Readback high (FIO_Q_RB); 1 bit; 12 R330; reset 0. -/
  rb : Bool := false
  /-- Latched faults, by source number 43 to 47; 12 R331 to R336; reset none. -/
  latched : List Nat := []
  /-- Waiting to rearm; feedback not ready; 1 bit each; 12 R328, R336; reset 0. -/
  rearm : Bool := false
  notReady : Bool := false
  /-- The vote demanded ON in the frame before; 1 bit; 12 R336; reset 0. -/
  demanded : Bool := false
  /-- When the driver last switched; 12 R330, R333; reset 0. -/
  switchedAt : Time := 0
  /-- A dark test (true) or bright test (false) in progress; 12 R333, R334; reset none. -/
  test : Option Bool := none
  /-- When that test began; REF cycles; 12 R333, R334; reset 0. -/
  testAt : Time := 0
  /-- When an OFF vote or a forced OFF last came; REF cycles; 12 R347; reset none. -/
  offAt : Option Time := none
  /-- Overload retry due, drive classification due; 12 R331, R332; reset none. -/
  retryAt : Option Time := none
  classifyAt : Option Time := none
  /-- Class of the external-drive fault: external (true) or the group's own output switch (false); 12 R332; reset none. -/
  external : Option Bool := none
  /-- Feedback wait: the level the input must reach, and since when; 12 R336; reset none. -/
  fbWait : Option (Bool × Time) := none
  deriving DecidableEq, Repr

/-- One output group (12). -/
structure GroupSt where
  /-- Group switch closed, and latched group fault (FIO_GROUP); 12 R327, R332; reset closed, none (0x0F). -/
  closed : Bool := true
  fault : Bool := false
  deriving DecidableEq, Repr

/-- The field I/O die (12). -/
structure FioSt where
  /-- FIO_STATE; 0 to 3; 12 Table 12.7; reset 0. -/
  mode : Nat := 0
  /-- Safety I/O record in force, and a record on its way, with whether it is the default record; 336 bytes; 12 R343,
  R344, R529; reset none. -/
  record : Bytes := []
  recordNext : Option (Bytes × Bool) := none
  /-- The record in force is the default record; 1 bit; 12 R529; reset 0. -/
  isDefault : Bool := false
  /-- Inputs, pairs, test-pulse supplies, encoders, outputs, groups; 12; reset as each. -/
  ins : Table InSt := []
  pairs : Table PairSt := []
  tps : Table TpSt := []
  encs : Table EncSt := []
  outs : Table OutSt := []
  groups : Table GroupSt := []
  /-- Last raw sample (FIO_IN_RAW) and image formed; 32 bits each; 12 R314; reset 0. -/
  raw : BitVec 32 := 0
  image : BitVec 32 := 0
  /-- Samples taken; count; 12 R319; reset 0. -/
  samples : Nat := 0
  /-- L1P and L2P in mV; 16 bits each; 12 R338; reset 0. -/
  l1mv : Nat := 0
  l2mv : Nat := 0
  /-- Time of the last measurement of the supplies, and the last times each was not above its minimum + 0.5 V; REF cycles;
  12 R338; reset none, 0. -/
  measuredAt : Option Time := none
  l1BadAt : Time := 0
  l2BadAt : Time := 0
  /-- L1P low, L2P low, L1P over, L2P over (FIO_SUPPLY); 1 bit each; 12 R338; reset 0. -/
  l1Low : Bool := false
  l2Low : Bool := false
  l1Over : Bool := false
  l2Over : Bool := false
  /-- Test-pulse window with checks to come; the last window (TP, start) and the last output test (output, start), which place the
  slots of the 20 ms and 1 s test frames; 12 R322, R333; reset none. -/
  window : Option TestWin := none
  lastWin : Option (Nat × Time) := none
  lastTest : Option (Nat × Time) := none
  /-- Heartbeat expired; 1 bit; 12 R341, R342; reset expired (power-up). -/
  hbExpired : Bool := true
  /-- Heartbeats accepted in a row, last sequence, last accepted at; 12 R341, R342; reset 0, none. -/
  hbRun : Nat := 0
  hbSeq : Option Byte := none
  hbAt : Time := 0
  /-- Quench seen on the line; 1 bit; 12, 01 R16, 15 R420; reset asserted. -/
  quench : Bool := true
  /-- Ownership map entries Q0 to Q15 as the die took them; 16 bytes; 12 R328; reset none. -/
  owners : Bytes := []
  /-- Self-test passed, its output parts deferred; 1 bit each; 17 R446; reset 0. -/
  tested : Bool := false
  deferred : Bool := false
  /-- The self-test of this start-up failed; 1 bit; 17 R445; reset 0. -/
  testFailed : Bool := false
  /-- Drivers shut down by temperature, by the internal supply, or by the die clock; 1 bit; 20 R516, 18 Table 18.1; reset 0. -/
  shut : Bool := false
  deriving DecidableEq, Repr

/-- The SoC side of the I/O link (12, 18 R472). -/
structure IolSt where
  /-- Last I image delivered (FIO_IN_IMAGE); 32 bits; 12 R314; reset 0. -/
  image : BitVec 32 := 0
  /-- The receiver has lost the link; 1 bit; 12 R315; reset 0. -/
  lost : Bool := false
  /-- Encoder counts and marking as last delivered; 06 R155, 12 R314; reset 0. -/
  enc0 : Word := 0
  enc1 : Word := 0
  encBad : BitVec 2 := 0
  /-- Content of the last valid frame from the die (Field.dieFrame); 26 bytes; 12 R314; reset FIO_GROUP and FIO_TP_STATUS 0x0F, else 0. -/
  frame : Bytes := [0, 0, 0, 0, 0, 0, 0, 0, 0, 0, 0, 0, 0, 0, 0, 0, 0, 0, 0x0F, 0x0F, 0, 0, 0, 0, 0, 0]
  /-- Time of the last valid frame; REF cycles; 12 R315; reset 0. -/
  frameAt : Time := 0
  /-- Heartbeat sequence to send next, and the heartbeat on the wire; 12 R341; reset 0 (DESIGN CHOICE, log 4). -/
  hbNext : Byte := 0
  hbSent : Option (Byte × Bool) := none
  deriving DecidableEq, Repr

/-- One Erg port (13). -/
structure ErgPort where
  /-- Linked, faulted (ERG_PORT); 1 bit each; 13 R349; reset 0. -/
  up : Bool := false
  fault : Bool := false
  /-- Measured cable delay in ns; 13 R351; reset 0 (DESIGN CHOICE, log 4). -/
  cableNs : Nat := 0
  /-- The delay has been measured since the link came up, and the cycles since; 1 + 10 bits; 13 R351; reset 0. -/
  echoed : Bool := false
  echoAge : Nat := 0
  /-- Linked to another ERGA; 1 bit; 13 R349; reset 0. -/
  badPeer : Bool := false
  /-- Cycles in a row without a valid frame; 13 R377; reset 0. -/
  idle : Nat := 0
  /-- A valid frame came in this cycle; 1 bit; 13 R377; reset 0. -/
  heard : Bool := false
  /-- Distance to the lead by this port (ERG_HOPS); 6 bits; 13 Table 13.9; reset none (0x3F). -/
  hops : Nat := 63
  /-- Cycles in a row without a sync by this port; 2 bits; 13 Table 13.9 (log 213); reset 0. -/
  syncAge : Nat := 0
  /-- Distance to each device whose frames came by this port, 0 not known; 6 bits each; 13 R372; reset none. -/
  dist : Table Nat := []
  deriving DecidableEq, Repr

/-- An angle channel received over the Erg Link (06 R156, 13 R376). -/
structure AngleRx where
  value : Int := 0
  seq : Nat := 0
  valid : Bool := false
  quality : Bool := false
  miss : Nat := 0
  deriving DecidableEq, Repr

/-- A sync frame as accepted (13 R363). -/
structure SyncSeen where
  hops : Nat
  cycle : Word
  stampNs : Int
  deriving DecidableEq, Repr

/-- What an accepted frame writes, as it stood before a slot was accepted: X bits and angle channels, the devices heard, the
grants (13 R377). -/
structure ErgUndo where
  slot : Nat
  x : BitVec 2048
  xq : BitVec 2048
  xMiss : Table Nat
  angles : Table AngleRx
  heard : BitVec 64
  grantsNext : Table (Nat × Nat)
  grantIdle : Table Nat
  deriving DecidableEq, Repr

/-- What an accepted sync brings, as it stood before it, and the cycle as the module's own estimate has it (13 R365, R377). -/
structure SyncUndo where
  cycle : Word
  cycleNs : Int
  heard : BitVec 64
  grants : Table (Nat × Nat)
  grantsNext : Table (Nat × Nat)
  leadSerial : BitVec 64
  standbyLeads : Bool
  periods : List Int
  syncMiss : Nat
  claimWait : Nat
  claimOut : Bool
  deriving DecidableEq, Repr

/-- A SERVICE payload of a slot in a ring, whose copy by the other port is awaited until a time in ns (13 R377). -/
structure HeldService where
  slot : Nat
  payload : Bytes
  until' : Int
  deriving DecidableEq, Repr

/-- A frame leaving the module's Erg ports (13 R350, R351): which ports, and the frame. -/
structure ErgTx where
  onA : Bool
  onB : Bool
  frame : ErgFrame
  /-- When its last bit leaves; ns; 13 R353. -/
  endNs : Int
  /-- A forwarded frame that an owned frame has cut; 1 bit; 13 R361. -/
  cut : Bool := false
  deriving DecidableEq, Repr

/-- A SERVICE payload on its way (13 R378): its place in Crucible staging, none where it goes through SP SRAM (04 R109), and
its bytes. -/
structure ServicePkt where
  addr  : Option Nat := none
  bytes : Bytes
  deriving DecidableEq, Repr

/-- The Erg Link unit (13). -/
structure ErgSt where
  /-- ERG_STATE; 3 bits; 13 R362; reset OFF. -/
  st : ErgState := .off
  /-- Role and device number in force; 2 + 6 bits; 13 R382; reset 0. -/
  role : Nat := 0
  device : Nat := 0
  /-- Ports ERGA and ERGB; 13 R349; reset as each. -/
  portA : ErgPort := {}
  portB : ErgPort := {}
  /-- Schedule in force (taken at the join); 13 R356; reset none. -/
  sched : Bytes := []
  /-- Remote-signal map in force; 16,480 bytes; 13 R374; reset none. -/
  map : Bytes := []
  /-- Consistent syncs in a row, and the previous sync; 13 R363; reset 0, none. -/
  syncRun : Nat := 0
  prevSync : Option SyncSeen := none
  /-- Stamp intervals of the last 16 accepted syncs in ns, latest first; 13 R358; reset none. -/
  periods : List Int := []
  /-- ERG_CYCLE, and the cycle's estimated start in ns; 32 bits; 13 R357, R358; reset 0. -/
  cycle : Word := 0
  cycleNs : Int := 0
  /-- The cycle's start by the guardian's own time base, in ns; 13 R361; reset 0. -/
  guardNs : Int := 0
  /-- Syncs missed in a row; 13 R365; reset 0. -/
  syncMiss : Nat := 0
  /-- Devices heard in the last cycle (ERG_MEMBERS) and in this one; 64 bits each; 13 Table 13.9; reset 0. -/
  members : BitVec 64 := 0
  heard : BitVec 64 := 0
  /-- Slots decided in this cycle, and the FCS accepted for each; 13 R372, R377; reset none. -/
  accepted : Table (Option Word) := []
  /-- Slots decided as missed in this cycle; 13 R372; reset none. -/
  missed : List Nat := []
  /-- Grants of the current sync, of the one before, and of the next one a lead sends: slot and device, by grant 0 to 7;
  13 R371; reset none. -/
  grants : Table (Nat × Nat) := []
  grantsOld : Table (Nat × Nat) := []
  grantsNext : Table (Nat × Nat) := []
  /-- What stood before the latest slot accepted: a copy that differs in a ring makes the slot missed; 13 R377; reset none. -/
  undo : Option ErgUndo := none
  /-- What stood before the latest sync accepted; 13 R377; reset none. -/
  syncUndo : Option SyncUndo := none
  /-- A SERVICE payload that waits for its copy in a ring; 13 R377; reset none. -/
  heldService : Option HeldService := none
  /-- Cycles in a row with no frame in a granted slot; 13 R371; reset none. -/
  grantIdle : Table Nat := []
  /-- Missed updates in a row of each X bit; 13 R376; reset none. -/
  xMiss : Table Nat := []
  /-- X values and qualities as last written; 2,048 bits each; 13 R376; reset 0 (DESIGN CHOICE, log 4). -/
  x : BitVec 2048 := 0
  xq : BitVec 2048 := 0
  /-- RX angle channels; 13 R376; reset none. -/
  angles : Table AngleRx := []
  /-- Captured payload of each owned slot, and the FCS sent in it this cycle; 13 R375, R367; reset none. -/
  capture : Table (Option Bytes) := []
  sentFcs : Table (Option (Word × Word)) := []
  /-- Slots now on the wire under the guardian; 13 R361; reset none. -/
  onWire : List Nat := []
  /-- Sequence number of the angle words sent, one up each cycle; 8 bits; 06 R156, 13 R375; reset 0. -/
  angleSeq : BitVec 8 := 0
  /-- Cycles in a row with a guardian suppression, and one in this cycle; 13 R361; reset 0. -/
  cutRun : Nat := 0
  cutNow : Bool := false
  /-- SILENT: ticks left, cause, the other module's serial; 13 R366, R367; reset 0. -/
  silentLeft : Nat := 0
  silentCause : Nat := 0
  otherSerial : BitVec 64 := 0
  /-- Serial number of the current lead; 64 bits; 13 Table 13.9; reset 0. -/
  leadSerial : BitVec 64 := 0
  /-- Acting standby lead; 1 bit; 13 R369; reset 0. -/
  acting : Bool := false
  /-- The sync accepted last had TAKEOVER set, or this module leads as the standby; 1 bit; 13 R354, R369; reset 0. -/
  standbyLeads : Bool := false
  /-- A hand-back sync came; yield at the next cycle start; 1 bit; 13 R369; reset 0. -/
  yielding : Bool := false
  /-- Claim back-off in cycles; a claim of this module is out; 13 R370; reset 0. -/
  claimWait : Nat := 0
  claimOut : Bool := false
  /-- The mismatch fault has been raised since entry into LISTEN; 1 bit; 13 R363; reset 0. -/
  mismatch : Bool := false
  /-- The map in force does not fit the schedule of the join; 1 bit; 13 R363, R374; reset 0. -/
  mapBad : Bool := false
  /-- The start-up waits at the join step, and since when; 13 R364; reset 0. -/
  joinWait : Bool := false
  joinAt : Time := 0
  /-- A configured lead or a finished conflict waits for the next tick edge to lead; 13 R364; reset 0. -/
  leadNext : Bool := false
  /-- SERVICE payloads waiting for the module's own slot; 13 R378; reset none. -/
  serviceOut : List ServicePkt := []
  /-- Next place in Crucible staging, in 2,048 bytes; 01 R17, 04 Table 4.1; MODEL's own; reset 0. -/
  stagingAt : Nat := 0
  /-- Frames sent and forwarded, latest first; MODEL's own; reset empty. -/
  tx : List ErgTx := []
  deriving DecidableEq, Repr

/-- A host session (14 R388) or a service session (19 R482). -/
structure Session where
  ip : BitVec 32
  port : BitVec 16
  /-- When a packet last passed step 4; 14 R388. -/
  lastAt : Time
  deriving DecidableEq, Repr

/-- What a service session keeps besides (19 R482, R484). -/
structure SvcSt where
  sess : Option Session := none
  /-- Its own HSEQ_NEXT and window of 16 replies; 19 R482; reset 0, empty. -/
  hseqNext : Word := 0
  hseqLast : Word := 0
  window : List OutPkt := []
  /-- NONCE outstanding, with its issue time; 16 bytes; 19 R484; reset none. -/
  nonce : Option (Bytes × Time) := none
  /-- Authenticated; 1 bit; 19 R484; reset 0. -/
  authed : Bool := false
  deriving DecidableEq, Repr

/-- A command the SP executes over several steps (14 R390): which, and the packet to answer. -/
structure Held where
  h : Hdr
  opcode : Nat
  /-- Block code or run unit concerned; bytes to read of an I2C transaction. -/
  arg : Nat := 0
  /-- Camera of an I2C transaction. -/
  camera : Nat := 0
  /-- The stopped domain in which an access of the command hangs; 18 R473, R474. -/
  hung : Option Nat := none
  deriving DecidableEq, Repr

/-- A forwarded command that awaits its reply (13 R379). -/
structure Fwd where
  h : Hdr
  opcode : Nat
  /-- Its session; 14 R389. -/
  ix : Nat := 0
  /-- Tick edges left before WORKER_TIMEOUT, from when it was sent; 13 R379. -/
  sent : Bool := false
  left : Nat := 0
  deriving DecidableEq, Repr

/-- Staging of a bulk opcode (14 R399). -/
structure Staging where
  index : Nat
  total : Nat
  data : Bytes
  deriving DecidableEq, Repr

/-- An event sent and not acknowledged (14 R394). -/
structure Unacked where
  eseq : Word
  resends : Nat := 0
  sentAt : Time
  deriving DecidableEq, Repr

/-- The host interface (14). -/
structure HostSt where
  /-- The open session (SYS_SESSION_IP, SYS_SESSION_PORT); 14 R388; reset none. -/
  sess : Option Session := none
  /-- HSEQ_NEXT and HSEQ_LAST; 32 bits each; 14 R392, R397; reset 0 (HSEQ_LAST DESIGN CHOICE, log 4). -/
  hseqNext : Word := 0
  hseqLast : Word := 0
  /-- Replay window, latest first; 128 replies; 14 R389; reset empty. -/
  window : List OutPkt := []
  /-- Command queue, oldest first; 16 packets; 14 R390; reset empty. -/
  queue : List Instr := []
  /-- The command the SP is executing over several steps; 14 R390; reset none. -/
  held : Option Held := none
  /-- Forwarded commands; 13 R378, R379; reset none. -/
  fwd : List Fwd := []
  /-- The packet in hand came out of the queue; MODEL's own; reset false. -/
  fromQueue : Bool := false
  /-- Latest ESEQ (SYS_ESEQ), latest acknowledged, latest sent; 32 bits each; 14 R393, R394; reset 0. -/
  eseq : Word := 0
  acked : Word := 0
  lastSent : Word := 0
  /-- Sent events without acknowledgement; 14 R394; reset none. -/
  unacked : List Unacked := []
  /-- Events lost (EVT_LOG_INFO); those not yet reported, first ESEQ and count; ESEQ of the last EV-110; 32 bits
  each; 14 R396; reset 0, none, 0. -/
  lost : Nat := 0
  gap : Option (Word × Nat) := none
  gapAt : Word := 0
  /-- Fault events held while the SP restarts, oldest first: entry bytes without ESEQ; 19 R493; reset empty. -/
  parked : List Bytes := []
  /-- Event packets muted; 1 bit; 14 R400; reset 0. -/
  muted : Bool := false
  /-- 64-entry event ring in SP SRAM, latest first; 04 R109; reset empty. -/
  ring : List Bytes := []
  /-- Staging of each bulk opcode; 14 R399; reset none. -/
  staging : Table (Option Staging) := []
  /-- The host link is up; 1 bit; 15 R410 (FS-083); reset 0 (DESIGN CHOICE, log 4). -/
  linkUp : Bool := false
  /-- Service sessions 0 and 1, the recovery session and the forwarded session; 19 R482, R498, R500; reset none. -/
  svc0 : SvcSt := {}
  svc1 : SvcSt := {}
  rom : SvcSt := {}
  fwdSess : SvcSt := {}
  /-- Everything sent on the packet interfaces, latest first; MODEL's own; reset empty. -/
  tx : List OutPkt := []
  deriving DecidableEq, Repr

/-- A fault record (15 Table 15.5). -/
structure FaultRec where
  cls : Nat
  rail : Bool
  escalated : Bool
  merged : Bool
  mode : Nat
  count : Nat
  seq : Word
  detail : Word
  tick : Word
  time : Nat
  loc : BitVec 64
  deriving DecidableEq, Repr

/-- One fault source at the collector (15). -/
structure FaultSrc where
  /-- Detection the source holds its pair with, and detections merged behind it; 15 R408; reset none. -/
  held : Option Detection := none
  behind : Option Detection := none
  /-- The held detection is a merged one; 15 R408; reset 0. -/
  mergedHeld : Bool := false
  /-- The pair has not returned to OK since the last event; 1 bit; 15 R408; reset 0. -/
  active : Bool := false
  /-- The cause, where no other field of the state shows it, persists; 1 bit; 15 R408, R424; reset 0. -/
  persists : Bool := false
  /-- First-fault and latest-fault records (LATCHED); 15 R422; reset none. -/
  first : Option FaultRec := none
  latest : Option FaultRec := none
  /-- COUNT; 32 bits; 15 R422; reset 0. -/
  count : Nat := 0
  /-- Times of the events counted towards N, latest first; 15 R413; reset none. -/
  times : List Time := []
  /-- Escalated; 1 bit; 15 R413; reset 0. -/
  escalated : Bool := false
  /-- Time of its last entry in the MRAM fault log; 15 R426; reset none. -/
  loggedAt : Option Time := none
  /-- Samples of the pair: when it last read other than 01, since when it has read 00 or 11, since when 01; REF cycles; 15 R407; reset
  none. -/
  badAt : Option Time := none
  railAt : Option Time := none
  okAt : Option Time := none
  /-- The rail fault of the event is counted; 1 bit; 15 R407; reset 0. -/
  railed : Bool := false
  deriving DecidableEq, Repr

/-- The fault collector (15). -/
structure FaultSt where
  srcs : Table FaultSrc := []
  /-- Mode (FLT_MODE); 2 bits; 15 R412; reset START (1). -/
  mode : FltMode := .start
  /-- Quench asserted (FLT_QUENCH[0]); 1 bit; 15 R420; reset asserted. -/
  quench : Bool := true
  /-- First quench source since release (FLT_QUENCH[15:8]); 8 bits; 15 Table 15.8; reset 0. -/
  quenchSrc : Nat := 0
  /-- The collector's own self-test of the start-up has passed; 1 bit; 15 R420; reset 0. -/
  selfOk : Bool := false
  /-- Block codes of units under test (TEST mode); 15 R412; reset none. -/
  testing : List Nat := []
  /-- Sources whose FLT_CFG or FLT_CLASS has been written since the last tick edge, and when: their window starts afresh there; 15 R415;
  reset none. -/
  written : List (Nat × Time) := []
  deriving DecidableEq, Repr

/-- A slice in progress (17 R457). -/
structure SliceRun where
  unit : Nat
  seg : Nat
  startAt : Time
  deriving DecidableEq, Repr

/-- A BIST_RUN in progress (17 R462). -/
structure BistRun where
  block : Nat
  seg : Nat := 0
  deriving DecidableEq, Repr

/-- What BIST_RUN has taken on the present edge, as it stood before (17 R464). -/
structure BistFrom where
  /-- The unit's number in its class; 5 bits; 17 R462; reset none held. -/
  unit : Nat
  /-- The units whose failed segment is to be repeated, and the unit's aborts in a row; 17 R458, R459; reset none held. -/
  retry : List Nat
  aborts : Nat
  /-- The lane, and the state of the core, where the unit is one; 17 Table 17.3; reset none held. -/
  lane : Option Lane := none
  core : Option CoreState := none
  deriving DecidableEq, Repr

/-- Self-test and start-up (17). -/
structure StSt where
  /-- ST_STEP; 4 bits; 17 R441; reset 0. -/
  step : Nat := 0
  /-- The present start-up ran as a fast start (BIST_STATUS FLAGS[0]); 1 bit; 17 R463; reset 0. -/
  fast : Bool := false
  /-- When the camera-start step began; REF cycles; 17 R442; reset 0. -/
  camStartAt : Time := 0
  /-- Stored objects that this start-up has not restored, by key; they stay in MRAM; 17 R445, R448; reset none. -/
  unrestored : List Nat := []
  /-- Start-up has stopped; the module is in ROM recovery; 1 bit each; 17 R445, 19 R500; reset 0. -/
  stopped : Bool := false
  rom : Bool := false
  /-- nRESET is low; 1 bit; 18 R479; reset 0. -/
  inReset : Bool := false
  /-- Engines removed; 8 bits; 05 R144, 17 R460; reset none (VIEW_ENGINE_POOL 0xFF). -/
  engineOut : BitVec 8 := 0
  /-- Units of the SoC kept out since start-up, by block code; 17 R445; reset none. -/
  blocksOut : List Nat := []
  /-- Next unit of each slice class (for the Crucible its next block, ST_CRU_POS), and next segment of each unit by block
  code; 17 R457; reset 0. -/
  nextUnit : Table Nat := []
  nextSeg : Table Nat := []
  /-- Tick edges since the last completed slice of each class; 17 R457; reset 0. -/
  since : Table Nat := []
  /-- Slices in progress, by class; 17 R457; reset none. -/
  running : Table (Option SliceRun) := []
  /-- Units, by block code, whose segment failed once and is to be run again; 17 R458; reset none. -/
  retry : List Nat := []
  /-- Consecutive aborts per unit, and the most so far; 17 R459, Table 17.6; reset 0. -/
  aborts : Table Nat := []
  abortMax : Nat := 0
  /-- Segments passed since the start-up per unit, by block code, segment n in bit n (0x50: 1 after the first complete
  Crucible pass); 17 R461; reset none. -/
  passed : Table Nat := []
  /-- FAIL_UNIT and FAIL_KIND; 8 bits each; 17 Table 17.6; reset 0xFF, 0. -/
  failUnit : Nat := 255
  failKind : Nat := 0
  /-- The test a host asked for; 17 R462; reset none. -/
  bist : Option BistRun := none
  /-- The latest known-answer test of each channel without slices, by 4 x block code + preset; REF cycles; 17 R451; reset none. -/
  katAt : Table (Option Time) := []
  deriving DecidableEq, Repr

/-- Clocks, resets and the service processor (18). -/
structure ClkSt where
  /-- Domain states, by number: 0 trio, 1 view, 2 to 4 WA to WC, 5 Crucible, 6 SP, 7 Erg (SYS_DOMAIN_STATUS); 18 R469; reset running. -/
  doms : Table DomState := []
  /-- PLLs locked (SYS_PLL_LOCK); 7 bits; 18 Table 18.6; reset 0. -/
  locks : BitVec 7 := 0
  /-- REF runs from the backup oscillator (SYS_REF_SOURCE); 1 bit; 18 R467; reset 0. -/
  backup : Bool := false
  /-- The service processor; 18 R471; reset running. -/
  sp : SpState := .running
  /-- Times of SP restarts under R471, latest first; 18 R471; reset none. -/
  restarts : List Time := []
  /-- A cause waits for an SP restart; the SP is held in reset until the module restarts; 1 bit each; 18 R471, 19 R495; reset 0. -/
  spDue : Bool := false
  spOut : Bool := false
  /-- When each domain stopped, or entered reset; REF cycles; 18 R469; reset none. -/
  stoppedAt : Table Time := []
  /-- SYS_TJ_MAX has been read since the last measurement; 1 bit; 00 R524; reset 0. -/
  tjRead : Bool := false
  deriving DecidableEq, Repr

/-- One copy of the boot control word (19 Table 19.4). -/
structure BootCtl where
  activeB : Bool := false
  pending : Bool := false
  trialUsed : Nat := 0
  seq : Nat := 0
  deriving DecidableEq, Repr

/-- A firmware slot: its descriptor and what it holds (19 Table 19.4). -/
structure Slot where
  /-- STATE 0 to 5; 19 Table 19.4; reset a module fact. -/
  state : Nat := 0
  rb : Nat := 0
  version : Word := 0
  image : Bytes := []
  deriving DecidableEq, Repr

/-- Firmware update and life cycle: fuses and the boot record (19). -/
structure UpdSt where
  /-- Life-cycle state by fuses (UPD_LC_STATE); 3 bits; 19 R501; reset DEVELOP (1). -/
  lc : Nat := 1
  /-- Anti-rollback fuses blown (UPD_RB_COUNT); 0 to 64; 19 R488; a module fact, 0 (DESIGN CHOICE, log 6). -/
  rbCount : Nat := 0
  /-- UPD_VERSION_FLOOR; 32 bits; 19 R488; a module fact, 0x0001_0000 (DESIGN CHOICE, log 6). -/
  floor : Word := 0x00010000
  /-- Serial number and MAC address in fuses; 64 + 48 bits; 00 R524; module facts, 0 (DESIGN CHOICE, log 6). -/
  serial : BitVec 64 := 0
  mac : BitVec 48 := 0
  /-- Device-unique key; 256 bits; 19 R484; a module fact, 32 zero bytes (DESIGN CHOICE, log 6). -/
  key : Bytes := []
  /-- CUST_KEY_HASH fuses, empty while none is blown, and the revoke fuse; 256 + 1 bits; 19 R502; reset none. -/
  custHash : Bytes := []
  custRevoked : Bool := false
  /-- Boot control word in force; 19 R489; a module fact: slot A, not pending (DESIGN CHOICE, log 6). -/
  ctl : BootCtl := {}
  /-- The two copies of the boot control word as the MRAM holds them, and whether copy 1 is the one written last; 64 bits each; 19 R489,
  Table 19.4; copy 0 slot A, not pending, copy 1 none (DESIGN CHOICE, log 6). -/
  ctlCopy0 : BitVec 64 := 0x48674BC700000000
  ctlCopy1 : BitVec 64 := 0
  ctlLast : Bool := false
  /-- Erase marker complete; 19 R489; a module fact: complete (DESIGN CHOICE, log 6). -/
  eraseDone : Bool := true
  /-- Slots A and B; 19 R489; module facts (DESIGN CHOICE, log 6). -/
  slotA : Slot := { state := 3, version := 0x00010000 }
  slotB : Slot := {}
  /-- VERSION of the running image (SYS_FW_VERSION); 32 bits; 00 R524; a module fact (DESIGN CHOICE, log 6). -/
  running : Word := 0x00010000
  /-- Update lock holder (UPD_LOCK), and its last packet; 0 to 4; 19 R498; reset free (0). -/
  lock : Nat := 0
  lockAt : Time := 0
  /-- Wrong responses in a row, and lockout since, per link (0 service port, 1 UART, 2 forwarded); 19 R484; reset 0. -/
  failRun : Table Nat := []
  lockout : Table (Option Time) := []
  /-- Vendor debug port open; 1 bit; 19 R501, R503; reset closed. -/
  debugPort : Bool := false
  deriving DecidableEq, Repr

/-- The MRAM's records (17 R528). -/
structure MramSt where
  /-- Start-ups since manufacture (SYS_BOOT_ID); 32 bits; 00 R524; a module fact, 0 before the first start-up (DESIGN CHOICE, log 6). -/
  bootId : Word := 0
  /-- Configuration record in force: entries, pool table, SEQ, FORMAT (UPD_CFG_FORMAT); 1,152 x (16 + 32), 528 x 8, 32, 16 bits; 17 R447;
  none, 0, 1 (DESIGN CHOICE, log 6). -/
  cfg : Table (Option Word) := []
  cfgPool : Bytes := []
  cfgSeq : Word := 0
  cfgFormat : Nat := 1
  /-- The two copies of the configuration record as the MRAM holds them, and whether copy 1 is the one written last; 9,760 bytes each;
  17 R447, Table 17.8; copy 0 a record of no entries, copy 1 none (DESIGN CHOICE, log 6). -/
  cfgCopy0 : Bytes := [1, 0, 0, 0, 0, 0, 0, 0, 0, 0, 0, 0, 0x14, 0x97, 0x7C, 0xB0]
  cfgCopy1 : Bytes := []
  cfgLast : Bool := false
  /-- Objects, by kind x 65,536 + index: contexts, meshes, lists, tables, images, icons, containers, map, I/O
  record, schedule, remote map; 17 R528; reset none. -/
  objs : Table Bytes := []
  /-- Confirmed check value (TRIO_CHK_CONFIRMED); 32 bits; 11 R302; reset none (0). -/
  confirmed : Option Word := none
  /-- Journal copies, by 2 x unit + copy; 1,184 bytes each; 11 R295; reset none. -/
  journals : Table Bytes := []
  /-- Fault log entries, newest first, and the newest position (FLT_LOG_NEWEST); 512 x 48 bytes; 15 R426; reset none, 0. -/
  log : List Bytes := []
  logPos : Nat := 0
  /-- Event mirror, newest first; 1,024 x 64 bytes; 14 R395; reset none. -/
  mirror : List Bytes := []
  /-- Soft-repair table in force, its entries and SEQ; 1,024 x 16 bytes, 32 bits; 17 R455; reset none, 0. -/
  repairs : List Bytes := []
  repairSeq : Word := 0
  /-- The two copies of the soft-repair table as the MRAM holds them, and whether copy 1 is the one written last; 16,400 bytes each;
  17 R455, Table 17.5; none (DESIGN CHOICE, log 6). -/
  repairCopy0 : Bytes := []
  repairCopy1 : Bytes := []
  repairLast : Bool := false
  deriving DecidableEq, Repr

/-- A check-value channel (16 R431, Table 16.1). -/
structure Channel where
  /-- WIDTH; 8, 16 or 32; 16 Table 16.1; reset 32 (DESIGN CHOICE, log 210). -/
  width : Nat := 32
  /-- POLY, INIT and XOROUT; WIDTH bits each; 16 Table 16.1; reset the Store preset (DESIGN CHOICE, log 210). -/
  poly : Nat := 0x1EDC6F41
  init : Nat := 0xFFFFFFFF
  xorout : Nat := 0xFFFFFFFF
  /-- REFIN and REFOUT; 1 bit each; 16 Table 16.1; reset the Store preset (DESIGN CHOICE, log 210). -/
  refin : Bool := true
  refout : Bool := true
  /-- TAG and MODE; 2 bits each; 16 Table 16.1; reset 0 (DESIGN CHOICE, log 210). -/
  tag : Nat := 0
  mode : Nat := 0
  /-- The edge of the last computation; REF cycles; 16 R440; reset none. -/
  usedAt : Option Time := none
  deriving DecidableEq, Repr

/-- A view as it stood before its commit point, what it has added to the counters since, the outcome of the read-back that came with
the command, and that of a completion of its render on the same edge (06 R175). -/
structure CommitUndo where
  view : ViewSt
  counts : List Nat
  ok : Bool
  completed : Option Bool := none
  deriving DecidableEq, Repr

/-- The job an engine has been given: its view, the render before it, and the clocks and extra overlay passes it has added (05 R150). -/
structure JobUndo where
  view : Nat
  render : Option Render
  clocks : Nat
  passes : Nat
  deriving DecidableEq, Repr

/-- A run unit and its cores before the start of a cycle, with TRIO_CYCLE_LAST and TRIO_CYCLE_MAX (11 R291). -/
structure CycleUndo where
  unit : RunUnit
  cores : List Core
  last : Nat
  longest : Nat
  deriving DecidableEq, Repr

/-- What a pipe held before the start of a frame (05 R150, 07 R204, 08 R229). -/
structure StartUndo where
  frame : Option OutFrame
  prev : Option OutFrame
  fallback : Bool
  rcount : Word
  advanced : Bool
  sent : List CsiPacket
  /-- Its fallback count is at its largest value. -/
  full : Bool
  deriving DecidableEq, Repr

/-- A write of a camera port checked at an edge while a new pool table waits for it (04 R111): the port, the run and its bytes (a row
that is poisoned has none), whether the table in force let it through, and what the run and FS-005 held before. -/
structure PoolWrite where
  port   : Nat
  addr   : Nat
  len    : Nat
  bytes  : Option Bytes
  ok     : Bool
  old    : Bytes
  poison : List Nat
  errs   : Table Nat
  src    : FaultSrc
  full   : Bool
  deriving DecidableEq, Repr

/-- An event of a fault source at the present edge: the class it has got (0: ignored) and its SEQ (15 R427). -/
structure FltEvent where
  src : Nat
  det : Detection
  rail : Bool
  merged : Bool
  cls : Nat
  seq : Word
  deriving DecidableEq, Repr

/-- What a self-test of the collector at the present edge has changed: FLT_SELFTEST, its last result, source 84, and Quench with its
first source (15 R427). -/
structure SelfUndo where
  count : Nat
  ok : Bool
  src : FaultSrc
  quench : Bool
  quenchSrc : Nat
  deriving DecidableEq, Repr

/-- What has happened at one clock edge, kept for the rules about coincidences on it (MODEL's own; log 25, log 162). -/
structure InstSt where
  /-- The edge; REF cycles; reset 0. -/
  at' : Time := 0
  /-- The S bits before the writes completed at the edge; 512 bits; 01 R25; reset none. -/
  sBefore : Option (BitVec 512) := none
  /-- V bits that have risen at the edge, by their offsets; 01 R23; reset none. -/
  risen : List Nat := []
  /-- The V space has been captured at the edge; 1 bit; 01 R23; reset 0. -/
  snapped : Bool := false
  /-- The views that each pipe showed as the snapshot of the edge was captured; 01 R22; reset none. -/
  shownBy : Table (List Nat) := []
  /-- Tiles written whole at the edge, and the number of them that were poisoned; 04 R111; reset none, 0. -/
  wrote : List Nat := []
  cleared : Nat := 0
  /-- Credits charged to classes 1 to 6 at the edge: on a tick edge they are the new tick's; 32 bits each; 04 R111; reset 0. -/
  charged : Table Nat := []
  /-- Writes of camera ports at the edge while a new pool table waits for it, latest first; 04 R111; reset none. -/
  pooled : List PoolWrite := []
  /-- RC parameters updated at the edge: the value before, and what a register cleared before the edge would hold; 32 bits each;
  00 R10; reset none. -/
  counted : Table (Option (Nat × Nat)) := []
  /-- Ports a frame of which has settled at the edge, as they stood before; 03 R72, R83; reset none. -/
  settles : Table (Option CamUndo) := []
  /-- The Mirage tracks before the update of the edge; 06 R175; reset none. -/
  tracks : Option (Table Track) := none
  /-- Commit points of the edge, by view; 06 R175; reset none. -/
  commits : Table (Option CommitUndo) := []
  /-- Jobs dispatched at the edge, by engine; 05 R150; reset none. -/
  jobs : Table (Option JobUndo) := []
  /-- Views declared invalid under 02 R50 at the edge, and views whose probation ended at it; 02 R52; reset none. -/
  declared : List Nat := []
  recovered : List Nat := []
  /-- Views declared invalid under 07 R197 at the edge; 07 R204; reset none. -/
  witDeclared : List Nat := []
  /-- Cycles that have started at the edge, by run unit; 11 R291; reset none. -/
  cycles : Table (Option CycleUndo) := []
  /-- Frames that have begun at the edge, by pipe; 05 R150, 07 R204, 08 R229; reset none. -/
  started : Table (Option StartUndo) := []
  /-- Tables accepted at the edge, by pipe x 4 + 0 selection, 1 layout, 2 regions, and 64 the pool table: the table that waited
  before; 05 R149; reset none. -/
  loaded : Table (Option (Option Bytes)) := []
  /-- The parameter registers before the writes answered at the edge; 05 R150, 07 R204, 08 R229; reset none. -/
  regs : Option (Table Word) := none
  /-- An entry has left the full command queue at the edge; 1 bit; 14 R390; reset 0. -/
  leftFull : Bool := false
  /-- Events of fault sources at the edge, ignored ones too, latest first; 15 R427; reset none. -/
  fltEvents : List FltEvent := []
  /-- The collector's mode, the units under test and the registers in force before they changed at the edge; 15 R427; reset none. -/
  modeWas : Option FltMode := none
  testingWas : Option (List Nat) := none
  classWas : Option (Table Word) := none
  /-- Sources cleared at the edge, as they stood before; 15 R427; reset none. -/
  fltCleared : Table (Option FaultSrc) := []
  /-- Quench has been released at the edge: its first source before; 8 bits; 15 R427; reset none. -/
  quenchWas : Option Nat := none
  /-- The collector has tested itself at the edge; 15 R427; reset none. -/
  selfTest : Option SelfUndo := none
  /-- BIST_RUN has taken a unit at the edge; 17 R464; reset none. -/
  bistFrom : Option BistFrom := none
  /-- Cores that have been blamed at the edge, by core index; 09 R263, 17 R464; reset none. -/
  blamed : List Nat := []
  /-- The die has sampled at the edge: its inputs and pairs before; 12 R323, R347; reset none. -/
  sampled : Option (Table InSt × Table PairSt) := none
  /-- Grants withdrawn at the edge: index, slot and device; 13 R381; reset none. -/
  withdrawn : List (Nat × Nat × Nat) := []
  /-- The port and the slot of a frame accepted at the edge, and ports whose link has gone at it (ERGB 1); 16 R440; reset none. -/
  ergRx : Option (Bool × Nat) := none
  ergDown : List Bool := []
  /-- Forwarded commands answered WORKER_TIMEOUT at the edge; 13 R379; reset none. -/
  timedOut : List Fwd := []
  /-- Events sent again at the edge; 14 R394; reset none. -/
  resent : List Word := []
  /-- FIO_ACK has been answered at the edge: the outputs and groups before; 12 R346, R347; reset none. -/
  acked : Option (Table OutSt × Table GroupSt) := none
  /-- The MRAM's records, and the boot record, before the writes of the edge; 18 R480; reset none. -/
  mramWas : Option MramSt := none
  bootWas : Option UpdSt := none
  /-- UPD_OPEN has been granted at the edge: its packet and session, and who held the lock before; 19 R505; reset none. -/
  opened : Option (Hdr × Nat) := none
  /-- UPD_CONFIRM has been answered at the edge: its packet and session, and the boot record before; 19 R505; reset none. -/
  confirmed : Option (Hdr × Nat × UpdSt) := none
  deriving DecidableEq, Repr

/-- The whole module. -/
structure State where
  /-- The commands that are waiting, first in first out; MODEL's own; reset empty. -/
  pending : List Instr := []
  /-- Time now and at the release of nRESET; REF cycles (03 Table 3.5, 14 Table 14.4, 10 R266); reset 0. -/
  now : Time := 0
  startAt : Time := 0
  /-- Free values drawn so far; MODEL's own; reset 0 (DESIGN CHOICE, log 7). -/
  free : Nat := 0
  /-- Parameter registers by ID, 32 bits each, where no field below holds them; 00 R8, 14 R404; an unlisted
  ID reads its reset value (Machine/Params.lean, paramReset). -/
  regs : Table Word := []
  /-- The registers as of the last tick edge, and as of the last start-up, for those that take effect then. -/
  regsEdge : Table Word := []
  regsBoot : Table Word := []
  /-- V snapshot; 1,024 bits; 01 R20, R21; reset 0 (DESIGN CHOICE, log 4). -/
  vsnap : BitVec 1024 := 0
  /-- S bits as the owners last wrote them; 512 bits; 01 R24; reset 0 (DESIGN CHOICE, log 4). -/
  sNow : BitVec 512 := 0
  /-- S bits as sampled at the last tick edge; 512 bits; 01 R25; reset 0 (DESIGN CHOICE, log 4). -/
  sSample : BitVec 512 := 0
  /-- The lanes' last four S samples, with their ticks, latest first; 07 R181; reset none. -/
  sHist : List (Word × BitVec 512) := []
  /-- What has happened at the edge of the latest command; MODEL's own; reset nothing. -/
  inst : InstSt := {}
  /-- Ownership map in force; 2,592 bytes; 09 R255, R256; reset none. -/
  owners : Bytes := []
  /-- Check value computed, and TRIO_CHK_STATE; 32 + 2 bits; 11 R301, R303; reset 0. -/
  chk : Word := 0
  chkState : Nat := 0
  tick : TickSt := {}
  cams : Table CamPort := []
  cru : CruSt := {}
  views : Table ViewSt := []
  tracks : Table Track := []
  /-- Compute clocks of the tick in progress, and its latest on-time completion in 0.001 tick; 05 R143, Table 5.10; reset 0. -/
  tickClocks : Nat := 0
  tickDone : Nat := 0
  /-- Tick edges since each host angle was written, 256 for long ago; 06 R157; reset never written. -/
  hostAge : Table Nat := []
  lanes : Table Lane := []
  pipes : Table PipeSt := []
  cores : Table Core := []
  units : Table RunUnit := []
  trios : Table TrioSt := []
  fio : FioSt := {}
  iol : IolSt := {}
  erg : ErgSt := {}
  host : HostSt := {}
  flt : FaultSt := {}
  st : StSt := {}
  clk : ClkSt := {}
  upd : UpdSt := {}
  mram : MramSt := {}
  /-- The check-value channel of each unit, by block code, 0x144 for the field I/O die's; 16 R431; reset as each. -/
  chans : Table Channel := []
  deriving DecidableEq, Repr

/-- The module right after reset, before any step of the start-up sequence (17 R441): every field at the
value its docstring gives. -/
def State.reset : State := {}

end Sys2Proof.Machine
end

