-- ==== Sys2Proof/Machine/Bytes.lean ====
section
/-! DEFINITION. Bit fields, byte strings, byte orders (00 R4), canonical tables and byte memories, and the
check values of chapter 16. -/

namespace Sys2Proof.Machine

/-! ### Bits and numbers -/

/-- Bits [hi:lo] of a number (00 R4). -/
def fld (n hi lo : Nat) : Nat := (n >>> lo) % 2 ^ (hi + 1 - lo)

/-- Bit i of a number. -/
def bitAt (n i : Nat) : Bool := (n >>> i) % 2 = 1

/-- A Boolean as 0 or 1. -/
def b2n (b : Bool) : Nat := if b then 1 else 0

/-- A `w`-bit two's-complement number. -/
def signed (w n : Nat) : Int := if 2 ^ (w - 1) ≤ n % 2 ^ w then (n % 2 ^ w : Int) - 2 ^ w else (n % 2 ^ w : Int)

/-- An integer modulo 2^w. -/
def wrapN (w : Nat) (z : Int) : Nat := (z % 2 ^ w).toNat

/-- A word from a number. -/
def w32 (n : Nat) : Word := BitVec.ofNat 32 n

/-- A word from an integer, in two's complement. -/
def w32i (z : Int) : Word := BitVec.ofInt 32 z

/-- A byte from a number. -/
def b8 (n : Nat) : Byte := BitVec.ofNat 8 n

/-- The larger of an integer and a lower limit, at most an upper limit. -/
def clampI (lo hi z : Int) : Int := if z < lo then lo else if hi < z then hi else z

/-- `a` precedes `b` in serial order modulo 2^32 (14 R392). -/
def precedes (a b : Word) : Bool := decide (0 < (b - a).toNat ∧ (b - a).toNat < 2 ^ 31)

/-- A number of `n` bits as a list of Booleans is set at `i`. -/
def setBitN (n i : Nat) (b : Bool) : Nat := if bitAt n i = b then n else if b then n + 2 ^ i else n - 2 ^ i

/-- A packed word of flags, the first flag in bit 0. -/
def packBits : List Bool → Nat
  | [] => 0
  | b :: r => b2n b + 2 * packBits r

/-- Bits 0 to `n - 1` of a predicate. -/
def flagsOf (n : Nat) (f : Nat → Bool) : Nat := packBits ((List.range n).map f)

/-- Bit `i` of a bit vector set to `b`. -/
def setBv {w : Nat} (v : BitVec w) (i : Nat) (b : Bool) : BitVec w :=
  if b then v ||| BitVec.ofNat w (2 ^ i) else v &&& ~~~ BitVec.ofNat w (2 ^ i)

/-! ### Canonical tables -/

/-- What a table holds for a key; an unlisted key reads `d`. -/
def tget {α : Type} (d : α) : Table α → Nat → α
  | [], _ => d
  | (k, v) :: r, n => if k = n then v else if n < k then d else tget d r n

/-- A table with the value of one key replaced; the canonical form is kept. -/
def tset {α : Type} [DecidableEq α] (d : α) : Table α → Nat → α → Table α
  | [], n, v => if v = d then [] else [(n, v)]
  | (k, w) :: r, n, v =>
    if k = n then (if v = d then r else (n, v) :: r)
    else if n < k then (if v = d then (k, w) :: r else (n, v) :: (k, w) :: r)
    else (k, w) :: tset d r n v

/-- A table with one key's value passed through a function. -/
def tmod {α : Type} [DecidableEq α] (d : α) (t : Table α) (n : Nat) (f : α → α) : Table α :=
  tset d t n (f (tget d t n))

/-- Every key of `ks` passed through a function of its key. -/
def tmodAll {α : Type} [DecidableEq α] (d : α) (ks : List Nat) (f : Nat → α → α) (t : Table α) : Table α :=
  ks.foldl (fun t k => tmod d t k (f k)) t

/-- The keys of a table rise strictly from `lo` on, and no entry equals what an unlisted key reads. -/
def risingFrom {α : Type} [DecidableEq α] (d : α) : Nat → Table α → Bool
  | _, [] => true
  | lo, (k, v) :: r => decide (lo ≤ k) && decide (v ≠ d) && risingFrom d (k + 1) r

/-- The canonical form of a table. -/
def canonical {α : Type} [DecidableEq α] (d : α) (t : Table α) : Bool := risingFrom d 0 t

/-! ### Byte memories -/

/-- The byte of a memory at an address; an unlisted address reads 0 (DESIGN CHOICE, log 5). -/
def Memory.read (m : List Host.Cell) (a : Nat) : Byte := tget (0 : Byte) m a

/-- A memory with one byte written. -/
def Memory.write (m : List Host.Cell) (a : Nat) (v : Byte) : List Host.Cell := tset (0 : Byte) m a v

/-- The keys of a list rise strictly from above `lo`, and no entry equals what an unlisted key reads. -/
def sortedFrom : Nat → List Host.Cell → Bool
  | _, [] => true
  | lo, (k, v) :: r => decide (lo ≤ k) && decide (v ≠ 0) && sortedFrom (k + 1) r

/-- The canonical form of a memory. -/
def Memory.wf (m : List Host.Cell) : Bool := sortedFrom 0 m

/-- `n` bytes from an address on. -/
def Memory.bytes (m : List Host.Cell) (a n : Nat) : Bytes := (List.range n).map fun i => Memory.read m (a + i)

/-- A byte string written from an address on. -/
def Memory.put (m : List Host.Cell) (a : Nat) : Bytes → List Host.Cell
  | [] => m
  | b :: r => Memory.put (Memory.write m a b) (a + 1) r

/-- The cells of a memory that lie in a run of `n` bytes. -/
def inRun (a n : Nat) (c : Host.Cell) : Bool := decide (a ≤ c.1 ∧ c.1 < a + n)

/-- A memory with a run of bytes copied to another place. -/
def Memory.copy (m : List Host.Cell) (src dst n : Nat) : List Host.Cell :=
  (m.filter (inRun src n)).foldl (fun m c => Memory.write m (dst + (c.1 - src)) c.2) (m.filter fun c => !inRun dst n c)

/-! ### Byte orders -/

/-- `n` bytes of a number, little-endian. -/
def le : Nat → Nat → Bytes
  | 0, _ => []
  | n + 1, v => b8 (v % 256) :: le n (v / 256)

/-- `n` bytes of a number, big-endian. -/
def be (n v : Nat) : Bytes := (le n v).reverse

/-- The number that a little-endian byte string spells. -/
def leVal : Bytes → Nat
  | [] => 0
  | b :: r => b.toNat + 256 * leVal r

/-- The number that a big-endian byte string spells. -/
def beVal (bs : Bytes) : Nat := leVal bs.reverse

/-- Bytes `off` to `off + n - 1` of a byte string. -/
def sub (bs : Bytes) (off n : Nat) : Bytes := (bs.drop off).take n

/-- Little-endian and big-endian fields of a byte string. -/
def leAt (n : Nat) (bs : Bytes) (off : Nat) : Nat := leVal (sub bs off n)
def beAt (n : Nat) (bs : Bytes) (off : Nat) : Nat := beVal (sub bs off n)

/-- The byte at an offset; 0 beyond the end. -/
def u8 (bs : Bytes) (off : Nat) : Nat := (bs.getD off 0).toNat
def u16 (bs : Bytes) (off : Nat) : Nat := leAt 2 bs off
def u32 (bs : Bytes) (off : Nat) : Nat := leAt 4 bs off

/-- A byte string with some bytes replaced from an offset on. -/
def splice (bs : Bytes) (off : Nat) (new : Bytes) : Bytes := bs.take off ++ new ++ bs.drop (off + new.length)

/-- `n` zero bytes. -/
def zeros (n : Nat) : Bytes := List.replicate n 0

/-- A byte string cut or padded with zeros to a length. -/
def pad (n : Nat) (bs : Bytes) : Bytes := (bs ++ zeros (n - bs.length)).take n

/-- All bytes are zero. -/
def allZero (bs : Bytes) : Bool := bs.all (· = 0)

/-! ### Check values (chapter 16) -/

/-- The low `w` bits of a number in reverse order. -/
def revBits : Nat → Nat → Nat
  | 0, _ => 0
  | w + 1, n => (n % 2) * 2 ^ w + revBits w (n / 2)

/-- One bit of the CRC shift (16 R432). -/
def crcBit (w poly crc : Nat) : Nat :=
  if bitAt crc (w - 1) then ((crc <<< 1) ^^^ poly) % 2 ^ w else (crc <<< 1) % 2 ^ w

/-- Eight bits of the CRC shift (16 R432). -/
def crcByte (w poly crc : Nat) : Nat :=
  crcBit w poly (crcBit w poly (crcBit w poly (crcBit w poly (crcBit w poly (crcBit w poly
    (crcBit w poly (crcBit w poly crc)))))))

/-- The computation of a channel (16 R432), over covered bytes and tag in one string. -/
def crcRun (c : Channel) (bs : Bytes) : Nat :=
  let r := bs.foldl (fun crc d =>
    let d := if c.refin then revBits 8 d.toNat else d.toNat
    crcByte c.width c.poly (crc ^^^ (d <<< (c.width - 8)))) c.init
  (if c.refout then revBits c.width r else r) ^^^ c.xorout

/-- The presets of the ROM (16 Table 16.2): 0 Store, 1 Host, 2 Erg, 3 I/O link. -/
def storePreset : Channel := {}
def hostPreset : Channel := { tag := 1 }
def ergPreset : Channel := { poly := 0x04C11DB7, tag := 1 }
def iolPreset : Channel := { width := 16, poly := 0x1021, init := 0xFFFF, xorout := 0, refin := false, refout := false }
def preset (p : Nat) : Channel := if p = 1 then hostPreset else if p = 2 then ergPreset else if p = 3 then iolPreset else storePreset

/-- Store preset (16 Table 16.2), CRC-32C. -/
def crcStore (bs : Bytes) : Nat := crcRun storePreset bs

/-- Host preset (16 Table 16.2, R433): the tag follows the covered bytes, most significant byte first. -/
def crcHost (bs : Bytes) (tag : Word) : Nat := crcStore (bs ++ be 4 tag.toNat)

/-- Erg preset (16 Table 16.2, 13 R354): the tag is SLOT x 65,536 + CYCLE[15:0]. -/
def crcErg (bs : Bytes) (slot cycle : Nat) : Nat :=
  crcRun ergPreset (bs ++ be 4 ((slot % 65536) * 65536 + cycle % 65536))

/-- I/O link preset (16 Table 16.2). -/
def crcIol (bs : Bytes) : Nat := crcRun iolPreset bs

/-- An I/O link or heartbeat frame on the wire: its content, and the check value of the content, big-endian (16 R435, R436). A damaged
frame arrives with its check field complemented (DESIGN CHOICE, log 207). -/
def iolFrame (undamaged : Bool) (content : Bytes) : Bytes :=
  content ++ be 2 (if undamaged then crcIol content else 0xFFFF - crcIol content)

/-- The receiver's check of an I/O link frame (16 R434). -/
def iolOk (f : Bytes) : Bool := decide (beAt 2 f (f.length - 2) = crcIol (f.take (f.length - 2)))

/-- A frame of this content passes its check at the receiver. -/
def iolArrives (undamaged : Bool) (content : Bytes) : Bool := iolOk (iolFrame undamaged content)

/-- The known answer of each preset (16 Table 16.2, CHECK): Store, Host, Erg, I/O link. -/
def katAnswer (p : Fin 4) : Nat :=
  if p = 2 then 0xCBF43926 else if p = 3 then 0x29B1 else 0xE3069283

/-- The embedded check value of an object (16 R435): over the whole object with its field taken as zero. -/
def crcEmbedded (bs : Bytes) (off : Nat) : Nat := crcStore (splice bs off (zeros 4))

/-- The embedded check field of an object matches (16 R435, R436). -/
def crcEmbeddedOk (bs : Bytes) (off : Nat) : Bool := u32 bs off = crcEmbedded bs off

/-- The trailing check field of a record matches (16 R435). -/
def crcTrailerOk (bs : Bytes) (n : Nat) : Bool := u32 bs n = crcStore (bs.take n)

end Sys2Proof.Machine
end

