-- ==== Sys2Proof/Machine/Params.lean ====
section
/-! DEFINITION. The parameter space (00 R8, R9, 14 R404): every parameter's ID, type, access code, reset value and
range, row by row from the parameter tables of chapters 02 to 19. -/

namespace Sys2Proof.Machine

/-- A row of a parameter table. -/
structure ParamRow where
  /-- First ID, and the number of instances that follow it. -/
  id : Nat
  count : Nat
  /-- Type code: 1 U8, 2 U16, 3 U32, 4 I16, 5 I32 (14 R402). -/
  typ : Nat
  /-- Access code: 0 RO, 1 RW, 2 WO, 3 RC (14 PARAM_INFO). -/
  acc : Nat
  /-- Reset value; 0 where the table gives none (00 R524: a fact of the module). -/
  reset : Nat
  /-- Range; the whole range of the type where the table gives none (DESIGN CHOICE, log 8). -/
  lo : Int
  hi : Int
  deriving DecidableEq, Repr

/-! ### IDs by name -/

namespace P
abbrev sysProduct : Nat := 0x0000
abbrev sysSerialLo : Nat := 0x0001
abbrev sysSerialHi : Nat := 0x0002
abbrev sysFwVersion : Nat := 0x0003
abbrev sysBootId : Nat := 0x0004
abbrev sysIpAddr : Nat := 0x0005
abbrev sysIpMask : Nat := 0x0006
abbrev sysIpGateway : Nat := 0x0007
abbrev sysHostPort : Nat := 0x0008
abbrev sysSessionTimeout : Nat := 0x0009
abbrev sysSessionIp : Nat := 0x000A
abbrev sysSessionPort : Nat := 0x000B
abbrev sysEvtMinClass : Nat := 0x000C
abbrev sysEvtWindow : Nat := 0x000D
abbrev sysEvtResend : Nat := 0x000E
abbrev sysEseq : Nat := 0x000F
abbrev sysHseqNext : Nat := 0x0010
abbrev sysHostDrops : Nat := 0x0011
abbrev sysSeqGaps : Nat := 0x0012
abbrev sysReplays : Nat := 0x0013
abbrev sysBusy : Nat := 0x0014
abbrev sysMacHi : Nat := 0x0015
abbrev sysMacLo : Nat := 0x0016
abbrev sysDomainStatus : Nat := 0x0040
abbrev sysDomainPorts : Nat := 0x0041
abbrev sysPllLock : Nat := 0x0042
abbrev sysRefSource : Nat := 0x0043
abbrev sysTj : Nat := 0x0044
abbrev sysTjHigh : Nat := 0x0045
abbrev sysTjMax : Nat := 0x0046
abbrev sysResetCause : Nat := 0x0047
abbrev sysDomainResets : Nat := 0x0048
abbrev sysXerr : Nat := 0x0049
abbrev stStep : Nat := 0x00C0
abbrev stStartupMs : Nat := 0x00C1
abbrev stFast : Nat := 0x00C2
abbrev stPending : Nat := 0x00C3
abbrev stPendingCores : Nat := 0x00C4
abbrev stLanePeriod : Nat := 0x00C5
abbrev stCorePeriod : Nat := 0x00C6
abbrev stMemPeriod : Nat := 0x00C7
abbrev stSlices : Nat := 0x00C8
abbrev stAborts : Nat := 0x00C9
abbrev stTransient : Nat := 0x00CA
abbrev stRepairs : Nat := 0x00CB
abbrev stCruSpares : Nat := 0x00CC
abbrev stCruPos : Nat := 0x00CD
abbrev stCruPasses : Nat := 0x00CE
abbrev stSliceMax : Nat := 0x00E0
abbrev soPixelLoad : Nat := 0x0280
abbrev soLayerStoreUsed : Nat := 0x0281
abbrev soIconsLoaded : Nat := 0x0282
abbrev soRcountAll : Nat := 0x0283
abbrev viewEnginePool : Nat := 0x02C0
abbrev viewEnabled : Nat := 0x02C1
abbrev viewOntime : Nat := 0x02C2
abbrev viewSuspect : Nat := 0x02C3
abbrev viewRejects : Nat := 0x02C4
abbrev viewBusy : Nat := 0x02C5
abbrev viewLatestDone : Nat := 0x02C6
abbrev viewStoreUsed : Nat := 0x02C7
abbrev viewSelActive : Nat := 0x02C8
abbrev viewSelDefaulted : Nat := 0x02C9
abbrev viewOvlPasses : Nat := 0x02CA
abbrev cruState : Nat := 0x0300
abbrev cruCapacity : Nat := 0x0301
abbrev cruCreditIngest : Nat := 0x0302
abbrev cruCreditScanout : Nat := 0x0303
abbrev cruCreditWitness : Nat := 0x0304
abbrev cruCreditTrio : Nat := 0x0305
abbrev cruUsedC (n : Nat) : Nat := 0x0306 + n
abbrev cruOverrun : Nat := 0x030C
abbrev cruScrubPeriod : Nat := 0x030D
abbrev cruScrubPos : Nat := 0x030E
abbrev cruScrubPasses : Nat := 0x030F
abbrev cruCeCount : Nat := 0x0310
abbrev cruUeCount : Nat := 0x0311
abbrev cruPoisonLive : Nat := 0x0312
abbrev cruPoisonMax : Nat := 0x0313
abbrev cruLossCause : Nat := 0x0314
abbrev cruPoolTcrc : Nat := 0x0315
abbrev cruTemp : Nat := 0x0316
abbrev cruAccessFaults : Nat := 0x0317
abbrev trioOwnerMcrc : Nat := 0x0480
abbrev trioDebug : Nat := 0x0481
abbrev trioChkComputed : Nat := 0x0490
abbrev trioChkConfirmed : Nat := 0x0491
abbrev trioChkState : Nat := 0x0492
abbrev trioKjState : Nat := 0x0493
abbrev trioKcommits : Nat := 0x0494
abbrev trioKcoalesced : Nat := 0x0495
abbrev trioKjFaults : Nat := 0x0496
abbrev trioExchLast : Nat := 0x0497
abbrev trioWdtExpiries : Nat := 0x0498
abbrev fioState : Nat := 0x0500
abbrev fioInImage : Nat := 0x0501
abbrev fioInRaw : Nat := 0x0502
abbrev fioInFault : Nat := 0x0503
abbrev fioQDrive : Nat := 0x0504
abbrev fioQRb : Nat := 0x0505
abbrev fioQFault : Nat := 0x0506
abbrev fioQInhibit : Nat := 0x0507
abbrev fioGroup : Nat := 0x0508
abbrev fioTpStatus : Nat := 0x0509
abbrev fioL1p : Nat := 0x050A
abbrev fioL2p : Nat := 0x050B
abbrev fioSupply : Nat := 0x050C
abbrev fioEncCount0 : Nat := 0x050D
abbrev fioEncCount1 : Nat := 0x050E
abbrev fioEncStatus : Nat := 0x050F
abbrev fioHbExpiries : Nat := 0x0510
abbrev fioRecordCrc : Nat := 0x0511
abbrev fioCountIn : Nat := 0x0512
abbrev fioCountQ : Nat := 0x0513
abbrev fioTemp : Nat := 0x0514
abbrev fioLinkErr : Nat := 0x0515
abbrev ergState : Nat := 0x0600
abbrev ergRole : Nat := 0x0601
abbrev ergDevice : Nat := 0x0602
abbrev ergHops : Nat := 0x0603
abbrev ergPort : Nat := 0x0604
abbrev ergSchedCrc : Nat := 0x0605
abbrev ergMembersLo : Nat := 0x0606
abbrev ergMembersHi : Nat := 0x0607
abbrev ergCycle : Nat := 0x0608
abbrev ergCycleDelta : Nat := 0x0609
abbrev ergLate : Nat := 0x060A
abbrev ergCrcErr : Nat := 0x060B
abbrev ergNullRx : Nat := 0x060C
abbrev ergGuardCuts : Nat := 0x060D
abbrev ergSyncMiss : Nat := 0x060E
abbrev ergRingMismatch : Nat := 0x060F
abbrev ergXStale : Nat := 0x0610
abbrev ergFwdTimeout : Nat := 0x0611
abbrev ergJoinWait : Nat := 0x0612
abbrev ergLeadSerialLo : Nat := 0x0613
abbrev ergLeadSerialHi : Nat := 0x0614
abbrev ergSilentCause : Nat := 0x0615
abbrev ergGrants : Nat := 0x0616
abbrev ergMapCrc : Nat := 0x0617
abbrev fltMode : Nat := 0x07C0
abbrev fltQuench : Nat := 0x07C1
abbrev fltEvents : Nat := 0x07C2
abbrev fltFirstSource : Nat := 0x07C3
abbrev fltLatestSource : Nat := 0x07C4
abbrev fltRailFaults : Nat := 0x07C5
abbrev fltMerged : Nat := 0x07C6
abbrev fltSevereCount : Nat := 0x07C7
abbrev fltQuenchCount : Nat := 0x07C8
abbrev fltLogNewest : Nat := 0x07C9
abbrev fltSelftest : Nat := 0x07CA
abbrev updLcState : Nat := 0x0800
abbrev updActiveSlot : Nat := 0x0801
abbrev updSlotAState : Nat := 0x0802
abbrev updSlotBState : Nat := 0x0803
abbrev updSlotAVersion : Nat := 0x0804
abbrev updSlotBVersion : Nat := 0x0805
abbrev updVersionFloor : Nat := 0x0806
abbrev updRbCount : Nat := 0x0807
abbrev updTrialLeft : Nat := 0x0808
abbrev updLock : Nat := 0x0809
abbrev updSvcIpAddr : Nat := 0x080A
abbrev updSvcIpMask : Nat := 0x080B
abbrev updSvcPort : Nat := 0x080C
abbrev updAuthFails : Nat := 0x080D
abbrev updFallbacks : Nat := 0x080E
abbrev updCfgFormat : Nat := 0x080F
abbrev updLastVerify : Nat := 0x0810
abbrev witLaneState : Nat := 0x0900
abbrev witSeed : Nat := 0x0901
abbrev witInvalidAfter : Nat := 0x0902
abbrev witRecover : Nat := 0x0903
abbrev witBlameTicks : Nat := 0x0904
abbrev witVerifiedCnt : Nat := 0x0905
abbrev witFailedCnt : Nat := 0x0906
abbrev witNotcheckedCnt : Nat := 0x0907
abbrev witInvalidCnt : Nat := 0x0908
abbrev witDisagree : Nat := 0x0909
abbrev witOverflow : Nat := 0x090A
abbrev witRemovals : Nat := 0x090B
abbrev witLoad : Nat := 0x090C
abbrev witCrcFail : Nat := 0x090D
abbrev witCrcEvents : Nat := 0x090E
abbrev witStampEvents : Nat := 0x090F
abbrev witProbation : Nat := 0x0910
abbrev tickSource : Nat := 0x0A00
abbrev tickRate : Nat := 0x0A01
abbrev tickInEdge : Nat := 0x0A02
abbrev tickStatus : Nat := 0x0A03
abbrev tickCount : Nat := 0x0A04
abbrev tickStaleLimit : Nat := 0x0A05
abbrev tickRecoverCount : Nat := 0x0A06
abbrev tickMeasured : Nat := 0x0A07
abbrev tickLossCount : Nat := 0x0A08
abbrev tickStaleEvents : Nat := 0x0A09
abbrev tickInvalidEvents : Nat := 0x0A0A
abbrev mirTrackValid : Nat := 0x0A10
abbrev mirAngleLimit : Nat := 0x0A11
abbrev mirRrEngines : Nat := 0x0A12
abbrev mirRrMargin : Nat := 0x0A13
abbrev mirHostTimeout : Nat := 0x0A14
abbrev mirHits : Nat := 0x0A15
abbrev mirRerenders : Nat := 0x0A16
abbrev mirEnvSource : Nat := 0x0A17
abbrev mirEnvBudget : Nat := 0x0A18
abbrev mirEnvLate : Nat := 0x0A19
abbrev mirStale : Nat := 0x0A1A
abbrev mirHostAngle (n : Nat) : Nat := 0x0A20 + n
abbrev mirEncZero (n : Nat) : Nat := 0x0A24 + n
abbrev mirEncScale (n : Nat) : Nat := 0x0A26 + n
abbrev mirErgAngle (n : Nat) : Nat := 0x0A28 + n
abbrev mirTrkGain (n : Nat) : Nat := 0x0A40 + n
abbrev mirTrkState (n : Nat) : Nat := 0x0A58 + n
abbrev camState (n : Nat) : Nat := 0x100 + 16 * n
abbrev camEnable (n : Nat) : Nat := 0x101 + 16 * n
abbrev camFormat (n : Nat) : Nat := 0x102 + 16 * n
abbrev camWidth (n : Nat) : Nat := 0x103 + 16 * n
abbrev camHeight (n : Nat) : Nat := 0x104 + 16 * n
abbrev camPhase (n : Nat) : Nat := 0x105 + 16 * n
abbrev camVcgear (n : Nat) : Nat := 0x106 + 16 * n
abbrev camFcntSrc (n : Nat) : Nat := 0x107 + 16 * n
abbrev camFreeze (n : Nat) : Nat := 0x108 + 16 * n
abbrev camLossTicks (n : Nat) : Nat := 0x109 + 16 * n
abbrev camFswin (n : Nat) : Nat := 0x10A + 16 * n
abbrev camErrmax (n : Nat) : Nat := 0x10B + 16 * n
abbrev camTrig (n : Nat) : Nat := 0x10C + 16 * n
abbrev camBufbase (n : Nat) : Nat := 0x10D + 16 * n
abbrev camCountA (n : Nat) : Nat := 0x10E + 16 * n
abbrev camCountB (n : Nat) : Nat := 0x10F + 16 * n
abbrev soState (n : Nat) : Nat := 0x200 + 16 * n
abbrev soEnable (n : Nat) : Nat := 0x201 + 16 * n
abbrev soRoute (n : Nat) : Nat := 0x202 + 16 * n
abbrev soPhase (n : Nat) : Nat := 0x203 + 16 * n
abbrev soHact (n : Nat) : Nat := 0x204 + 16 * n
abbrev soVact (n : Nat) : Nat := 0x205 + 16 * n
abbrev soHtotal (n : Nat) : Nat := 0x206 + 16 * n
abbrev soVtotal (n : Nat) : Nat := 0x207 + 16 * n
abbrev soHsync (n : Nat) : Nat := 0x208 + 16 * n
abbrev soVsync (n : Nat) : Nat := 0x209 + 16 * n
abbrev soCtrl (n : Nat) : Nat := 0x20A + 16 * n
abbrev soBackground (n : Nat) : Nat := 0x20B + 16 * n
abbrev soFbIcon (n : Nat) : Nat := 0x20C + 16 * n
abbrev soLink (n : Nat) : Nat := 0x20D + 16 * n
abbrev soCount (n : Nat) : Nat := 0x20E + 16 * n
abbrev soBacklight (n : Nat) : Nat := 0x20F + 16 * n
abbrev trioState (n : Nat) : Nat := 0x400 + 16 * n
abbrev trioMode (n : Nat) : Nat := 0x401 + 16 * n
abbrev trioCores (n : Nat) : Nat := 0x402 + 16 * n
abbrev trioBlame (n : Nat) : Nat := 0x403 + 16 * n
abbrev trioReint (n : Nat) : Nat := 0x404 + 16 * n
abbrev trioLatent (n : Nat) : Nat := 0x405 + 16 * n
abbrev trioAgreeMiss (n : Nat) : Nat := 0x406 + 16 * n
abbrev trioHaltCause (n : Nat) : Nat := 0x407 + 16 * n
abbrev trioVtest (n : Nat) : Nat := 0x408 + 16 * n
abbrev trioSram (n : Nat) : Nat := 0x409 + 16 * n
abbrev trioWdt (n : Nat) : Nat := 0x40A + 16 * n
abbrev trioCycleMin (n : Nat) : Nat := 0x40B + 16 * n
abbrev trioCycleLast (n : Nat) : Nat := 0x40C + 16 * n
abbrev trioCycleMax (n : Nat) : Nat := 0x40D + 16 * n
abbrev trioRestart (n : Nat) : Nat := 0x40E + 16 * n
abbrev trioKcommit (n : Nat) : Nat := 0x40F + 16 * n
abbrev fltCfg (n : Nat) : Nat := 0x06FF + n
abbrev fltClass (n : Nat) : Nat := 0x075F + n
end P

/-- Parameters outside the instance blocks. -/
def flatRows : List ParamRow :=
  [⟨0x000, 1, 3, 0, 0x371600A1, 0, 4294967295⟩,
   ⟨0x001, 1, 3, 0, 0x0, 0, 4294967295⟩,
   ⟨0x002, 1, 3, 0, 0x0, 0, 4294967295⟩,
   ⟨0x003, 1, 3, 0, 0x0, 0, 4294967295⟩,
   ⟨0x004, 1, 3, 0, 0x0, 0, 4294967295⟩,
   ⟨0x005, 1, 3, 1, 0xC0A82510, 0, 4294967295⟩,
   ⟨0x006, 1, 3, 1, 0xFFFFFF00, 0, 4294967295⟩,
   ⟨0x007, 1, 3, 1, 0x0, 0, 4294967295⟩,
   ⟨0x008, 1, 2, 1, 0xB9F0, 1024, 65535⟩,
   ⟨0x009, 1, 2, 1, 0x64, 10, 6000⟩,
   ⟨0x00A, 1, 3, 0, 0x0, 0, 4294967295⟩,
   ⟨0x00B, 1, 2, 0, 0x0, 0, 65535⟩,
   ⟨0x00C, 1, 1, 1, 0x1, 0, 4⟩,
   ⟨0x00D, 1, 1, 1, 0x20, 1, 128⟩,
   ⟨0x00E, 1, 2, 1, 0x64, 10, 10000⟩,
   ⟨0x00F, 1, 3, 0, 0x0, 0, 4294967295⟩,
   ⟨0x010, 1, 3, 0, 0x0, 0, 4294967295⟩,
   ⟨0x011, 1, 3, 3, 0x0, 0, 4294967295⟩,
   ⟨0x012, 1, 3, 3, 0x0, 0, 4294967295⟩,
   ⟨0x013, 1, 3, 3, 0x0, 0, 4294967295⟩,
   ⟨0x014, 1, 3, 3, 0x0, 0, 4294967295⟩,
   ⟨0x015, 1, 2, 0, 0x0, 0, 65535⟩,
   ⟨0x016, 1, 3, 0, 0x0, 0, 4294967295⟩,
   ⟨0x040, 1, 3, 0, 0x0, 0, 4294967295⟩,
   ⟨0x041, 1, 3, 0, 0x0, 0, 4294967295⟩,
   ⟨0x042, 1, 2, 0, 0x0, 0, 65535⟩,
   ⟨0x043, 1, 1, 0, 0x0, 0, 1⟩,
   ⟨0x044, 1, 4, 0, 0x0, (-32768), 32767⟩,
   ⟨0x045, 1, 1, 1, 0x73, 90, 120⟩,
   ⟨0x046, 1, 4, 3, 0x0, (-32768), 32767⟩] ++
  [⟨0x047, 1, 1, 0, 0x0, 1, 2⟩,
   ⟨0x048, 1, 3, 3, 0x0, 0, 4294967295⟩,
   ⟨0x049, 1, 3, 3, 0x0, 0, 4294967295⟩,
   ⟨0x0C0, 1, 1, 0, 0x0, 0, 10⟩,
   ⟨0x0C1, 1, 3, 0, 0x0, 0, 4294967295⟩,
   ⟨0x0C2, 1, 1, 1, 0x0, 0, 1⟩,
   ⟨0x0C3, 1, 3, 0, 0x0, 0, 4294967295⟩,
   ⟨0x0C4, 1, 3, 0, 0x0, 0, 4294967295⟩,
   ⟨0x0C5, 1, 2, 1, 0x20, 8, 1024⟩,
   ⟨0x0C6, 1, 2, 1, 0x10, 4, 1024⟩,
   ⟨0x0C7, 1, 1, 1, 0x1, 1, 64⟩,
   ⟨0x0C8, 1, 3, 3, 0x0, 0, 4294967295⟩,
   ⟨0x0C9, 1, 3, 3, 0x0, 0, 4294967295⟩,
   ⟨0x0CA, 1, 2, 3, 0x0, 0, 65535⟩,
   ⟨0x0CB, 1, 2, 0, 0x0, 0, 1024⟩,
   ⟨0x0CC, 1, 2, 0, 0x0, 0, 256⟩,
   ⟨0x0CD, 1, 3, 0, 0x0, 0, 4294967295⟩,
   ⟨0x0CE, 1, 3, 0, 0x0, 0, 4294967295⟩,
   ⟨0x0E0, 1, 2, 3, 0x0, 0, 250⟩,
   ⟨0x280, 1, 3, 0, 0x0, 0, 2000000⟩,
   ⟨0x281, 1, 3, 0, 0x0, 0, 8388608⟩,
   ⟨0x282, 1, 1, 0, 0x0, 0, 255⟩,
   ⟨0x283, 1, 3, 0, 0x0, 0, 4294967295⟩,
   ⟨0x2C0, 1, 1, 0, 0xFF, 0, 255⟩,
   ⟨0x2C1, 1, 2, 0, 0x0, 0, 256⟩,
   ⟨0x2C2, 1, 3, 3, 0x0, 0, 4294967295⟩,
   ⟨0x2C3, 1, 3, 3, 0x0, 0, 4294967295⟩,
   ⟨0x2C4, 1, 3, 3, 0x0, 0, 4294967295⟩,
   ⟨0x2C5, 1, 2, 0, 0x0, 0, 1000⟩,
   ⟨0x2C6, 1, 2, 0, 0x0, 0, 980⟩] ++
  [⟨0x2C7, 1, 3, 0, 0x0, 0, 16777216⟩,
   ⟨0x2C8, 1, 3, 0, 0x0, 0, 4294967295⟩,
   ⟨0x2C9, 1, 1, 0, 0x0, 0, 255⟩,
   ⟨0x2CA, 1, 3, 3, 0x0, 0, 4294967295⟩,
   ⟨0x300, 1, 1, 0, 0x0, 0, 4⟩,
   ⟨0x301, 1, 3, 0, 0x11CB41D, 0, 4294967295⟩,
   ⟨0x302, 1, 3, 1, 0x0, 0, 4294967295⟩,
   ⟨0x303, 1, 3, 1, 0x0, 0, 4294967295⟩,
   ⟨0x304, 1, 3, 1, 0x0, 0, 4294967295⟩,
   ⟨0x305, 1, 3, 1, 0x100, 0, 4294967295⟩,
   ⟨0x306, 6, 3, 0, 0x0, 0, 4294967295⟩,
   ⟨0x30C, 1, 3, 3, 0x0, 0, 4294967295⟩,
   ⟨0x30D, 1, 2, 1, 0x3C, 60, 3600⟩,
   ⟨0x30E, 1, 3, 0, 0x0, 0, 4294967295⟩,
   ⟨0x30F, 1, 3, 0, 0x0, 0, 4294967295⟩,
   ⟨0x310, 1, 3, 3, 0x0, 0, 4294967295⟩,
   ⟨0x311, 1, 3, 3, 0x0, 0, 4294967295⟩,
   ⟨0x312, 1, 3, 0, 0x0, 0, 4294967295⟩,
   ⟨0x313, 1, 2, 1, 0x100, 1, 4096⟩,
   ⟨0x314, 1, 1, 0, 0x0, 0, 5⟩,
   ⟨0x315, 1, 3, 0, 0x0, 0, 4294967295⟩,
   ⟨0x316, 1, 4, 0, 0x0, (-32768), 32767⟩,
   ⟨0x317, 1, 2, 3, 0x0, 0, 65535⟩,
   ⟨0x480, 1, 3, 0, 0x0, 0, 4294967295⟩,
   ⟨0x481, 1, 1, 0, 0x0, 0, 255⟩,
   ⟨0x490, 1, 3, 0, 0x0, 0, 4294967295⟩,
   ⟨0x491, 1, 3, 0, 0x0, 0, 4294967295⟩,
   ⟨0x492, 1, 1, 0, 0x0, 0, 2⟩,
   ⟨0x493, 1, 3, 0, 0x0, 0, 4294967295⟩,
   ⟨0x494, 1, 3, 3, 0x0, 0, 4294967295⟩] ++
  [⟨0x495, 1, 3, 3, 0x0, 0, 4294967295⟩,
   ⟨0x496, 1, 2, 3, 0x0, 0, 65535⟩,
   ⟨0x497, 1, 3, 0, 0x0, 0, 4294967295⟩,
   ⟨0x498, 1, 2, 3, 0x0, 0, 65535⟩,
   ⟨0x500, 1, 1, 0, 0x0, 0, 3⟩,
   ⟨0x501, 1, 3, 0, 0x0, 0, 4294967295⟩,
   ⟨0x502, 1, 3, 0, 0x0, 0, 4294967295⟩,
   ⟨0x503, 1, 3, 0, 0x0, 0, 4294967295⟩,
   ⟨0x504, 1, 2, 0, 0x0, 0, 65535⟩,
   ⟨0x505, 1, 2, 0, 0x0, 0, 65535⟩,
   ⟨0x506, 1, 2, 0, 0x0, 0, 65535⟩,
   ⟨0x507, 1, 2, 0, 0x0, 0, 65535⟩,
   ⟨0x508, 1, 1, 0, 0xF, 0, 255⟩,
   ⟨0x509, 1, 1, 0, 0xF, 0, 255⟩,
   ⟨0x50A, 1, 2, 0, 0x0, 0, 40000⟩,
   ⟨0x50B, 1, 2, 0, 0x0, 0, 40000⟩,
   ⟨0x50C, 1, 1, 0, 0x0, 0, 255⟩,
   ⟨0x50D, 1, 5, 0, 0x0, (-2147483648), 2147483647⟩,
   ⟨0x50E, 1, 5, 0, 0x0, (-2147483648), 2147483647⟩,
   ⟨0x50F, 1, 1, 0, 0x0, 0, 255⟩,
   ⟨0x510, 1, 2, 3, 0x0, 0, 65535⟩,
   ⟨0x511, 1, 3, 0, 0x0, 0, 4294967295⟩,
   ⟨0x512, 1, 3, 3, 0x0, 0, 4294967295⟩,
   ⟨0x513, 1, 3, 3, 0x0, 0, 4294967295⟩,
   ⟨0x514, 1, 4, 0, 0x0, (-32768), 32767⟩,
   ⟨0x515, 1, 3, 3, 0x0, 0, 4294967295⟩,
   ⟨0x600, 1, 1, 0, 0x0, 0, 6⟩,
   ⟨0x601, 1, 1, 1, 0x0, 0, 3⟩,
   ⟨0x602, 1, 1, 1, 0x0, 0, 63⟩,
   ⟨0x603, 1, 2, 0, 0x3F3F, 0, 65535⟩] ++
  [⟨0x604, 1, 1, 0, 0x0, 0, 255⟩,
   ⟨0x605, 1, 3, 0, 0x0, 0, 4294967295⟩,
   ⟨0x606, 1, 3, 0, 0x0, 0, 4294967295⟩,
   ⟨0x607, 1, 3, 0, 0x0, 0, 4294967295⟩,
   ⟨0x608, 1, 3, 0, 0x0, 0, 4294967295⟩,
   ⟨0x609, 1, 5, 0, 0x0, (-2147483648), 2147483647⟩,
   ⟨0x60A, 1, 3, 3, 0x0, 0, 4294967295⟩,
   ⟨0x60B, 1, 3, 3, 0x0, 0, 4294967295⟩,
   ⟨0x60C, 1, 3, 3, 0x0, 0, 4294967295⟩,
   ⟨0x60D, 1, 2, 3, 0x0, 0, 65535⟩,
   ⟨0x60E, 1, 2, 3, 0x0, 0, 65535⟩,
   ⟨0x60F, 1, 2, 3, 0x0, 0, 65535⟩,
   ⟨0x610, 1, 2, 0, 0x0, 0, 2048⟩,
   ⟨0x611, 1, 1, 1, 0x3, 1, 16⟩,
   ⟨0x612, 1, 2, 1, 0xC8, 1, 1000⟩,
   ⟨0x613, 1, 3, 0, 0x0, 0, 4294967295⟩,
   ⟨0x614, 1, 3, 0, 0x0, 0, 4294967295⟩,
   ⟨0x615, 1, 1, 0, 0x0, 0, 2⟩,
   ⟨0x616, 1, 3, 0, 0x0, 0, 4294967295⟩,
   ⟨0x617, 1, 3, 0, 0x0, 0, 4294967295⟩,
   ⟨0x7C0, 1, 1, 0, 0x1, 0, 3⟩,
   ⟨0x7C1, 1, 2, 0, 0x1, 0, 65535⟩,
   ⟨0x7C2, 1, 3, 0, 0x0, 0, 4294967295⟩,
   ⟨0x7C3, 1, 1, 0, 0x0, 0, 96⟩,
   ⟨0x7C4, 1, 1, 0, 0x0, 0, 96⟩,
   ⟨0x7C5, 1, 3, 3, 0x0, 0, 4294967295⟩,
   ⟨0x7C6, 1, 3, 3, 0x0, 0, 4294967295⟩,
   ⟨0x7C7, 1, 3, 3, 0x0, 0, 4294967295⟩,
   ⟨0x7C8, 1, 2, 3, 0x0, 0, 65535⟩,
   ⟨0x7C9, 1, 2, 0, 0x0, 0, 511⟩] ++
  [⟨0x7CA, 1, 3, 0, 0x0, 0, 4294967295⟩,
   ⟨0x800, 1, 1, 0, 0x1, 0, 4⟩,
   ⟨0x801, 1, 1, 0, 0x0, 0, 1⟩,
   ⟨0x802, 1, 1, 0, 0x0, 0, 7⟩,
   ⟨0x803, 1, 1, 0, 0x0, 0, 7⟩,
   ⟨0x804, 1, 3, 0, 0x0, 0, 4294967295⟩,
   ⟨0x805, 1, 3, 0, 0x0, 0, 4294967295⟩,
   ⟨0x806, 1, 3, 0, 0x0, 0, 4294967295⟩,
   ⟨0x807, 1, 1, 0, 0x0, 0, 64⟩,
   ⟨0x808, 1, 1, 0, 0x0, 0, 3⟩,
   ⟨0x809, 1, 1, 0, 0x0, 0, 4⟩,
   ⟨0x80A, 1, 3, 1, 0xC0A82511, 0, 4294967295⟩,
   ⟨0x80B, 1, 3, 1, 0xFFFFFF00, 0, 4294967295⟩,
   ⟨0x80C, 1, 2, 1, 0xB9F1, 1024, 65535⟩,
   ⟨0x80D, 1, 2, 3, 0x0, 0, 65535⟩,
   ⟨0x80E, 1, 2, 3, 0x0, 0, 65535⟩,
   ⟨0x80F, 1, 2, 0, 0x0, 0, 65535⟩,
   ⟨0x810, 1, 1, 0, 0x0, 0, 8⟩,
   ⟨0x900, 1, 1, 0, 0x2A, 0, 255⟩,
   ⟨0x901, 1, 3, 1, 0x1234, 0, 4294967295⟩,
   ⟨0x902, 1, 1, 1, 0x2, 1, 8⟩,
   ⟨0x903, 1, 1, 1, 0x2, 1, 8⟩,
   ⟨0x904, 1, 1, 1, 0x3, 1, 8⟩,
   ⟨0x905, 1, 3, 3, 0x0, 0, 4294967295⟩,
   ⟨0x906, 1, 3, 3, 0x0, 0, 4294967295⟩,
   ⟨0x907, 1, 3, 3, 0x0, 0, 4294967295⟩,
   ⟨0x908, 1, 3, 3, 0x0, 0, 4294967295⟩,
   ⟨0x909, 1, 3, 3, 0x0, 0, 4294967295⟩,
   ⟨0x90A, 1, 3, 3, 0x0, 0, 4294967295⟩,
   ⟨0x90B, 1, 1, 0, 0x0, 0, 255⟩] ++
  [⟨0x90C, 1, 2, 0, 0x0, 0, 1000⟩,
   ⟨0x90D, 1, 1, 0, 0x0, 0, 255⟩,
   ⟨0x90E, 1, 3, 3, 0x0, 0, 4294967295⟩,
   ⟨0x90F, 1, 3, 3, 0x0, 0, 4294967295⟩,
   ⟨0x910, 1, 2, 0, 0x0, 0, 256⟩,
   ⟨0xA00, 1, 1, 1, 0x0, 0, 2⟩,
   ⟨0xA01, 1, 3, 1, 0xEA60, 30000, 120000⟩,
   ⟨0xA02, 1, 1, 1, 0x0, 0, 1⟩,
   ⟨0xA03, 1, 2, 0, 0x0, 0, 65535⟩,
   ⟨0xA04, 1, 3, 0, 0x0, 0, 4294967295⟩,
   ⟨0xA05, 1, 1, 1, 0x2, 1, 8⟩,
   ⟨0xA06, 1, 1, 1, 0x2, 1, 8⟩,
   ⟨0xA07, 1, 3, 0, 0x0, 0, 4294967295⟩,
   ⟨0xA08, 1, 2, 3, 0x0, 0, 65535⟩,
   ⟨0xA09, 1, 3, 3, 0x0, 0, 4294967295⟩,
   ⟨0xA0A, 1, 3, 3, 0x0, 0, 4294967295⟩,
   ⟨0xA10, 1, 3, 0, 0x0, 0, 4294967295⟩,
   ⟨0xA11, 1, 2, 1, 0x2328, 100, 18000⟩,
   ⟨0xA12, 1, 1, 1, 0x4, 1, 8⟩,
   ⟨0xA13, 1, 1, 1, 0x19, 0, 200⟩,
   ⟨0xA14, 1, 1, 1, 0xA, 1, 255⟩,
   ⟨0xA15, 1, 3, 3, 0x0, 0, 4294967295⟩,
   ⟨0xA16, 1, 3, 3, 0x0, 0, 4294967295⟩,
   ⟨0xA17, 1, 3, 3, 0x0, 0, 4294967295⟩,
   ⟨0xA18, 1, 3, 3, 0x0, 0, 4294967295⟩,
   ⟨0xA19, 1, 3, 3, 0x0, 0, 4294967295⟩,
   ⟨0xA1A, 1, 3, 3, 0x0, 0, 4294967295⟩,
   ⟨0xA20, 4, 4, 1, 0x0, (-18000), 18000⟩,
   ⟨0xA24, 2, 5, 1, 0x0, (-2147483648), 2147483647⟩,
   ⟨0xA26, 2, 5, 1, 0x0, (-16777215), 16777215⟩] ++
  [⟨0xA28, 16, 4, 0, 0x0, (-32768), 32767⟩,
   ⟨0xA40, 22, 2, 1, 0x1A80, 0, 65535⟩,
   ⟨0xA58, 22, 3, 0, 0x0, 0, 4294967295⟩]

/-- The 16 parameters of a camera, by offset (03 Table 3.6). -/
def camRows : List ParamRow :=
  [⟨0x000, 1, 1, 0, 0x0, 0, 4⟩,
   ⟨0x001, 1, 1, 1, 0x0, 0, 1⟩,
   ⟨0x002, 1, 1, 1, 0x0, 0, 2⟩,
   ⟨0x003, 1, 2, 1, 0x780, 64, 3840⟩,
   ⟨0x004, 1, 2, 1, 0x438, 64, 2160⟩,
   ⟨0x005, 1, 1, 1, 0x0, 0, 99⟩,
   ⟨0x006, 1, 1, 1, 0x10, 0, 255⟩,
   ⟨0x007, 1, 2, 1, 0x1, 0, 65535⟩,
   ⟨0x008, 1, 1, 1, 0x2, 1, 8⟩,
   ⟨0x009, 1, 1, 1, 0x2, 1, 8⟩,
   ⟨0x00A, 1, 1, 1, 0x32, 1, 99⟩,
   ⟨0x00B, 1, 1, 1, 0x8, 0, 64⟩,
   ⟨0x00C, 1, 2, 1, 0xA00, 0, 65535⟩,
   ⟨0x00D, 1, 3, 0, 0x0, 0, 4294967295⟩,
   ⟨0x00E, 1, 3, 3, 0x0, 0, 4294967295⟩,
   ⟨0x00F, 1, 3, 3, 0x0, 0, 4294967295⟩]

/-- The 16 parameters of a pipe, by offset (08 Table 8.8). -/
def pipeRows : List ParamRow :=
  [⟨0x000, 1, 1, 0, 0x0, 0, 3⟩,
   ⟨0x001, 1, 1, 1, 0x0, 0, 1⟩,
   ⟨0x002, 1, 1, 1, 0x0, 0, 255⟩,
   ⟨0x003, 1, 1, 1, 0x0, 0, 99⟩,
   ⟨0x004, 1, 2, 1, 0x780, 64, 2560⟩,
   ⟨0x005, 1, 2, 1, 0x438, 64, 1600⟩,
   ⟨0x006, 1, 2, 1, 0x898, 96, 4095⟩,
   ⟨0x007, 1, 2, 1, 0x465, 67, 4095⟩,
   ⟨0x008, 1, 3, 1, 0x2C0058, 0, 4294967295⟩,
   ⟨0x009, 1, 3, 1, 0x50004, 0, 4294967295⟩,
   ⟨0x00A, 1, 2, 1, 0x0, 0, 65535⟩,
   ⟨0x00B, 1, 3, 1, 0x0, 0, 4294967295⟩,
   ⟨0x00C, 1, 1, 1, 0x0, 0, 7⟩,
   ⟨0x00D, 1, 3, 0, 0x0, 0, 4294967295⟩,
   ⟨0x00E, 1, 3, 3, 0x0, 0, 4294967295⟩,
   ⟨0x00F, 1, 2, 1, 0xFFFF, 0, 65535⟩]

/-- The 16 parameters of a trio, by offset (09 Table 9.7, 11 Table 11.7). -/
def trioRows : List ParamRow :=
  [⟨0x000, 1, 2, 0, 0x0, 0, 65535⟩,
   ⟨0x001, 1, 1, 1, 0x0, 0, 1⟩,
   ⟨0x002, 1, 3, 0, 0x3F, 0, 4294967295⟩,
   ⟨0x003, 1, 3, 3, 0x0, 0, 4294967295⟩,
   ⟨0x004, 1, 3, 3, 0x0, 0, 4294967295⟩,
   ⟨0x005, 1, 2, 3, 0x0, 0, 65535⟩,
   ⟨0x006, 1, 2, 3, 0x0, 0, 65535⟩,
   ⟨0x007, 1, 1, 0, 0x0, 0, 8⟩,
   ⟨0x008, 1, 3, 0, 0x0, 0, 4294967295⟩,
   ⟨0x009, 1, 3, 3, 0x0, 0, 4294967295⟩,
   ⟨0x00A, 1, 2, 1, 0x3E8, 10, 10000⟩,
   ⟨0x00B, 1, 2, 1, 0x0, 0, 9999⟩,
   ⟨0x00C, 1, 3, 0, 0x0, 0, 4294967295⟩,
   ⟨0x00D, 1, 3, 3, 0x0, 0, 4294967295⟩,
   ⟨0x00E, 1, 3, 0, 0x0, 0, 4294967295⟩,
   ⟨0x00F, 1, 2, 1, 0xA, 5, 1000⟩]

/-- Base class of each fault source at reset, FS-n at position n (15 Table 15.1): 1 note, 2 minor, 3 severe, 4 quench. -/
def fltBase : List Nat :=
  [0, 2, 2, 2, 3, 3, 1, 2, 2, 3, 1, 2, 2, 2, 2, 3, 1, 2, 2, 3, 2, 3, 2, 1] ++
  [2, 3, 2, 1, 2, 3, 3, 3, 3, 1, 2, 2, 3, 2, 2, 2, 2, 2, 2, 2, 3, 3, 2, 3] ++
  [2, 2, 2, 2, 3, 1, 3, 2, 2, 2, 2, 3, 3, 2, 2, 4, 4, 3, 2, 2, 2, 3, 3, 1] ++
  [4, 4, 2, 3, 3, 1, 3, 2, 1, 3, 3, 1, 4, 4, 1, 3, 3, 3, 3, 3, 2, 3, 2, 3] ++
  [3]

/-- N of each fault source at reset (15 Table 15.1, R430). -/
def fltN : List Nat :=
  [0, 3, 3, 3, 1, 1, 255, 16, 8, 1, 255, 3, 2, 3, 8, 1, 255, 2, 8, 1, 8, 1, 3, 255] ++
  [8, 1, 8, 255, 3, 1, 1, 1, 1, 255, 3, 3, 1, 255, 3, 3, 3, 3, 3, 3, 1, 1, 3, 1] ++
  [3, 3, 3, 3, 1, 255, 1, 3, 3, 3, 3, 1, 1, 8, 3, 1, 1, 1, 2, 2, 2, 1, 1, 255] ++
  [1, 1, 3, 1, 1, 255, 1, 3, 255, 1, 1, 255, 1, 1, 255, 1, 1, 1, 1, 1, 3, 1, 255, 1] ++
  [1]

/-- W of each fault source at reset in ms (15 Table 15.1, R430). -/
def fltW : List Nat :=
  [0, 10000, 10000, 10000, 1, 1, 1000, 60000, 1000, 1, 60000, 1000, 3600000, 1000, 1000, 1, 1000, 3600000, 1000, 1, 1000, 1, 10000, 60000] ++
  [1000, 1, 1000, 1000, 60000, 1, 1, 1, 1, 1000, 60000, 60000, 1, 60000, 60000, 60000, 60000, 60000, 60000, 60000, 1, 1, 60000, 1] ++
  [60000, 10000, 10000, 10000, 1, 1000, 1, 60000, 1000, 60000, 60000, 1, 1, 1000, 60000, 1, 1, 1, 3600000, 3600000, 3600000, 1, 1, 60000] ++
  [1, 1, 1000, 1, 1, 1000, 1, 60000, 1000, 1, 1, 60000, 1, 1, 60000, 1, 1, 1, 1, 1, 60000, 1, 60000, 1] ++
  [1]

/-- Reset value of FLT_CFGn (15 Table 15.8). -/
def fltCfgReset (n : Nat) : Nat := fltN.getD n 0 + 256 * fltW.getD n 0

/-- Sources whose START class is note at reset (15 Table 15.3). -/
def startNote : List Nat := [1, 2, 3, 22, 23, 55, 56, 57, 58, 62, 83]

/-- Sources whose RECOVERY class is note at reset (15 Table 15.3). -/
def recoveryNote : List Nat := [5, 6, 7, 8, 9, 10, 11, 13, 14, 24, 26, 69, 76]

/-- Sources that keep their base class under TEST (15 Table 15.3), beside every quench source. -/
def testBase : List Nat := [12, 89, 90, 91]

/-- Reset value of FLT_CLASSn (15 Tables 15.1, 15.3, 15.8). -/
def fltClassReset (n : Nat) : Nat :=
  let b := fltBase.getD n 0
  b + 8 * (if n ∈ startNote then 1 else b)
    + 64 * (if b = 4 ∨ n ∈ testBase then b else 1)
    + 512 * (if n ∈ recoveryNote then 1 else b)

/-- The row that holds an ID in a list of rows. -/
def findRow (rows : List ParamRow) (id : Nat) : Option ParamRow :=
  rows.find? fun r => decide (r.id ≤ id ∧ id < r.id + r.count)

/-- The row of a parameter ID, none where the module defines no such ID (00 R8). -/
def paramRow (id : Nat) : Option ParamRow :=
  if 0x100 ≤ id ∧ id < 0x200 then findRow camRows (id % 16)
  else if 0x200 ≤ id ∧ id < 0x280 then
    (findRow pipeRows (id % 16)).map fun r => if id % 16 = 2 then { r with reset := (id - 0x200) / 16 + 1 } else r
  else if 0x400 ≤ id ∧ id < 0x480 then findRow trioRows (id % 16)
  else if 0x700 ≤ id ∧ id < 0x760 then some ⟨0x700, 96, 3, 1, fltCfgReset (id - 0x6FF), 0, 4294967295⟩
  else if 0x760 ≤ id ∧ id < 0x7C0 then some ⟨0x760, 96, 2, 1, fltClassReset (id - 0x75F), 0, 65535⟩
  else findRow flatRows id

/-- The reset value of a parameter. -/
def paramReset (id : Nat) : Word := w32 ((paramRow id).elim 0 (·.reset))

/-- What a register table holds for an ID (00 R8): an unlisted ID reads its reset value. -/
def regGet (t : Table Word) (id : Nat) : Nat := (tget (paramReset id) t id).toNat

/-- A register table with one register written. -/
def regSet (t : Table Word) (id v : Nat) : Table Word := tset (paramReset id) t id (w32 v)

/-- The value of a signed register. -/
def regInt (t : Table Word) (id : Nat) : Int := (tget (paramReset id) t id).toInt

end Sys2Proof.Machine
end

