-- ==== Sys2Proof/Machine/Ops.lean ====
section
/-! DEFINITION. The operations the commands share: time and what has happened at the present edge, the unit tables, parameter
registers and counters, location words, fault detection, events and their sending, and the staging of SERVICE payloads. -/

namespace Sys2Proof.Machine

/-! ### Time -/

/-- The clock moved to the time of an edge; it never runs back (DESIGN CHOICE, log 1). -/
def advance (t : Time) (s : State) : State := { s with now := max s.now t }

/-- What has happened so far at the present edge. -/
def instant (s : State) : InstSt := if s.inst.at' = s.now then s.inst else { at' := s.now }

/-- A record in MRAM is written; a reset that begins on this very edge keeps the write from beginning (18 R480). -/
def State.writeMram (s : State) (f : MramSt → MramSt) : State :=
  { s with mram := f s.mram, inst := { instant s with mramWas := some ((instant s).mramWas.getD s.mram) } }

/-- The boot record or the anti-rollback fuses are written, likewise (18 R480, 19 R489). -/
def State.writeBoot (s : State) (f : UpdSt → UpdSt) : State :=
  { s with upd := f s.upd, inst := { instant s with bootWas := some ((instant s).bootWas.getD s.upd) } }

/-- A V bit rises at the present edge: a snapshot captured on it does not hold it yet (01 R23). -/
def rise (b : Nat) (s : State) : State :=
  { s with inst := { instant s with risen := if (instant s).risen.contains b then (instant s).risen else b :: (instant s).risen } }

/-- A V bit rises where a condition holds. -/
def riseIf (c : Bool) (b : Nat) (s : State) : State := if c then rise b s else s

/-- V bits fall at the present edge: a snapshot captured on it holds them no longer (01 R23). -/
def fall (bits : List Nat) (s : State) : State :=
  if (instant s).snapped then { s with vsnap := bits.foldl (fun v b => setBv v b false) s.vsnap } else s

/-- V bits fall where a condition holds. -/
def fallIf (c : Bool) (bits : List Nat) (s : State) : State := if c then fall bits s else s

/-- S bits are written at the present edge: a sample taken on it holds those from before (01 R25). -/
def writeS (v : BitVec 512) (s : State) : State :=
  { s with sNow := v, inst := { instant s with sBefore := some ((instant s).sBefore.getD s.sNow) } }

/-- The registers as the present edge finds them, without the writes answered on it. -/
def edgeRegs (s : State) : Table Word := (instant s).regs.getD s.regs

/-- Time since start-up in µs (14 Table 14.4). -/
def timeUs (s : State) : Nat := (s.now - s.startAt) / 100

/-- T_NOW: time since start-up in 10 µs, modulo 2^32 (10 R266). -/
def tNow (s : State) : Word := w32 ((s.now - s.startAt) / 1000)

/-- Milliseconds in REF cycles. -/
def ms (n : Nat) : Time := n * 100000

/-- Microseconds in REF cycles. -/
def us (n : Nat) : Time := n * 100

/-- The tick period in REF cycles at a rate in 0.001 Hz. -/
def periodAt (rate : Nat) : Time := 100000000000 / (if rate = 0 then 1 else rate)

/-- The tick period in force (02 R34). -/
def tickPeriod (s : State) : Time := periodAt s.tick.rate

/-- Position in the tick in 0.001 tick (00 R5). -/
def tickMilli (s : State) : Nat := (s.now - s.tick.lastEdge) * 1000 / (if tickPeriod s = 0 then 1 else tickPeriod s)

/-- The next number of the free-value counter, and the state with the counter moved on (log 7). -/
def drawFree (s : State) : Nat × State := (s.free, { s with free := s.free + 1 })

/-! ### The unit tables -/

def State.cam (s : State) (c : Nat) : CamPort := tget {} s.cams c
def State.view (s : State) (v : Nat) : ViewSt := tget {} s.views v
def State.track (s : State) (n : Nat) : Track := tget {} s.tracks n
def State.lane (s : State) (l : Nat) : Lane := tget {} s.lanes l
def State.pipe (s : State) (p : Nat) : PipeSt := tget {} s.pipes p
def State.core (s : State) (c : Nat) : Core := tget {} s.cores c
def State.unit (s : State) (u : Nat) : RunUnit := tget {} s.units u
def State.trio (s : State) (t : Nat) : TrioSt := tget {} s.trios t
def State.src (s : State) (n : Nat) : FaultSrc := tget {} s.flt.srcs n

def State.modCam (s : State) (c : Nat) (f : CamPort → CamPort) : State := { s with cams := tmod {} s.cams c f }
def State.modView (s : State) (v : Nat) (f : ViewSt → ViewSt) : State := { s with views := tmod {} s.views v f }
def State.modTrack (s : State) (n : Nat) (f : Track → Track) : State := { s with tracks := tmod {} s.tracks n f }
def State.modLane (s : State) (l : Nat) (f : Lane → Lane) : State := { s with lanes := tmod {} s.lanes l f }
def State.modPipe (s : State) (p : Nat) (f : PipeSt → PipeSt) : State := { s with pipes := tmod {} s.pipes p f }
def State.modCore (s : State) (c : Nat) (f : Core → Core) : State := { s with cores := tmod {} s.cores c f }
def State.modUnit (s : State) (u : Nat) (f : RunUnit → RunUnit) : State := { s with units := tmod {} s.units u f }
def State.modTrio (s : State) (t : Nat) (f : TrioSt → TrioSt) : State := { s with trios := tmod {} s.trios t f }
def State.modSrc (s : State) (n : Nat) (f : FaultSrc → FaultSrc) : State :=
  { s with flt := { s.flt with srcs := tmod {} s.flt.srcs n f } }
def State.modCru (s : State) (f : CruSt → CruSt) : State := { s with cru := f s.cru }
def State.modHost (s : State) (f : HostSt → HostSt) : State := { s with host := f s.host }
def State.modFlt (s : State) (f : FaultSt → FaultSt) : State := { s with flt := f s.flt }
def State.modFio (s : State) (f : FioSt → FioSt) : State := { s with fio := f s.fio }
def State.modErg (s : State) (f : ErgSt → ErgSt) : State := { s with erg := f s.erg }
def State.modMram (s : State) (f : MramSt → MramSt) : State := { s with mram := f s.mram }
def State.modUpd (s : State) (f : UpdSt → UpdSt) : State := { s with upd := f s.upd }
def State.modSt (s : State) (f : StSt → StSt) : State := { s with st := f s.st }

/-- A unit loads its channel from the preset ROM and computes: MODE 0 compute, 1 append, 2 check-and-strip (16 R431). -/
def useChannel (unit p mode : Nat) (s : State) : State :=
  { s with chans := tset {} s.chans unit { preset p with mode := mode, usedAt := some s.now } }

/-- Block codes of units by which they name their channels (01 Table 1.8); the field I/O die's I/O link has its own. -/
abbrev chanFio : Nat := 0x144
def State.modClk (s : State) (f : ClkSt → ClkSt) : State := { s with clk := f s.clk }
def State.modTick (s : State) (f : TickSt → TickSt) : State := { s with tick := f s.tick }

/-- The parity bit of a word of `n` bits (even parity). -/
def parityOf (n v : Nat) : Nat := (List.range n).foldl (fun p i => if v.testBit i then 1 - p else p) 0

/-- The parity bits that go with the contents of the three input registers (09 R236). -/
def inputParity (i : BitVec 32) (x xq : BitVec 2048) : BitVec 3 :=
  BitVec.ofNat 3 (parityOf 32 i.toNat + 2 * parityOf 2048 x.toNat + 4 * parityOf 2048 xq.toNat)

/-- The input registers of a core take an image or an X update; what they held before this edge is kept for a cycle that starts
on it (09 R236, R263). -/
def takeInputs (now : Time) (i : BitVec 32) (x xq : BitVec 2048) (c : Core) : Core :=
  { c with
    inI := i, inX := x, inXQ := xq, inAt := some now, inPar := inputParity i x xq,
    inWas := if c.inAt = some now then c.inWas else (c.inI, c.inX, c.inXQ) }

/-! ### Parameter registers -/

/-- A parameter register. -/
def reg (s : State) (id : Nat) : Nat := regGet s.regs id

/-- A signed parameter register. -/
def regI (s : State) (id : Nat) : Int := regInt s.regs id

/-- A parameter register as it stood at the last tick edge, for the parameters that take effect there. -/
def regE (s : State) (id : Nat) : Nat := regGet s.regsEdge id

/-- A parameter register as it stood at the start-up, for the parameters that take effect there. -/
def regB (s : State) (id : Nat) : Nat := regGet s.regsBoot id

/-- A parameter register written. -/
def setReg (s : State) (id v : Nat) : State := { s with regs := regSet s.regs id v }

/-- An update of a parameter at the present edge: an RC read of that edge gives what the parameter held before it, and leaves
what the update makes of a cleared one (00 R10). -/
def noteUpdate (id : Nat) (f : Nat → Nat) (s : State) : State :=
  let x := (tget none (instant s).counted id).getD (reg s id, 0)
  { s with inst := { instant s with counted := tset none (instant s).counted id (some (x.1, f x.2)) } }

/-- By how much a counter has counted up at the present edge. -/
def countedNow (id : Nat) (s : State) : Nat := ((tget none (instant s).counted id).map (·.2)).getD 0

/-- A table is accepted at the present edge: the one that waited before it is kept, for an edge that takes tables (DESIGN CHOICE,
log 195). -/
def noteLoad (k : Nat) (before : Option Bytes) (s : State) : State :=
  if (tget none (instant s).loaded k).isSome then s
  else { s with inst := { instant s with loaded := tset none (instant s).loaded k (some before) } }

/-- What an accepted table makes of the one in force at this edge, and what goes on waiting: one accepted on this very edge waits
(DESIGN CHOICE, log 195). -/
def takeTable (k : Nat) (next : Option Bytes) (s : State) : Option Bytes × Option Bytes :=
  match tget none (instant s).loaded k with
  | some before => (before, next)
  | none => (next, none)

/-- A 32-bit register set; a number beyond its width leaves a free value (log 10). -/
def setWide (s : State) (id v : Nat) : State :=
  let fits := decide (v < 2 ^ 32)
  { setReg s id (if fits then v else (Config.freeWord s.free).toNat) with free := s.free + b2n (!fits) }

/-- A 32-bit counter counted up by `n`; past its largest value it holds a free value (log 10). -/
def addReg (s : State) (id n : Nat) : State :=
  setWide (noteUpdate id (· + n) s) id (reg s id + n)

/-- A 32-bit counter counted up. -/
def countReg (s : State) (id : Nat) : State := addReg s id 1

/-- A wrapping 32-bit counter counted up. -/
def wrapReg (s : State) (id : Nat) : State :=
  let s := noteUpdate id (fun v => (v + 1) % 2 ^ 32) s
  setReg s id ((reg s id + 1) % 2 ^ 32)

/-- A word whose field [hi:lo] is counted up by `n`, saturating. -/
def satAdd (hi lo n v : Nat) : Nat :=
  let f := fld v hi lo
  v + min (f + n) (2 ^ (hi + 1 - lo) - 1) * 2 ^ lo - f * 2 ^ lo

/-- The field [hi:lo] of a counter register counted up by `n`, saturating. -/
def satField (s : State) (id hi lo n : Nat) : State :=
  let s := noteUpdate id (satAdd hi lo n) s
  setReg s id (satAdd hi lo n (reg s id))

/-- A count of this edge is taken back: from the register, where its field was not `full` before it, and from what a cleared one
holds. -/
def takeBack (id hi lo n : Nat) (full : Bool) (s : State) : State :=
  match tget none (instant s).counted id with
  | none => s
  | some x =>
    let less (v : Nat) : Nat := v - min n (fld v hi lo) * 2 ^ lo
    let s := if full && decide (fld (reg s id) hi lo ≠ fld x.2 hi lo) then s else setReg s id (less (reg s id))
    { s with inst := { instant s with counted := tset none (instant s).counted id (some (x.1, less x.2)) } }

/-- The field [hi:lo] of a register replaced. -/
def setField (s : State) (id hi lo f : Nat) : State :=
  let v := reg s id
  setReg s id (v + (f % 2 ^ (hi + 1 - lo)) * 2 ^ lo - fld v hi lo * 2 ^ lo)

/-! ### Location words (01 R29 to R32) -/

/-- Device number in the Caravan; 0 in a stand-alone module (01 R29). -/
def deviceNo (s : State) : Nat := if s.erg.role = 0 then 0 else s.erg.device

/-- The location word of a block of a die, down to the fields given (01 Table 1.7, R30); a word number runs on from bank to
bank (log 17). -/
def locBlock (s : State) (die block : Nat) (macroNo word bit : Nat := 0) : BitVec 64 :=
  BitVec.ofNat 64 (deviceNo s * 2 ^ 44 + die * 2 ^ 40 + block * 2 ^ 32 + macroNo * 2 ^ 24 + (word % 2 ^ 18) * 2 ^ 6 + bit)

/-- The location word of a die as a whole. -/
def locDie (s : State) (die : Nat) : BitVec 64 := BitVec.ofNat 64 (deviceNo s * 2 ^ 44 + die * 2 ^ 40)

/-- The location word of a byte address of the MRAM die (2) or the DRAM stack (3) (01 R31). -/
def locAddr (s : State) (die addr : Nat) (bit : Nat := 0) : BitVec 64 :=
  BitVec.ofNat 64 (deviceNo s * 2 ^ 44 + die * 2 ^ 40 + (addr / 8) * 64 + bit)

/-- The die codes of the SoC and the field I/O die (01 Table 1.1). -/
abbrev dieSoc : Nat := 0
abbrev dieFio : Nat := 1
abbrev dieMram : Nat := 2
abbrev dieDram : Nat := 3

/-- Block code of a trio core (01 Table 1.8). -/
def coreBlock (trio core : Nat) : Nat := 0x28 + 3 * trio + core

/-! ### Fault detection (15 R408) -/

/-- A fault source detects its error: it holds its pair until the collector acknowledges the event; detections met
meanwhile merge into one further event; while the pair has not returned to OK no further event begins. -/
def detect (n : Nat) (loc : BitVec 64) (s : State) (detail : Nat := 0) (persists : Bool := false) : State :=
  s.modSrc n fun x =>
    let d : Detection := { loc := loc, detail := w32 detail }
    if x.held.isSome then { x with behind := some d, persists := x.persists || persists }
    else if x.active then { x with persists := x.persists || persists }
    else { x with held := some d, mergedHeld := false, active := true, persists := persists }

/-! ### Events (14 R393 to R396) -/

/-- The sizes of the DATA fields of each event (14 Table 14.5). -/
def evtFields (e : Nat) : List Nat :=
  if e = 1 then [4] else if e = 2 then [2] else if e = 3 then [1] else if e = 10 then [1, 1, 1, 2, 4]
  else if e = 20 then [2, 1] else if e = 30 then [1, 1, 1] else if e = 40 then [1, 1, 1]
  else if e = 50 then [1, 1, 1, 1, 1] else if e = 60 then [1, 1] else if e = 70 then [1, 1, 1]
  else if e = 80 then [1, 4, 2] else if e = 90 then [1, 4] else if e = 100 then [4, 4]
  else if e = 110 then [4, 4] else []

/-- Fields of given sizes in little-endian order. -/
def leFields : List Nat → List Nat → Bytes
  | n :: ns, v :: vs => le n v ++ leFields ns vs
  | _, _ => []

/-- The fields of a record each turned into the other byte order. -/
def swapFields : List Nat → Bytes → Bytes
  | [], bs => bs
  | n :: ns, bs => (bs.take n).reverse ++ swapFields ns (bs.drop n)

/-- An event log entry without its ESEQ: bytes 0x04 to 0x3B of 14 Table 14.4, little-endian. -/
def entryTail (e cls dev : Nat) (tick : Word) (time src boot : Nat) (loc : BitVec 64) (vals : List Nat) : Bytes :=
  le 2 e ++ [b8 cls, b8 dev] ++ le 4 tick.toNat ++ le 8 time ++ le 2 src ++ le 2 (boot % 65536) ++
    le 8 loc.toNat ++ pad 28 (leFields (evtFields e) vals)

/-- A whole event log entry with its ECRC. -/
def entryOf (eseq : Word) (tail : Bytes) : Bytes :=
  let b := le 4 eseq.toNat ++ tail
  b ++ le 4 (crcStore b)

/-- The fields of an entry from 0x00 to 0x3B in big-endian order (14 R393). -/
def entryBe (ent : Bytes) : Bytes :=
  swapFields ([4, 2, 1, 1, 4, 8, 2, 2, 8] ++ evtFields (u16 ent 4)) (ent.take 0x3C)

/-- An entry of the mirror as EVT_MIRROR_READ returns it: fields big-endian, ECRC included (14 Table 14.6). -/
def entryBeFull (ent : Bytes) : Bytes := entryBe ent ++ (sub ent 0x3C 4).reverse

def entryEseq (ent : Bytes) : Word := w32 (u32 ent 0)
def entryClass (ent : Bytes) : Nat := u8 ent 6

/-- Base address of the event log (04 Table 4.1), and the address of an entry (14 R395). -/
abbrev logBase : Nat := 0x6C100000
def logAddr (eseq : Word) : Nat := logBase + 64 * (eseq.toNat % 4096)

/-- The Crucible serves requests (04 Table 4.7, R108). -/
def cruOk (s : State) : Bool := decide (s.cru.st = .inService)

/-- A clock domain runs, by its number in SYS_DOMAIN_STATUS (18 R468, R469). -/
def domUp (n : Nat) (s : State) : Bool := decide (tget .running s.clk.doms n = .running)

/-- The tile of an address is poisoned (04 R97). -/
def tilePoisoned (s : State) (a : Nat) : Bool := s.cru.poison.contains (a / 256)

/-- A tile of a run of bytes is poisoned. -/
def runPoisoned (s : State) (a n : Nat) : Bool := s.cru.poison.any fun k => decide (256 * k < a + n ∧ a < 256 * k + 256)

/-- Tiles wholly covered by a run of bytes (04 R98). -/
def coveredTile (a n k : Nat) : Bool := decide (a ≤ 256 * k ∧ 256 * k + 256 ≤ a + n)

/-- A word lies wholly in a run of bytes. -/
def coveredWord (a n w : Nat) : Bool := decide (a ≤ 8 * w ∧ 8 * w + 8 ≤ a + n)

/-- Bursts of 64 bytes, or part of one, of an access (04 R101). -/
def bursts (a n : Nat) : Nat := if n = 0 then 0 else (a + n - 1) / 64 - a / 64 + 1

/-- Credits are charged to a class: counted as used, and taken from what the class still holds (04 R101, R102); the edge keeps its
own, which belong to the new tick where it is a tick edge (04 R111). -/
def charge (cls n : Nat) (s : State) : State :=
  { s with
    inst := { instant s with charged := tmod 0 (instant s).charged cls (· + n) }
    cru := { s.cru with used := tmod 0 s.cru.used cls (· + n), credits := tmod 0 s.cru.credits cls (· - n) } }

/-- Bytes stored in the Crucible: a tile covered whole loses its poison, a word covered whole its error (04 R93, R98). -/
def storeBytes (a : Nat) (bs : Bytes) (c : CruSt) : CruSt :=
  { c with
    mem := Memory.put c.mem a bs
    poison := c.poison.filter fun k => !coveredTile a bs.length k
    errs := c.errs.filter fun e => !coveredWord a bs.length e.1 }

/-- The entry of the event log in the Crucible for an ESEQ, where it still holds it: a slot whose own number can no longer be read,
because its tile is poisoned, counts as holding it (04 R99, log 190). -/
def logEntry (s : State) (eseq : Word) : Option Bytes :=
  let ent := Memory.bytes s.cru.mem (logAddr eseq) 64
  let there := decide (entryEseq ent = eseq) ||
    (tilePoisoned s (logAddr eseq) && decide ((s.host.eseq - eseq).toNat < 4096 ∧ eseq.toNat ≤ s.host.eseq.toNat))
  if cruOk s && there && decide (eseq ≠ 0) then some ent else none

/-- The entry that is sent for an ESEQ: from the log, then from the mirror for the present start-up, then from the SP SRAM ring
(14 R395); one that reads poisoned in the log is not used (04 R99, log 190). -/
def eventEntry (s : State) (eseq : Word) : Option Bytes :=
  match (if tilePoisoned s (logAddr eseq) then none else logEntry s eseq) with
  | some e => some e
  | none =>
    match s.mram.mirror.find? (fun e => decide (entryEseq e = eseq ∧ u16 e 0x16 = s.mram.bootId.toNat % 65536)) with
    | some e => some e
    | none => s.host.ring.find? (fun e => decide (entryEseq e = eseq))

/-- A packet as it travels (14 Table 14.1), with its PCRC (R385). -/
def packet (magicFlags : Nat) (hseq dseq : Word) (target status opcode : Nat) (params : Bytes) (tag : Word) : Bytes :=
  let b := be 2 0x4458 ++ [1, b8 magicFlags] ++ be 4 hseq.toNat ++ be 4 dseq.toNat ++ [b8 target, b8 status] ++
    be 2 opcode ++ be 2 params.length ++ [0, 0] ++ params
  b ++ be 4 (crcHost b tag)

/-- The bytes of a packet the module sends. -/
def pktBytes (p : OutPkt) : Bytes :=
  packet (b2n (p.kind = .reply) + 2 * b2n (p.kind = .event) + 4 * b2n p.replay + 8 * b2n p.late)
    p.hseq p.dseq p.target p.status p.opcode p.params (if p.kind = .event then p.dseq else p.hseq)

/-- A place in Crucible staging for one SERVICE payload (01 R17; how staging is laid out is not stated, log 167). -/
def stagingAddr (n : Nat) : Nat := 0x6D000000 + 2048 * (n % 8184)

/-- The place in Crucible staging of a pipe's relayed-view metadata (01 R17, log 167). -/
def relayAddr (p : Nat) : Nat := 0x6D000000 + 2048 * (8184 + p)

/-- A SERVICE payload waits for the module's own slot: in Crucible staging, or in SP SRAM while the Crucible is not in service
(01 R17, 04 R109). -/
def stageService (bs : Bytes) (s : State) : State :=
  let a := stagingAddr s.erg.stagingAt
  let s :=
    if cruOk s then charge 6 (bursts a bs.length) (s.modCru (storeBytes a (pad ((bs.length + 7) / 8 * 8) bs)))
    else s
  let place := if cruOk s then some a else none
  s.modErg fun e => { e with
    stagingAt := (e.stagingAt + 1) % 8184
    serviceOut := e.serviceOut ++ [{ addr := place, bytes := bs }] }

/-- Where the host interface sends the frame of a packet: to its receiver in the own subnet, else to the gateway; to the receiver
where there is none (14 Table 14.12; DESIGN CHOICE, log 220). An ARP reply goes to the station that asked. -/
def nextHop (p : OutPkt) (s : State) : BitVec 32 :=
  let mask := BitVec.ofNat 32 (regB s P.sysIpMask)
  let gw := BitVec.ofNat 32 (regB s P.sysIpGateway)
  if p.link ≠ .host ∨ p.kind = .arp ∨ p.ip &&& mask = BitVec.ofNat 32 (regB s P.sysIpAddr) &&& mask ∨ gw = 0 then p.ip else gw

/-- A packet leaves: on its interface, or into the module's SERVICE slot where it belongs to the lead
(13 R378, 14 R394). -/
def transmit (p : OutPkt) (s : State) : State :=
  let s := useChannel 0x61 1 1 s
  if p.link = .forwarded then stageService (pktBytes p) s
  else s.modHost fun h => { h with tx := { p with via := nextHop p s } :: h.tx }

/-- A worker reports to the lead (14 R394). -/
def isWorker (s : State) : Bool := decide (s.erg.st = .running)

/-- One event packet; a replayed one is counted (14 R393, R394). -/
def sendEvent (replay : Bool) (ent : Bytes) (s : State) : State :=
  let p : OutPkt := {
    kind := .event, dseq := entryEseq ent, target := deviceNo s, opcode := 0x0A00,
    params := entryBe ent, replay := replay,
    link := if isWorker s then .forwarded else .host,
    ip := (s.host.sess.map (·.ip)).getD 0, port := (s.host.sess.map (·.port)).getD 0 }
  let s := transmit p s
  if replay then countReg s P.sysReplays else s

/-- Events can be sent: a session is open, or the module is a worker, and they are not muted (14 R393, R394). -/
def canSend (s : State) : Bool := (s.host.sess.isSome || isWorker s) && !s.host.muted

/-- Held-back events are sent in ESEQ order while the window has room (14 R394); `read` is what the reading of an entry in the log
does to the store, which may itself raise and send events. -/
def pumpLoop (read : Word → State → State) : Nat → State → State
  | 0, s => s
  | n + 1, s =>
    if s.host.lastSent = s.host.eseq ∨ reg s P.sysEvtWindow ≤ s.host.unacked.length ∨ canSend s = false then s
    else
      let e : Word := if s.host.lastSent = 0xFFFFFFFF then 1 else s.host.lastSent + 1
      let was := s.host.lastSent
      let s := read e s
      if s.host.lastSent ≠ was then pumpLoop read n s
      else
        let s1 := s.modHost fun h => { h with lastSent := e }
        match eventEntry s e with
        | some ent =>
          if entryClass ent < reg s P.sysEvtMinClass then pumpLoop read n s1
          else pumpLoop read n (sendEvent false ent
            (s1.modHost fun h => { h with unacked := h.unacked ++ [{ eseq := e, sentAt := s.now }] }))
        | none => pumpLoop read n s1

/-- The events that may be waiting; at most 4,096 lie between the latest sent and the latest. -/
def unsentCount (s : State) : Nat := min 8192 (s.host.eseq - s.host.lastSent).toNat

/-- The sending of the events that are being raised (14 R394): the service processor has their entries in hand. -/
def pumpEvents (s : State) : State := pumpLoop (fun _ s => s) (unsentCount s) s

/-- An entry is written to the log at the moment its event is raised: in the Crucible, and in the mirror if severe
or quench; while the Crucible is lost, in the SP SRAM ring, which stands in for the log, if it is neither (14 R393, R395; 04 R109). An
entry pushed out before it was sent is lost (R396); the sending goes on behind it in the log, and passes it by in the ring. -/
def logEvent (tail : Bytes) (s : State) : State :=
  let eseq : Word := if s.host.eseq = 0xFFFFFFFF then 1 else s.host.eseq + 1
  let ent := entryOf eseq tail
  let toRing := !cruOk s && decide (entryClass ent < 3)
  let old := if cruOk s then Memory.bytes s.cru.mem (logAddr eseq) 64 else s.host.ring.getD 63 []
  let unsent := (cruOk s || toRing) && decide (entryEseq old ≠ 0) && precedes s.host.lastSent (entryEseq old)
    && decide (reg s P.sysEvtMinClass ≤ entryClass old)
  let s := s.modHost fun h => { h with
    eseq := eseq,
    lost := if unsent then (h.lost + 1) % 2 ^ 32 else h.lost,
    gap := if unsent then (match h.gap with | some (f, n) => some (f, n + 1) | none => some (entryEseq old, 1)) else h.gap,
    lastSent := if unsent && cruOk s then entryEseq old else h.lastSent,
    ring := if toRing then (ent :: h.ring).take 64 else h.ring }
  let s := if 3 ≤ entryClass ent then s.writeMram fun m => { m with mirror := (ent :: m.mirror).take 1024 } else s
  if cruOk s then charge 6 1 (s.modCru (storeBytes (logAddr eseq) ent)) else s

/-- The tail of an event raised now. -/
def tailNow (e cls src : Nat) (loc : BitVec 64) (vals : List Nat) (s : State) : Bytes :=
  entryTail e cls (deviceNo s) s.tick.count (timeUs s) src s.mram.bootId.toNat loc vals

/-- EV-110 is raised once for the events lost so far, when none of its kind waits to be sent (14 Table 14.5;
DEDUCED, log 13). -/
def tellLost (s : State) : State :=
  match s.host.gap with
  | none => s
  | some (f, n) =>
    if s.host.gapAt ≠ 0 ∧ precedes s.host.lastSent s.host.gapAt then s
    else
      let s := s.modHost fun h => { h with gap := none }
      let s := logEvent (tailNow 110 2 0 0 [f.toNat, n] s) s
      s.modHost fun h => { h with gapAt := h.eseq }

/-- An event is raised: numbered, logged, and sent when a session is open, not muted and within its window. -/
def raiseEvent (e cls : Nat) (vals : List Nat) (s : State) (src : Nat := 0) (loc : BitVec 64 := 0) : State :=
  pumpEvents (tellLost (logEvent (tailNow e cls src loc vals s) s))

/-! ### The Crucible (chapter 04) -/

/-- End of the usable map (04 R86) and of the pool region (04 Table 4.1). -/
abbrev cruEnd : Nat := 0x70000000
abbrev poolEnd : Nat := 0x68000000

/-- Entry `n` of a pool table: type, index, base and size in bytes (04 Table 4.2). -/
def poolEntry (tbl : Bytes) (n : Nat) : Nat × Nat × Nat × Nat :=
  (u8 tbl (0x10 + 16 * n), u8 tbl (0x11 + 16 * n), 256 * u32 tbl (0x14 + 16 * n), 256 * u32 tbl (0x18 + 16 * n))

/-- The entries of a pool table. -/
def poolEntries (tbl : Bytes) : List (Nat × Nat × Nat × Nat) := (List.range (u16 tbl 0)).map (poolEntry tbl)

/-- A run of bytes lies within one pool of a type. -/
def inPool (tbl : Bytes) (types : List Nat) (a n : Nat) : Bool :=
  (poolEntries tbl).any fun (ty, _, b, sz) => types.contains ty && decide (b ≤ a ∧ a + n ≤ b + sz)

/-- The run lies in [b, e). -/
def inRange (b e a n : Nat) : Bool := decide (b ≤ a ∧ a + n ≤ e)

/-- A number put into a rising list, once. -/
def insertNat (n : Nat) : List Nat → List Nat
  | [] => [n]
  | k :: r => if n = k then k :: r else if n < k then n :: k :: r else k :: insertNat n r

/-! ### State changes that raise events (14 Table 14.5) -/

/-- Codes of the camera port states (03 Table 3.3). -/
def camCode : CamState → Nat
  | .disabled => 0 | .training => 1 | .linked => 2 | .started => 3 | .lost => 4

/-- Codes of the pipe states (08 Table 8.1). -/
def pipeCode : PipeState → Nat
  | .disabled => 0 | .training => 1 | .active => 2 | .linkDown => 3

/-- Codes of the trio states (09 Table 9.2). -/
def runCode : RunState → Nat
  | .empty => 0 | .stop => 1 | .run => 2 | .halted => 3 | .debug => 4

/-- Codes of CRU_STATE (04 Table 4.7). -/
def cruCode : CruState → Nat
  | .notReady => 0 | .underTest => 1 | .inService => 2 | .lost => 3 | .recovering => 4

/-- Codes of the Erg states (13 Table 13.4). -/
def ergCode : ErgState → Nat
  | .off => 0 | .listen => 1 | .syncing => 2 | .running => 3 | .leading => 4 | .holdover => 5 | .silent => 6

/-- A camera port enters a state, with EV-030 (note). -/
def setCamState (c : Nat) (st : CamState) (s : State) : State :=
  let old := (s.cam c).st
  if old = st then s
  else raiseEvent 30 1 [c, camCode old, camCode st] (s.modCam c fun p => { p with st := st })

/-- A pipe enters a state, with EV-040 (note). -/
def setPipeState (p : Nat) (st : PipeState) (s : State) : State :=
  let old := (s.pipe p).st
  if old = st then s
  else raiseEvent 40 1 [p, pipeCode old, pipeCode st] (s.modPipe p fun x => { x with st := st })

/-- A trio or split core enters a state, with EV-050 (severe into HALTED). -/
def setRunState (u : Nat) (st : RunState) (s : State) : State :=
  let old := (s.unit u).st
  if old = st then s
  else raiseEvent 50 (if st = .halted then 3 else 1) [u / 4, u % 4, runCode old, runCode st, (s.unit u).cause]
    (s.modUnit u fun x => { x with st := st })

/-- CRU_STATE changes, with EV-070 (severe into LOST). -/
def setCruState (st : CruState) (s : State) : State :=
  let old := s.cru.st
  if old = st then s
  else raiseEvent 70 (if st = .lost then 3 else 1) [cruCode old, cruCode st, reg s P.cruLossCause]
    (s.modCru fun c => { c with st := st })

/-- The Erg state changes, with EV-060 (note). -/
def setErgState (st : ErgState) (s : State) : State :=
  let old := s.erg.st
  if old = st then s
  else raiseEvent 60 1 [ergCode old, ergCode st] (s.modErg fun e => { e with st := st })

/-! ### Status codes of replies (14 Table 14.2) -/

namespace Status
abbrev ok : Nat := 0
abbrev busy : Nat := 1
abbrev badOpcode : Nat := 2
abbrev badParam : Nat := 3
abbrev denied : Nat := 4
abbrev wrongState : Nat := 5
abbrev seqGap : Nat := 6
abbrev checkFail : Nat := 7
abbrev workerTimeout : Nat := 8
abbrev notPresent : Nat := 9
abbrev selftestBusy : Nat := 10
abbrev interrupted : Nat := 11
/-- Not a code of a packet: the reply follows at a later step (14 R390). -/
abbrev held : Nat := 256
end Status

/-- What a host command's own checks and effect give: the status, the reply's parameters, the state. -/
abbrev Answer : Type := Nat × Bytes × State

/-- A command turned away by its own checks: a status, no parameters, nothing applied (14 R387, R400). -/
def reject (status : Nat) (s : State) : Answer := (status, [], s)

/-- The outcome of a command that the machine goes on after. -/
def done (s : State) : Host.Outcome State Fault Refusal := .next s

end Sys2Proof.Machine
end

