-- ==== Sys2Proof/Machine/Store.lean ====
section
/-! DEFINITION. The store of the Crucible (chapter 04): who may write where, errors that reads meet, poison, soft repair of
pages, reads and writes, and the declaration of loss. -/

namespace Sys2Proof.Machine

/-- The contexts with any record, by index. -/
def viewIxs (s : State) : List Nat := s.views.map (·.1)

/-! ### Permissions (04 R86, R92) -/

/-- The run that the memory test slice in progress tests: 16 KiB (17 Table 17.3). -/
def underMarch (s : State) (a n : Nat) : Bool :=
  match tget none s.st.running 3 with
  | some r => inRange (16384 * r.unit) (16384 * r.unit + 16384) a n
  | none => false

/-- The regions each unit may write (04 Table 4.3): a lane only its own part of each report slot, the self-test sequencer its
scratch and the region under test. -/
def mayWrite (s : State) (w : Writer) (a n : Nat) : Bool :=
  let tbl := s.cru.pool
  match w with
  | .camera => inPool tbl [1] a n
  | .engine => inPool tbl [4] a n
  | .predictor => inRange 0x6C180000 0x6C1C0000 a n
  | .lane l => inRange 0x6C1C0000 0x6C3C0000 a n && decide (1024 * l ≤ a % 4096 ∧ a % 4096 + n ≤ 1024 * l + 1024)
  | .snapshot => inRange 0x6C140000 0x6C148000 a n
  | .erg => inRange 0x6D000000 0x6E000000 a n
  | .sp => inPool tbl [2, 3, 5] a n || inRange 0x68000000 0x6C000000 a n || inRange 0x6C000000 0x6C140000 a n ||
      inRange 0x6D000000 0x6E000000 a n
  | .selfTest => inRange 0x6E000000 0x70000000 a n || underMarch s a n

/-- A Crucible access fault, located to the block of the unit (04 R86, R92). -/
def accessFault (block : Nat) (s : State) : State :=
  detect 5 (locBlock s dieSoc block) (satField s P.cruAccessFaults 15 0 1)

/-! ### Loss (04 R107, R108) -/

/-- The view engines and the Mirage predictor stop: no render in progress completes (04 R108, 18 R468). -/
def haltRenders (s : State) : State :=
  { s with views := tmodAll {} (viewIxs s) (fun _ x => { x with render := x.render.map fun r => { r with halted := true } }) s.views }

/-- The state of a clock domain, and when it stopped. -/
def setDom (n : Nat) (d : DomState) (s : State) : State := s.modClk fun c => { c with
  doms := tset .running c.doms n d
  stoppedAt := if tget .running c.doms n = .running ∧ d ≠ .running then tset 0 c.stoppedAt n s.now else c.stoppedAt }

/-- The V bits that fall with the Crucible (01 R18, 04 R108, R111): VERIFIED and VALID of every view, CRUCIBLE_OK. -/
def cruBits : List Nat := 821 :: List.range 512

/-- The Crucible is declared lost (04 R108); its controller is held in reset until CRU_RECOVER (18 Table 18.3). -/
def loseCrucible (cause : Nat) (s : State) : State :=
  let s := setDom 5 .heldInReset s
  let s := haltRenders (setCruState .lost (setReg s P.cruLossCause cause))
  detect 9 (locBlock s dieSoc 0x50) (fall cruBits s) cause

/-- The tiles poisoned at present, with those that a write of this very edge has cleared: the loss is judged by them
(04 R100, R111). -/
def poisonCount (s : State) : Nat := s.cru.poison.length + (instant s).cleared

/-- More tiles are poisoned than CRU_POISON_MAX allows: cause 4 (04 R100, R107). -/
def judgePoison (s : State) : State :=
  if cruOk s && decide (reg s P.cruPoisonMax < poisonCount s) then loseCrucible 4 s else s

/-! ### Soft repair of a page (17 R452 to R455) -/

/-- An entry of the soft-repair table (17 Table 17.5). -/
def repairEntry (loc : BitVec 64) (kind origin spare : Nat) (boot : Word) : Bytes :=
  le 8 (loc.toNat % 2 ^ 44) ++ [b8 kind, b8 origin] ++ le 2 spare ++ le 4 boot.toNat

/-- The soft-repair table as it is written (17 Table 17.5), with its TCRC (16 R435). -/
def repairBytes (entries : List Bytes) (seq : Word) : Bytes :=
  let t := le 2 1 ++ le 2 entries.length ++ le 4 seq.toNat ++ zeros 8 ++ entries.flatten
  splice t 0x0C (le 4 (crcEmbedded t 0x0C))

/-- An entry is added to the soft-repair table: the copy that was not written last is written, SEQ one above (17 R455). -/
def addRepair (e : Bytes) (s : State) : State :=
  (useChannel 0x6A 0 1 s).writeMram fun m =>
    let l := m.repairs ++ [e]
    let b := repairBytes l (m.repairSeq + 1)
    { m with
      repairs := l, repairSeq := m.repairSeq + 1, repairLast := !m.repairLast
      repairCopy0 := if m.repairLast then b else m.repairCopy0, repairCopy1 := if m.repairLast then m.repairCopy1 else b }

/-- A page of the Crucible is remapped to the next spare and entered, its data copied with corrections applied and its poison marks
unchanged (17 R452); with no spare left it stays in use, FS-091
in a macro that the spec does not name (log 43). -/
def repairPage (addr origin : Nat) (s : State) : State :=
  let n := reg s P.stCruSpares
  if 256 ≤ n ∨ 1024 ≤ s.mram.repairs.length then
    detect 91 (locBlock s dieSoc 0x50 (Config.freeByte s.free).toNat) { s with free := s.free + 1 }
  else
    let s := s.modCru fun c => {
      c with
      spares := tset 0 c.spares (addr / 4096) (n + 1)
      errs := c.errs.filter fun x => decide (x.1 / 512 ≠ addr / 4096 ∨ x.2 = 65) }
    let e := repairEntry (locAddr s dieDram addr) 2 origin n s.mram.bootId
    let s := addRepair e s
    setReg (setReg s P.stCruSpares (n + 1)) P.stRepairs s.mram.repairs.length

/-! ### Errors (04 R93 to R97) -/

/-- A corrected error of a data word: counted, reported to the bit; at the third within a scrub pass, soft repair (04 R93, R95). -/
def correctedWord (addr bit : Nat) (s : State) : State :=
  let s := countReg s P.cruCeCount
  let s := detect 6 (locAddr s dieDram addr (bit % 64)) s
  let n := tget 0 s.cru.ceWords (addr / 8) + 1
  let s := s.modCru fun c => { c with ceWords := tset 0 c.ceWords (addr / 8) n }
  if n = 3 then repairPage addr 2 s else s

/-- A tile is poisoned by the detection of an uncorrectable word, which counts and reports the first time (04 R97). What the
word reads from then on is not stated (log 32). A tile that is written whole on the same edge ends unpoisoned (R111). -/
def poisonTile (a : Nat) (s : State) : State :=
  if tilePoisoned s a then s
  else if (instant s).wrote.contains (a / 256) then detect 7 (locAddr s dieDram a) (countReg s P.cruUeCount)
  else
    let bs := (List.range 8).map fun i => Config.freeByte (s.free + i)
    let s := { s with free := s.free + 8 }
    let s := s.modCru fun c => { c with poison := insertNat (a / 256) c.poison, mem := Memory.put c.mem (a / 8 * 8) bs }
    judgePoison (detect 7 (locAddr s dieDram a) (countReg s P.cruUeCount))

/-- A read meets a word: a single-bit error is corrected and written back, a double-bit error poisons the tile (04 R93). Which bit
an error of a check bit is located to is not stated: a free one (01 R31, log 32). -/
def meetWord (w : Nat) (s : State) : State :=
  let e := tget 0 s.cru.errs w
  if e = 0 ∨ tilePoisoned s (8 * w) then s
  else
    let s := s.modCru fun c => { c with errs := tset 0 c.errs w 0 }
    if e ≤ 64 then correctedWord (8 * w) (e - 1) s
    else if e = 65 then poisonTile (8 * w) s
    else correctedWord (8 * w) (Config.freeWord s.free).toNat { s with free := s.free + 1 }

/-- A read meets the errors that lie in a run of bytes. -/
def meetErrors (a n : Nat) (s : State) : State :=
  (s.cru.errs.map (·.1)).foldl (fun s w => if a < 8 * w + 8 ∧ 8 * w < a + n then meetWord w s else s) s

/-! ### Reads and writes -/

/-- What a read of the Crucible returns: the bytes, and the poison flag (04 R97). -/
def cruRead (s : State) (a n : Nat) : Bytes × Bool := (Memory.bytes s.cru.mem a n, runPoisoned s a n)

/-- A read by a unit: within the map it is charged and meets the errors that lie there; outside it is not performed, the unit
gets an error response, and the access fault is raised (04 R86, R93, R101). -/
def touch (block cls a n : Nat) (s : State) : State :=
  if !cruOk s then s
  else if cruEnd < a + n then accessFault block s
  else charge cls (bursts a n) (meetErrors a n s)

/-- Reads by a unit of several runs, in order. -/
def touchAll (block cls : Nat) (runs : List (Nat × Nat)) (s : State) : State :=
  runs.foldl (fun s r => touch block cls r.1 r.2 s) s

/-- A write reads the words it covers in part, before it merges (04 R96). -/
def meetEdges (a n : Nat) (s : State) : State :=
  let s := if a % 8 = 0 ∧ 8 ≤ n then s else meetErrors (a / 8 * 8) 8 s
  if (a + n) % 8 = 0 then s else meetErrors ((a + n) / 8 * 8) 8 s

/-- The tiles a run covers whole. -/
def wholeTiles (a n : Nat) : List Nat := (List.range (n / 256 + 1)).map (fun i => a / 256 + i) |>.filter (coveredTile a n)

/-- What an edge holds of its whole-tile writes (04 R111). -/
def noteTiles (a n : Nat) (s : State) : State :=
  let ks := wholeTiles a n
  if ks.isEmpty then s
  else { s with inst := { instant s with
    wrote := ks ++ (instant s).wrote
    cleared := (instant s).cleared + (ks.filter fun k => s.cru.poison.contains k).length } }

/-- A write to the Crucible by a unit: checked against the map and the unit's regions, charged, merged into the words it covers
in part, and clearing the poison of tiles it covers whole (04 R86, R92, R96, R98, R101). -/
def cruWrite (w : Writer) (block cls a : Nat) (bs : Bytes) (s : State) : State :=
  if cruOk s = false then s
  else if cruEnd < a + bs.length || !mayWrite s w a bs.length then accessFault block s
  else
    let s := noteTiles a bs.length (meetEdges a bs.length s)
    charge cls (bursts a bs.length) (s.modCru (storeBytes a bs))

/-- A write of a camera port, or the poisoning of a row, performed by `f`: on an edge for which a new pool table waits it is kept,
since that table decides it (04 R111). -/
def camStore (c a n : Nat) (bs : Option Bytes) (f : State → State) (s : State) : State :=
  let t := f s
  if s.cru.poolNext.isNone || !cruOk s || !cruOk t then t
  else
    let x : PoolWrite := {
      port := c, addr := a, len := n, bytes := bs, ok := decide (a + n ≤ cruEnd) && mayWrite s .camera a n,
      old := Memory.bytes s.cru.mem a n, poison := s.cru.poison.filter fun k => decide (256 * k < a + n ∧ a < 256 * k + 256),
      errs := s.cru.errs.filter fun e => decide (8 * e.1 < a + n ∧ a < 8 * e.1 + 8),
      src := s.src 5, full := decide (fld (reg s P.cruAccessFaults) 15 0 = 65535) }
    { t with inst := { instant t with pooled := x :: (instant t).pooled } }

/-- Tiles written with the poison mark (03 R71). -/
def poisonRun (a n : Nat) (c : CruSt) : CruSt :=
  { c with
    poison := (List.range (n / 256)).foldl (fun l i => insertNat (a / 256 + i) l) c.poison
    errs := c.errs.filter fun e => !coveredWord a n e.1 }

/-- What a camera write does to the store. -/
def storeRun (x : PoolWrite) (c : CruSt) : CruSt :=
  match x.bytes with
  | some bs => storeBytes x.addr bs c
  | none => poisonRun x.addr x.len c

/-- The run of a camera write as it was before it. -/
def unstore (x : PoolWrite) (c : CruSt) : CruSt :=
  let inRun (k : Nat) : Bool := decide (256 * k < x.addr + x.len ∧ x.addr < 256 * k + 256)
  { c with
    mem := Memory.put c.mem x.addr x.old
    poison := x.poison.foldl (fun l k => insertNat k l) (c.poison.filter fun k => !inRun k)
    errs := x.errs.foldl (fun t e => tset 0 t e.1 e.2) (c.errs.filter fun e => !coveredWord x.addr x.len e.1) }

/-- A camera write of the edge on which a new pool table has taken effect, judged by it (04 R111): one that it grants and the old one
did not is made, without the access fault; one that it does not grant is taken back, with the fault. -/
def rejudge (x : PoolWrite) (s : State) : State :=
  let ok := decide (x.addr + x.len ≤ cruEnd) && mayWrite s .camera x.addr x.len
  if ok = x.ok ∨ cruOk s = false then s
  else if ok then
    let s := takeBack P.cruAccessFaults 15 0 1 x.full (s.modSrc 5 fun _ => x.src)
    judgePoison (charge 1 (bursts x.addr x.len) (s.modCru (storeRun x)))
  else
    let n := bursts x.addr x.len
    let back (t : Table Nat) : Table Nat := tmod 0 t 1 (· - n)
    let s := { s with inst := { instant s with charged := back (instant s).charged } }
    accessFault x.port (s.modCru fun c => unstore x { c with used := back c.used })

end Sys2Proof.Machine
end

