-- ==== Sys2Proof/Machine/Faults.lean ====
section
/-! DEFINITION. The fault collector (chapter 15): causes, classes, escalation, records, Quench, the fault log, and the
commands that act on them. -/

namespace Sys2Proof.Machine

/-! ### Causes (15 R408, R424) -/

/-- The cause of a fault source persists, by the state that shows it; for a source no field shows, by its own bit. -/
def causePresent (n : Nat) (s : State) : Bool :=
  let out (k : Nat) := s.fio.outs.any fun (_, o) => o.latched.contains k
  if n = 1 then s.tick.holdover
  else if n = 2 then s.cams.any fun (_, c) => decide (c.st = .lost)
  else if n = 3 then s.cams.any fun (_, c) => c.frozen
  else if n = 9 then decide (s.cru.st = .lost ∨ s.cru.st = .recovering)
  else if n = 22 then s.pipes.any fun (_, p) => decide (p.st = .linkDown)
  else if n = 29 then s.units.any fun (_, u) => decide (u.st = .halted)
  else if n = 30 then s.trios.any fun (_, t) => t.suspect
  else if n = 31 ∨ n = 32 then s.trios.any fun (_, t) => decide (t.forced ≠ 0)
  else if n = 37 then decide (s.chkState = 2)
  else if n = 38 then s.fio.pairs.any fun (_, p) => p.disc
  else if n = 39 then s.fio.ins.any fun (_, i) => i.testFault
  else if n = 40 then s.fio.ins.any fun (_, i) => i.crossFault
  else if n = 41 then s.fio.tps.any fun (_, x) => x.fault
  else if n = 42 then s.fio.encs.any fun (_, e) => e.faulted
  else if n = 43 then out 43 || s.fio.outs.any fun (_, o) => o.retryAt.isSome
  else if 44 ≤ n ∧ n ≤ 47 then out n
  else if n = 48 then s.fio.groups.any fun (_, g) => g.fault
  else if n = 49 then s.fio.l1Low
  else if n = 50 then s.fio.l2Low
  else if n = 51 then s.fio.l1Over || s.fio.l2Over
  else if n = 52 then s.fio.hbExpired
  else if n = 54 then s.iol.lost
  else if n = 55 then s.erg.portA.fault || s.erg.portB.fault
  else if n = 57 then s.erg.mismatch
  else if n = 58 then decide (s.erg.st = .holdover)
  else if n = 59 then decide (s.erg.st = .silent ∧ s.erg.silentCause = 1)
  else if n = 60 then decide (s.erg.st = .silent ∧ s.erg.silentCause = 2)
  else if n = 63 then s.clk.backup
  else if 64 ≤ n ∧ n ≤ 70 then decide (tget .running s.clk.doms (n - 64) ≠ .running)
  else if n = 83 then !s.host.linkUp
  else (s.src n).persists

/-- ACTIVE: the pair is not OK, or the cause of the last event persists (15 R424). -/
def sourceActive (n : Nat) (s : State) : Bool :=
  (s.src n).held.isSome || ((s.src n).active && causePresent n s)

/-- The pair of a source returns to OK where its cause has gone (15 R407, R408). -/
def settle (n : Nat) (s : State) : State :=
  if (s.src n).held.isNone && !causePresent n s then s.modSrc n fun x => { x with active := false } else s

/-- The cause of a source that no other field shows has gone. -/
def causeGone (n : Nat) (s : State) : State := settle n (s.modSrc n fun x => { x with persists := false })

/-- LATCHED: a first-fault record exists (15 R424). -/
def sourceLatched (n : Nat) (s : State) : Bool := (s.src n).first.isSome

/-! ### Classes (15 R411 to R415) -/

/-- Code of the collector's mode in FLT_MODE and in a record's FLAGS (15 Tables 15.5, 15.8). -/
def modeCode : FltMode → Nat
  | .service => 0 | .start => 1 | .recovery => 3

/-- The number under which a Crucible block of 16 KiB stands among the units under test. -/
def cruUnderTest (n : Nat) : Nat := 0x100 + n

/-- A detection is located to one of the given units under test: a block of the SoC, or a block of the Crucible (15 R412,
17 Table 17.3). -/
def locatedTo (units : List Nat) (loc : BitVec 64) : Bool :=
  if fld loc.toNat 43 40 = dieSoc then units.contains (fld loc.toNat 39 32)
  else decide (fld loc.toNat 43 40 = dieDram) && units.contains (cruUnderTest (fld loc.toNat 39 6 / 2048))

/-- The source of a detection is located to a unit under test (15 R412). -/
def underTest (loc : BitVec 64) (s : State) : Bool := locatedTo s.flt.testing loc

/-- Base class of a source in force (15 R415). -/
def baseClass (n : Nat) (s : State) : Nat := fld (regE s (P.fltClass n)) 2 0

/-- The block codes a source locates to, first and last (15 Table 15.1, 01 Table 1.8); any block of its die where the table names the
unit's own block. -/
def sourceBlocks (n : Nat) : Nat × Nat :=
  if n = 2 ∨ n = 3 ∨ n = 4 ∨ n = 15 then (0x00, 0x0F) else if n = 11 ∨ n = 12 then (0x10, 0x17)
  else if n = 14 ∨ n = 20 ∨ (22 ≤ n ∧ n ≤ 26) then (0x18, 0x1F) else if 16 ≤ n ∧ n ≤ 19 then (0x20, 0x22)
  else if n = 27 ∨ n = 33 ∨ n = 34 then (0x28, 0x3F) else if 28 ≤ n ∧ n ≤ 32 then (0x40, 0x47)
  else if n = 1 then (0x71, 0x71) else if n = 8 then (0x51, 0x51) else if n = 9 then (0x50, 0x50) else if n = 13 then (0x70, 0x70)
  else if n = 21 then (0x20, 0x20) else if n = 37 ∨ n = 75 ∨ n = 76 ∨ n = 94 then (0x60, 0x60)
  else if 38 ≤ n ∧ n ≤ 40 then (0x00, 0x1F) else if n = 41 then (0x38, 0x3B) else if n = 42 then (0x43, 0x43)
  else if 43 ≤ n ∧ n ≤ 47 then (0x20, 0x2F) else if n = 48 then (0x30, 0x33) else if n = 49 then (0x41, 0x41)
  else if n = 50 then (0x42, 0x42) else if n = 51 then (0x41, 0x42) else if n = 52 then (0x40, 0x40)
  else if n = 53 ∨ n = 85 then (0x44, 0x44) else if n = 54 then (0x6B, 0x6B) else if n = 55 ∨ n = 61 ∨ n = 62 then (0x58, 0x59)
  else if (56 ≤ n ∧ n ≤ 60) ∨ n = 82 then (0x5A, 0x5A) else if 63 ≤ n ∧ n ≤ 70 then (0x69, 0x69)
  else if n = 83 then (0x61, 0x61) else if n = 84 then (0x68, 0x68) else (0x00, 0xFF)

/-- The block codes of the SoC (01 Table 1.8); all others are reserved. -/
def socBlock (b : Nat) : Bool :=
  decide (b < 0x23 ∨ (0x28 ≤ b ∧ b < 0x48)) || [0x50, 0x51, 0x58, 0x59, 0x5A, 0x60, 0x61, 0x62, 0x68, 0x69, 0x6A, 0x6B, 0x70, 0x71].contains b

/-- The BLOCK that a location given for a source names: one of the codes the source locates to, the first of them where the word
names another (01 R32; DESIGN CHOICE, log 202); an even input where the source locates to a pair (15 FS-038). -/
def sourceBlock (n b : Nat) : Nat :=
  let r := sourceBlocks n
  let b := if n = 38 then b / 2 * 2 else b
  if decide (r.1 ≤ b ∧ b ≤ r.2) && (decide (r.2 < 0xFF) || socBlock b) then b else r.1

/-- N and W (ms) of a source in force (15 R413). -/
def escN (n : Nat) (s : State) : Nat := fld (regE s (P.fltCfg n)) 7 0
def escW (n : Nat) (s : State) : Nat := fld (regE s (P.fltCfg n)) 31 8

/-- The mode that applies to an event of a source, as a code (15 R412). -/
def eventMode (loc : BitVec 64) (s : State) : Nat := if underTest loc s then 2 else modeCode s.flt.mode

/-- The event times that count within W before and at now (15 R413). -/
def inWindow (n : Nat) (s : State) : List Time :=
  (s.src n).times.filter fun t => decide (s.now ≤ t + ms (escW n s))

/-- The class an event of a source takes in a mode by an entry of FLT_CLASS (15 R413 to R415), with `before` events counted before it in
its window, and whether it escalates. -/
def classIn (m c n before : Nat) (s : State) : Nat × Bool :=
  let b := fld c 2 0
  if b = 4 then (4, false)
  else if m = 0 then
    if 3 ≤ b then (b, false)
    else if (s.src n).escalated || decide (escN n s ≤ before + 1) then (3, true)
    else (b, false)
  else (if m = 1 then fld c 5 3 else if m = 2 then fld c 8 6 else fld c 11 9, false)

/-- The mode that applied to an event of a source before a change of this edge, where there is one (15 R427). -/
def modeBefore (loc : BitVec 64) (s : State) : List Nat :=
  match (instant s).modeWas, (instant s).testingWas with
  | none, none => []
  | m, u => [if locatedTo (u.getD s.flt.testing) loc then 2 else modeCode (m.getD s.flt.mode)]

/-- The class an event of a source takes now: on the edge of a change of mode or class the higher one (15 R413 to R415, R427). -/
def classWith (n : Nat) (loc : BitVec 64) (before : Nat) (s : State) : Nat × Bool :=
  let entries := regE s (P.fltClass n) :: ((instant s).classWas.map fun t => regGet t (P.fltClass n)).toList
  let modes := eventMode loc s :: modeBefore loc s
  (entries.flatMap fun c => modes.map fun m => classIn m c n before s).foldl (fun a b => if a.1 < b.1 then b else a) (0, false)

/-- The class an event of a source takes now, and whether it escalates. -/
def eventClass (n : Nat) (loc : BitVec 64) (s : State) : Nat × Bool := classWith n loc (inWindow n s).length s

/-! ### Records (15 R422, R423) -/

/-- A record in the order and sizes of 15 Table 15.5, little- or big-endian by `f`. -/
def recordBytes (f : Nat → Nat → Bytes) (n : Nat) (present : Bool) (r : FaultRec) : Bytes :=
  f 2 n ++ [b8 r.cls, b8 (packBits [r.rail, r.escalated, r.merged, present] + 16 * r.mode)] ++ f 4 r.count ++
    f 4 r.seq.toNat ++ f 4 r.detail.toNat ++ f 4 r.tick.toNat ++ f 8 r.time ++ f 8 r.loc.toNat ++ f 4 0

/-- An entry of the MRAM fault log (15 R426), little-endian. -/
def logBytes (n : Nat) (present : Bool) (r : FaultRec) (boot : Word) : Bytes :=
  let b := recordBytes le n present r ++ le 4 boot.toNat
  b ++ le 4 (crcStore b)

/-- The sizes of the fields of a fault log entry. -/
def logFields : List Nat := [2, 1, 1, 4, 4, 4, 4, 8, 8, 4, 4, 4]

/-- A severe or quench event writes an entry to the MRAM fault log, at most one per second and source
(15 R426). The first entry takes position 0 (DEDUCED, log 14). -/
def writeLog (n : Nat) (r : FaultRec) (s : State) : State :=
  let free := match (s.src n).loggedAt with
    | some t => decide (t + ms 1000 ≤ s.now)
    | none => true
  if 3 ≤ r.cls && free then
    (s.modSrc n fun x => { x with loggedAt := some s.now }).writeMram fun m => { m with
      logPos := if m.log.isEmpty then 0 else (m.logPos + 1) % 512,
      log := (logBytes n true r m.bootId :: m.log).take 512 }
  else s

/-! ### Quench (15 R416 to R420) -/

/-- Quench is asserted by the first event of class quench, with EV-003. On the edge of a release it stays asserted: that is no new
Quench, and EV-003 takes back the one of the release (15 R427; log 204). -/
def assertQuench (n : Nat) (s : State) : State :=
  match (if s.flt.quench then none else (instant s).quenchWas) with
  | some k => raiseEvent 3 4 [1] (s.modFlt fun f => { f with quench := true, quenchSrc := if k = 0 then n else k }) n
  | none =>
  let s := if s.flt.quenchSrc = 0 then s.modFlt fun f => { f with quenchSrc := n } else s
  if s.flt.quench then s
  else
    let s := s.modFlt fun f => { f with quench := true }
    raiseEvent 3 4 [1] (satField s P.fltQuenchCount 15 0 1) n

/-- Sources whose latest record carries class quench. -/
def quenchHeld (s : State) : Bool :=
  s.flt.srcs.any fun (_, x) => match x.latest with | some r => decide (r.cls = 4) | none => false

/-- A source whose base class is quench is active. -/
def quenchActive (s : State) : Bool :=
  s.flt.srcs.any fun (n, _) => decide (baseClass n s = 4) && sourceActive n s

/-- Quench is released, with EV-003 (15 R419). -/
def releaseQuench (s : State) : State :=
  if s.flt.quench then
    raiseEvent 3 1 [0] { s.modFlt fun f => { f with quench := false, quenchSrc := 0 } with
      inst := { instant s with quenchWas := some s.flt.quenchSrc } }
  else s

/-- In START, Quench is released only when the collector's self-test has passed and no quench source is active
(15 R420); after a clear, when no latest record carries class quench (15 R419). -/
def tryRelease (s : State) : State :=
  if s.flt.selfOk && !quenchHeld s && !quenchActive s then releaseQuench s else s

/-! ### An event at the collector -/

/-- What this edge knows of an event. -/
def noteFault (e : FltEvent) (s : State) : State :=
  { s with inst := { instant s with fltEvents := e :: (instant s).fltEvents } }

/-- The sources that a reply to FAULT_CLEAR names, with one more. -/
def nameSource (n : Nat) (params : Bytes) : Bytes :=
  let ns := insertNat n ((List.range (u8 params 0)).map fun i => beAt 2 params (1 + 2 * i))
  [b8 ns.length] ++ ns.flatMap (be 2)

/-- A source that FAULT_CLEAR has cleared on the edge of its event is not cleared, and the reply names it (15 R427); the EV-002 that the
clear has raised stands (log 203). -/
def uncleared (n : Nat) (s : State) : State :=
  match tget none (instant s).fltCleared n with
  | none => s
  | some x =>
    let s := s.modSrc n fun y => { y with first := x.first, latest := x.latest, count := x.count, times := x.times, escalated := x.escalated }
    let s := { s with inst := { instant s with fltCleared := tset none (instant s).fltCleared n none } }
    match s.host.tx.find? fun p => decide (p.kind = .reply ∧ p.opcode = 0x0803 ∧ p.status = Status.ok) with
    | none => s
    | some p =>
      let named (q : OutPkt) : OutPkt := if { q with via := p.via } = p then { q with params := nameSource n p.params } else q
      s.modHost fun h => { h with tx := h.tx.map named, window := h.window.map named }

/-- A real event on the edge of the collector's self-test: the test repeats at the next edge, and this run of it leaves nothing
(15 R427; log 205). -/
def repeatTest (n : Nat) (s : State) : State :=
  match (if n = 84 then none else (instant s).selfTest) with
  | none => s
  | some u =>
    let s := setReg (s.modSrc 84 fun _ => u.src) P.fltSelftest u.count
    let s := s.modFlt fun f => { f with selfOk := u.ok, quench := f.quench || u.quench, quenchSrc := if u.quench then u.quenchSrc else f.quenchSrc }
    { s with inst := { instant s with selfTest := none } }

/-- A list of numbers sorted into another by a key, ascending. -/
def insertBySrc (e : FltEvent) : List FltEvent → List FltEvent
  | [] => [e]
  | x :: r => if e.src < x.src then e :: x :: r else x :: insertBySrc e r

/-- The records of an event get the SEQ that is their source's place among the recorded events of the edge (15 R427). -/
def renumber (e : FltEvent) (seq : Word) (s : State) : State :=
  if e.seq = seq then s
  else
    let new (r : FaultRec) : FaultRec := if r.seq = e.seq then { r with seq := seq } else r
    let log := match (s.src e.src).latest with
      | some r => s.mram.log.map fun b =>
          if b = logBytes e.src true r s.mram.bootId then logBytes e.src true (new r) s.mram.bootId else b
      | none => s.mram.log
    (s.modSrc e.src fun x => { x with first := x.first.map new, latest := x.latest.map new }).modMram fun m => { m with log := log }

/-- Events of several sources on one edge have their SEQ in ascending order of the sources (15 R427). -/
def orderEvents (s : State) : State :=
  let es := ((instant s).fltEvents.filter fun e => decide (e.cls ≠ 0)).foldl (fun l e => insertBySrc e l) []
  if es.length < 2 then s
  else
    let base := reg s P.fltEvents + 2 ^ 32 + 1 - es.length
    let es' := (List.range es.length).zip es |>.map fun (i, e) => (e, w32 (base + i))
    let s := es'.foldl (fun s (e, q) => renumber e q s) s
    let s := { s with inst := { instant s with
      fltEvents := (es'.map fun (e, q) => { e with seq := q }) ++ (instant s).fltEvents.filter fun e => decide (e.cls = 0) } }
    setReg s P.fltLatestSource ((es.getLast?.map (·.src)).getD 0)

/-- A detection is classified, recorded and reported (15 R411 to R413, R422, R426). While the SP restarts its EV-001
is held (19 R493). -/
def recordEvent (n : Nat) (d : Detection) (rail merged : Bool) (s : State) : State :=
  let s := repeatTest n (uncleared n s)
  let (cls, esc) := eventClass n d.loc s
  let seen : FltEvent := { src := n, det := d, rail := rail, merged := merged, cls := cls, seq := w32 (reg s P.fltEvents + 1) }
  let s := noteFault seen s
  if cls = 0 then s
  else
    let s := s.modSrc n fun x => { x with
      times := s.now :: inWindow n s,
      escalated := x.escalated || esc,
      count := min (x.count + 1) 0xFFFFFFFF }
    let s := wrapReg s P.fltEvents
    let r : FaultRec := {
      cls := cls, rail := rail, escalated := esc, merged := merged, mode := eventMode d.loc s,
      count := (s.src n).count, seq := w32 (reg s P.fltEvents), detail := d.detail, tick := s.tick.count,
      time := timeUs s, loc := d.loc }
    let s := s.modSrc n fun x => { x with first := some (x.first.getD r), latest := some r }
    let s := orderEvents (setReg s P.fltLatestSource n)
    let r := ((s.src n).latest).getD r
    let s := if cls = 3 then countReg s P.fltSevereCount else s
    let s := writeLog n r s
    let s :=
      if s.clk.sp = .running then raiseEvent 1 cls [r.count] s n d.loc
      else s.modHost fun h => { h with parked := h.parked ++ [tailNow 1 cls n d.loc [r.count] s] }
    if cls = 4 then assertQuench n s else s

/-- An event of this edge takes the class that a change of mode or class on it gives, where that one is higher (15 R427): an ignored one
is recorded; the records of another carry it, with what it brings; its EV-001 stands as raised (log 203). -/
def raiseTo (e : FltEvent) (s : State) : State :=
  if e.cls = 0 then
    if (classWith e.src e.det.loc (inWindow e.src s).length s).1 = 0 then s
    else recordEvent e.src e.det e.rail e.merged { s with inst := { instant s with fltEvents := (instant s).fltEvents.filter (· ≠ e) } }
  else
    let (cls, esc) := classWith e.src e.det.loc ((inWindow e.src s).length - 1) s
    if cls ≤ e.cls then s
    else
      let up (r : FaultRec) : FaultRec := if r.seq = e.seq then { r with cls := cls, escalated := r.escalated || esc } else r
      let s := s.modSrc e.src fun x => { x with first := x.first.map up, latest := x.latest.map up, escalated := x.escalated || esc }
      let s := { s with inst := { instant s with
        fltEvents := (instant s).fltEvents.map fun x => if x = e then { e with cls := cls } else x } }
      let s := if cls = 3 then countReg s P.fltSevereCount else s
      let s := match (s.src e.src).latest with | some r => writeLog e.src r s | none => s
      if cls = 4 then assertQuench e.src s else s

/-- The events of this edge after a change of mode or class on it (15 R427). -/
def reclassify (s : State) : State := (instant s).fltEvents.foldl (fun s e => raiseTo e s) s

/-- The collector's mode changes (15 R412). -/
def setFltMode (m : FltMode) (s : State) : State :=
  if s.flt.mode = m then s
  else reclassify { s.modFlt fun f => { f with mode := m } with
    inst := { instant s with modeWas := some ((instant s).modeWas.getD s.flt.mode) } }

/-- Fault sources located to a unit under test are in mode TEST (15 R412). -/
def setTesting (unit : Nat) (on : Bool) (s : State) : State :=
  reclassify { s.modFlt fun f => { f with testing := if on then insertNat unit f.testing else f.testing.filter (· ≠ unit) } with
    inst := { instant s with testingWas := some ((instant s).testingWas.getD s.flt.testing) } }

/-- The collector acknowledges the event a source holds its pair with; detections merged behind it raise exactly one
further event (15 R408). -/
def acknowledge (n : Nat) (rail : Bool) (s : State) : State :=
  match (s.src n).held with
  | none => s
  | some d =>
    let merged := (s.src n).mergedHeld
    let s := if merged then countReg s P.fltMerged else s
    let s := if rail then countReg s P.fltRailFaults else s
    let s := recordEvent n d rail merged s
    settle n (s.modSrc n fun x => { x with railed := rail, held := x.behind, behind := none, mergedHeld := x.behind.isSome })

/-- FLT_FIRST_SOURCE: the source of the lowest SEQ among the first-fault records (15 R422). -/
def firstSource (s : State) : Nat :=
  (s.flt.srcs.foldl (fun (acc : Nat × Option Word) (p : Nat × FaultSrc) =>
    match p.2.first, acc.2 with
    | some r, some q => if r.seq.toNat < q.toNat then (p.1, some r.seq) else acc
    | some r, none => (p.1, some r.seq)
    | none, _ => acc) (0, none)).1

/-! ### What a source may say of itself (01 R29, R30; 15 Table 15.1, R423) -/

/-- The die a source locates to (15 Table 15.1). -/
def sourceDie (n : Nat) : Nat :=
  if n = 6 ∨ n = 7 ∨ n = 10 then dieDram
  else if n = 35 ∨ n = 36 ∨ n = 77 ∨ n = 78 ∨ n = 79 ∨ n = 95 ∨ n = 96 then dieMram
  else if (38 ≤ n ∧ n ≤ 53) ∨ (85 ≤ n ∧ n ≤ 88) then dieFio
  else dieSoc

/-- The bits of [39:0] that a source's depth leaves open (15 Table 15.1): none at die depth, BLOCK, down to MACRO, BLOCK and WORD
alone, down to WORD, down to BIT. -/
def sourceDepth (n : Nat) : Nat :=
  if n = 10 ∨ (71 ≤ n ∧ n ≤ 73) ∨ (86 ≤ n ∧ n ≤ 88) ∨ n = 93 then 0
  else if n = 8 ∨ n = 20 ∨ n = 42 ∨ (63 ≤ n ∧ n ≤ 70) ∨ n = 91 then 0xFFFF000000
  else if n = 14 then 0xFF0003FFC0
  else if n = 7 ∨ n = 34 ∨ n = 35 ∨ n = 36 ∨ n = 78 ∨ n = 79 ∨ n = 81 ∨ n = 82 ∨ n = 90 ∨ n = 95 ∨ n = 96 then 0xFFFFFFFFC0
  else if n = 6 ∨ n = 33 ∨ n = 77 ∨ n = 80 then 0xFFFFFFFFFF
  else 0xFF00000000

/-- The bits of [39:0] that a location given for a source carries: nothing below its depth, a BLOCK it locates to, the MACRO of a clock
(01 R30, R32; 15 Table 15.1). -/
def sourceFields (n : Nat) (loc : BitVec 64) : Nat :=
  let v := loc.toNat &&& sourceDepth n
  let low := if 63 ≤ n ∧ n ≤ 70 then (n - 63) * 2 ^ 24 else v % 2 ^ 32
  if sourceDepth n = 0 ∨ sourceDie n = dieDram ∨ sourceDie n = dieMram then v
  else sourceBlock n (v / 2 ^ 32) * 2 ^ 32 + low

/-- A location word as a source gives it: its module's device and its die, nothing below its depth (01 R29, R30). -/
def sourceLoc (n : Nat) (loc : BitVec 64) (s : State) : BitVec 64 :=
  BitVec.ofNat 64 (deviceNo s * 2 ^ 44 + sourceDie n * 2 ^ 40 + sourceFields n loc)

/-- The DETAIL bits a source fills (15 Table 15.5): all others are 0. -/
def sourceDetail (n : Nat) (d : Word) : Nat :=
  d.toNat &&& (if n = 9 then 0xFF else if n = 29 then 0x3FFFF else if n = 36 then 0x3FF else if n = 96 then 0xFFFFFF else 0)

/-! ### Commands -/

/-- A pair that read so before has been sampled so at an earlier edge too. -/
def secondSample (since : Option Time) (s : State) : Bool := since.any fun t => decide (t < s.now)

/-- The pair of a source has not returned to OK: its cause persists, or there has been no room for two 01 samples since it last read
otherwise (15 R407). -/
def pairBusy (n : Nat) (s : State) : Bool := (s.src n).active || (s.src n).badAt.any fun t => decide (s.now < t + 3)

/-- The second sample in a row of 00 or 11 makes the event a rail fault: it is marked in its record and counted, once (15 R407). -/
def railFault (n : Nat) (s : State) : State :=
  if (s.src n).railed then s
  else
    let mark (q : Option Word) (r : FaultRec) : FaultRec := if some r.seq = q then { r with rail := true } else r
    countReg (s.modSrc n fun x =>
      let q := x.latest.map (·.seq)
      { x with railed := true, first := x.first.map (mark q), latest := x.latest.map (mark q) }) P.fltRailFaults

/-- A descriptor of the boot record that reads uncorrectable counts as EMPTY (19 R489). -/
def slotRead (n : Nat) (loc : BitVec 64) (s : State) : State :=
  if n = 78 ∧ loc = locAddr s dieMram 0x20 then s.modUpd fun u => { u with slotA := { u.slotA with state := 0 } }
  else if n = 78 ∧ loc = locAddr s dieMram 0x28 then s.modUpd fun u => { u with slotB := { u.slotB with state := 0 } }
  else s

/-- FAULT_EVENT (15 R407, R408, R413): the collector samples the pair of a source. Two 01 samples in a row show the source OK again; any
other reading begins or takes up an event of what the source holds, or of the detection the environment gives, but no second event
before the pair has returned to OK; two samples of 00 or 11 in a row make it a rail fault. Each command is one sample (log 206). -/
def faultEvent (t : Time) (n : Nat) (pair : BitVec 2) (det : Detection) (persists : Bool) (s : State) : State :=
  let s := advance t s
  if n = 0 then s
  else if pair = 1 then
    if (s.src n).held.isSome then s
    else
      let second := secondSample (s.src n).okAt s
      let s := s.modSrc n fun x => { x with okAt := some (x.okAt.getD s.now), railAt := none }
      if second then causeGone n s else s
  else
    let rail := decide (pair = 0 ∨ pair = 3)
    let second := rail && secondSample (s.src n).railAt s
    let busy := pairBusy n s
    let s := s.modSrc n fun x => { x with
      okAt := none, badAt := some s.now, railAt := if rail then some (x.railAt.getD s.now) else none }
    if (s.src n).held.isSome then acknowledge n second s
    else if busy then
      let s := s.modSrc n fun x => { x with active := x.active || persists, persists := x.persists || persists }
      if second then railFault n s else s
    else acknowledge n false (detect n (sourceLoc n det.loc s) (slotRead n (sourceLoc n det.loc s) s) (sourceDetail n det.detail) persists)

def execFaultEvent (t : Time) (source : Fin 97) (pair : BitVec 2) (det : Detection) (persists : Bool) (s : State) :
    Host.Outcome State Fault Refusal := done (faultEvent t source.val pair det persists s)

/-- The collector works: the module is out of reset, and its start-up has not been stopped (17 Table 17.2). -/
def collectorRuns (s : State) : Bool := !s.st.inReset && !s.st.stopped

/-- COLLECTOR_SELFTEST (15 R420, R421): the test is counted; a failure raises FS-084; a pass lets Quench go in START. On the edge of a
real event it repeats at the next edge, whose command brings its result (R427; log 205). -/
def collectorSelftest (t : Time) (pass : Bool) (s : State) : State :=
  let s := advance t s
  if !collectorRuns s || ((instant s).fltEvents.any fun e => decide (e.src ≠ 84)) then s
  else
  let undo : SelfUndo := {
    count := reg s P.fltSelftest, ok := s.flt.selfOk, src := s.src 84, quench := s.flt.quench, quenchSrc := s.flt.quenchSrc }
  let s := { s with inst := { instant s with selfTest := some ((instant s).selfTest.getD undo) } }
  let s := setField s P.fltSelftest 15 0 (fld (reg s P.fltSelftest) 15 0 + 1)
  let s := setField s P.fltSelftest 16 16 (b2n pass)
  let s := s.modFlt fun f => { f with selfOk := pass }
  if pass then
    let s := causeGone 84 s
    if s.flt.mode = .start then tryRelease s else s
  else detect 84 (locBlock s dieSoc 0x68) s (persists := true)

def execCollectorSelftest (t : Time) (pass : Bool) (s : State) : Host.Outcome State Fault Refusal :=
  done (collectorSelftest t pass s)

/-- HOST_LINK_DOWN (15 FS-083): the host link goes down. -/
def hostLinkDown (t : Time) (s : State) : State :=
  let s := advance t s
  detect 83 (locBlock s dieSoc 0x61) (s.modHost fun h => { h with linkUp := false })

def execHostLinkDown (t : Time) (s : State) : Host.Outcome State Fault Refusal := done (hostLinkDown t s)

/-! ### Bodies of the fault commands (14 Table 14.10) -/

/-- The 96 bits of a predicate of the sources as a big-endian integer, FS-n in bit n - 1. -/
def sourceBits (f : Nat → Bool) : Nat := packBits ((List.range 96).map fun i => f (i + 1))

/-- FAULT_SUMMARY (15 R424). -/
def faultSummary (s : State) : Answer :=
  (Status.ok, be 12 (sourceBits fun n => sourceActive n s) ++ be 12 (sourceBits fun n => sourceLatched n s) ++ zeros 8, s)

/-- FAULT_RECORD (15 R422, R423). -/
def faultRecord (n : Nat) (s : State) : Answer :=
  if n = 0 ∨ 96 < n then reject Status.badParam s
  else
    match (s.src n).first, (s.src n).latest with
    | some f, some l => (Status.ok, recordBytes be n (sourceActive n s) f ++ recordBytes be n (sourceActive n s) l, s)
    | _, _ => reject Status.notPresent s

/-- A source is not to be cleared: it is active, or has an event on this very edge (15 R425, R427). -/
def keepsRecord (n : Nat) (s : State) : Bool := sourceActive n s || (instant s).fltEvents.any fun e => decide (e.src = n)

/-- One source is cleared, with EV-002, unless it is active (15 R425). -/
def clearSource (n : Nat) (s : State) : State :=
  if keepsRecord n s then s
  else
    let was := sourceLatched n s
    let s := { s with inst := { instant s with
      fltCleared := tset none (instant s).fltCleared n (some ((tget none (instant s).fltCleared n).getD (s.src n))) } }
    let s := s.modSrc n fun x => { x with first := none, latest := none, count := 0, times := [], escalated := false }
    if was then raiseEvent 2 1 [0x0803] s n else s

/-- FAULT_CLEAR (15 R425, R419). -/
def faultClear (n : Nat) (s : State) : Answer :=
  if 96 < n then reject Status.badParam s
  else
    let ns := if n = 0 then (List.range 96).map (· + 1) else [n]
    let remain := ns.filter fun k => keepsRecord k s
    let s := ns.foldl (fun s k => clearSource k s) s
    let s := if s.flt.quench then tryRelease s else s
    (Status.ok, [b8 remain.length] ++ remain.flatMap (be 2), s)

/-- FAULT_LOG_READ (15 R426): entries from INDEX on, 0 the newest. -/
def faultLogRead (index count : Nat) (s : State) : Answer :=
  if 511 < index ∨ count = 0 ∨ 16 < count then reject Status.badParam s
  else
    let es := (s.mram.log.drop index).take count
    if es.isEmpty then reject Status.notPresent s
    else (Status.ok, es.flatMap (swapFields logFields), s)

end Sys2Proof.Machine
end

