-- ==== Sys2Proof/Machine/HostIf.lean ====
section
/-! DEFINITION. The host and service interfaces (chapter 14, 19 R482 to R484): sessions, sequences, the replay window,
the command queue, forwarding, and the handling order of an arriving packet (14 Table 14.3). -/

namespace Sys2Proof.Machine

/-! ### Schedule fields that forwarding needs (13 Table 13.2) -/

/-- Slots of a schedule, and the fields of slot `n`. -/
def schedSlots (sc : Bytes) : Nat := u16 sc 2
def slotStart (sc : Bytes) (n : Nat) : Nat := u32 sc (0x20 + 8 * n)
def slotType (sc : Bytes) (n : Nat) : Nat := u8 sc (0x24 + 8 * n)
def slotOwner (sc : Bytes) (n : Nat) : Nat := u8 sc (0x25 + 8 * n)
def slotLength (sc : Bytes) (n : Nat) : Nat := u16 sc (0x26 + 8 * n)

/-- The SERVICE slot of a device, where the schedule has one. -/
def serviceSlot (sc : Bytes) (dev : Nat) : Option Nat :=
  (List.range (schedSlots sc)).find? fun n => slotType sc n = 4 && slotOwner sc n = dev

/-- LENGTH of a device's SERVICE slot; 0 without one. -/
def serviceLength (sc : Bytes) (dev : Nat) : Nat := ((serviceSlot sc dev).map (slotLength sc)).getD 0

/-! ### Sessions -/

/-- A session by number: 0 host, 1 and 2 service sessions 0 and 1, 3 recovery session, 4 forwarded service session. -/
def svcOf (s : State) (ix : Nat) : SvcSt :=
  if ix = 1 then s.host.svc0 else if ix = 2 then s.host.svc1 else if ix = 3 then s.host.rom else s.host.fwdSess

def modSvc (s : State) (ix : Nat) (f : SvcSt → SvcSt) : State := s.modHost fun h =>
  if ix = 1 then { h with svc0 := f h.svc0 } else if ix = 2 then { h with svc1 := f h.svc1 }
  else if ix = 3 then { h with rom := f h.rom } else { h with fwdSess := f h.fwdSess }

/-- The open session by number. -/
def sessOf (s : State) (ix : Nat) : Option Session := if ix = 0 then s.host.sess else (svcOf s ix).sess

/-- HSEQ_NEXT and HSEQ_LAST of a session (14 R392, 19 R482). -/
def hseqNext (s : State) (ix : Nat) : Word := if ix = 0 then s.host.hseqNext else (svcOf s ix).hseqNext
def hseqLast (s : State) (ix : Nat) : Word := if ix = 0 then s.host.hseqLast else (svcOf s ix).hseqLast

/-- The stored replies of a session, and how many consumed HSEQ values they cover (14 R389, 19 R482). -/
def windowOf (s : State) (ix : Nat) : List OutPkt := if ix = 0 then s.host.window else (svcOf s ix).window
def windowSize (ix : Nat) : Nat := if ix = 0 then 128 else 16

def setSess (s : State) (ix : Nat) (x : Option Session) : State :=
  if ix = 0 then s.modHost fun h => { h with sess := x } else modSvc s ix fun v => { v with sess := x }

def setHseq (s : State) (ix : Nat) (next last : Word) : State :=
  if ix = 0 then s.modHost fun h => { h with hseqNext := next, hseqLast := last }
  else modSvc s ix fun v => { v with hseqNext := next, hseqLast := last }

def setWindow (s : State) (ix : Nat) (w : List OutPkt) : State :=
  if ix = 0 then s.modHost fun h => { h with window := w } else modSvc s ix fun v => { v with window := w }

/-- Timeout of a session in REF cycles (14 R388, 19 R482). -/
def sessTimeout (s : State) (ix : Nat) : Time := if ix = 0 then ms 100 * reg s P.sysSessionTimeout else ms 60000

/-- UPD_LOCK code of a session (19 R498): the number of its holder; 0 for the host session. -/
def lockCode (ix : Nat) : Nat := ix

/-- The update lock is released; the slots stay as they stand, and a download in progress is not resumed (19 R498). -/
def releaseLock (s : State) : State :=
  (s.modUpd fun u => { u with lock := 0 }).modHost fun h => { h with staging := h.staging.filter fun e => e.1 ≠ 0x0E11 }

/-- The lock ends after 60 s without a packet of its holder (19 R498, R505). -/
def expireLock (s : State) : State := if s.upd.lock ≠ 0 ∧ s.upd.lockAt + ms 60000 ≤ s.now then releaseLock s else s

/-- A packet of the lock's holder. -/
def touchLock (ix : Nat) (s : State) : State :=
  let s := expireLock s
  if s.upd.lock = lockCode ix ∧ ix ≠ 0 then s.modUpd fun u => { u with lockAt := s.now } else s

/-- The end of a session: bulk staging discarded, the update lock it holds released, EV-080 (14 R388, 19 R498).
Code: 2 BYE, 3 timeout. -/
def endSession (ix code : Nat) (s : State) : State :=
  match sessOf s ix with
  | none => s
  | some x =>
    let s := setSess s ix none
    let s := if ix = 0 then s.modHost fun h => { h with staging := h.staging.filter fun e => 0x0E00 ≤ e.1 }
      else (modSvc s ix fun v => { v with nonce := none, authed := false }).modHost fun h =>
        { h with staging := h.staging.filter fun e => e.1 < 0x0E00 }
    let s := if ix ≠ 0 ∧ s.upd.lock = lockCode ix then releaseLock s else s
    raiseEvent 80 1 [code, x.ip.toNat, x.port.toNat] s

/-- A session that has timed out ends (14 R388): a packet on the expiry edge finds it ended. -/
def expire (ix : Nat) (s : State) : State :=
  match sessOf s ix with
  | some x => if x.lastAt + sessTimeout s ix ≤ s.now then endSession ix 3 s else s
  | none => s

/-- The session number a packet belongs to: its link, and on the service port the session of its source, else the
first one free or timed out (19 R482, R500). -/
def sessionIx (h : Hdr) (s : State) : Nat :=
  match h.link with
  | .host => 0
  | .forwarded => 4
  | .uart => 3
  | .service =>
    if s.st.rom then 3
    else
      let free (x : SvcSt) := match x.sess with | some y => decide (y.lastAt + ms 60000 ≤ s.now) | none => true
      let is (x : SvcSt) := match x.sess with | some y => decide (y.ip = h.srcIp ∧ y.port = h.srcPort) | none => false
      let addr (x : SvcSt) := match x.sess with | some y => decide (y.ip = h.srcIp) | none => false
      if is s.host.svc0 then 1 else if is s.host.svc1 then 2
      else if addr s.host.svc0 then 1 else if addr s.host.svc1 then 2
      else if free s.host.svc0 then 1 else 2

/-- The source of a packet is the session's (14 R388). -/
def fromSession (h : Hdr) (ix : Nat) (s : State) : Bool :=
  match sessOf s ix with
  | some x => decide (x.ip = h.srcIp ∧ x.port = h.srcPort)
  | none => false

/-! ### Opcodes -/

/-- Sequence-free opcodes (14 R391); those of the service interfaces are so on their links alone (19 Table 19.1). -/
def seqFree (link : Link) (op : Nat) : Bool :=
  op ∈ [1, 2, 3, 4, 6, 0x0A01] || (decide (link ≠ .host) && decide (op = 0x0E01 ∨ op = 0x0E02))

/-- Groups of opcodes: the high byte (14 R400). -/
def opGroup (op : Nat) : Nat := op / 256

/-- Opcodes that the ROM recovery serves (19 R500). -/
def romOps : List Nat := [1, 6, 0x0E01, 0x0E02, 0x0E10, 0x0E11, 0x0E12, 0x0E13, 0x0F01]

/-- Step 7 of Table 14.3 for a link: the host interface carries no service opcode (14 R400); the service interface
serves groups 0x00 and 0x0E, PARAM_READ, DBG_READ and LC_READ (19 R482); the recovery its own list (19 R500). -/
def carries (h : Hdr) (op : Nat) (s : State) : Bool :=
  match h.link with
  | .host => opGroup op ≠ 0x0E
  | .forwarded => true
  | .service | .uart =>
    if s.st.rom then romOps.contains op
    else opGroup op = 0 || opGroup op = 0x0E || [0x0101, 0x050E, 0x0F01].contains op

/-- Debug opcodes of the trios (09 R259). -/
def debugOps : List Nat := [0x050A, 0x050B, 0x050C, 0x050D, 0x050E, 0x050F]

/-- Step 8 of Table 14.3: the life-cycle state denies the opcode (09 R259, 14 R400, 19 R483). Halts, steps, breakpoints and
writes are accepted in DEVELOP alone; reads in FIELD need an authenticated service session. -/
def lifeDenied (h : Hdr) (ix op : Nat) (s : State) : Bool :=
  (debugOps.contains op && decide (op ≠ 0x050E ∧ s.upd.lc ≠ 1)) ||
  (decide (s.upd.lc = 2) &&
    (match h.link with
     | .host => decide (op = 0x050E)
     | .forwarded =>
       (decide (op = 0x050E) || decide (opGroup op = 0x0E)) && !(svcOf s 4).authed && !([0x0E01, 0x0E02].contains op)
     | .service | .uart => !(svcOf s ix).authed && !([1, 2, 5, 6, 0x0E01, 0x0E02, 0x0F01].contains op)))

/-- Step 9 of Table 14.3: the Crucible is lost and the opcode needs it (14 R401). -/
def needsCrucible (op : Nat) : Bool := [2, 3, 4].contains (opGroup op) || op = 0x0510

/-- Opcodes that act on the trio cores: they need the trio domain (18 R474). -/
def needsTrio (op : Nat) : Bool :=
  [0x0501, 0x0502, 0x0503, 0x0504, 0x0505, 0x0506].contains op || debugOps.contains op

/-! ### The queue (14 R390) -/

/-- Queue places taken: waiting packets, the one in execution, forwarded ones awaiting their reply. -/
def queuePlaces (s : State) : Nat := s.host.queue.length + b2n s.host.held.isSome + s.host.fwd.length

/-- An entry leaves the queue, in which `n` places are taken: a packet that arrives on that edge at a full queue still gets
BUSY (14 R390). -/
def leaveQueue (n : Nat) (s : State) : State :=
  if 16 ≤ n then { s with inst := { instant s with leftFull := true } } else s

/-- The queue takes no packet: it is full, or was until this edge (14 R390). -/
def queueFull (s : State) : Bool := decide (16 ≤ queuePlaces s) || (instant s).leftFull

/-- A packet is taken from the queue for execution. -/
def fromQueue (s : State) : State := leaveQueue (queuePlaces s + 1) (s.modHost fun x => { x with fromQueue := false })

/-! ### Replies -/

/-- The fields of a reply to PARAM_WRITE: the first failing item and its status (14 Table 14.6). -/
def failFields (ix st : Nat) : Bytes := be 2 ix ++ [b8 st, 0]

/-- The parameters of a reply: PARAM_WRITE carries its fields with every status, behind HSEQ_NEXT in a SEQ_GAP (14 R387, R400; log
152). -/
def replyParams (op status : Nat) (params : Bytes) : Bytes :=
  if op = 0x0102 ∧ (params = [] ∨ status = Status.seqGap) then params ++ failFields 0xFFFF status else params

/-- A reply to a packet (14 Table 14.1). -/
def replyTo (h : Hdr) (op status : Nat) (params : Bytes) (s : State) : OutPkt :=
  { kind := .reply, link := h.link, ip := h.srcIp, port := h.srcPort, hseq := h.hseq, dseq := s.host.eseq,
    target := deviceNo s, status := status, opcode := op, params := replyParams op status params }

/-- A reply is formed and sent, and not stored (14 R386). -/
def answer (h : Hdr) (op status : Nat) (params : Bytes) (s : State) : State := transmit (replyTo h op status params s) s

/-- A reply is stored in the replay window, in place of any earlier one to the same HSEQ (14 R389). -/
def storeReply (ix : Nat) (p : OutPkt) (s : State) : State :=
  setWindow s ix (((p :: (windowOf s ix).filter fun q => q.hseq ≠ p.hseq)).filter fun q =>
    decide ((hseqNext s ix - q.hseq).toNat ≤ windowSize ix))

/-- A reply formed at step 6 or later: stored if the opcode is sequenced, and sent. The window of a forwarded command
is the lead's (14 R389, R398). -/
def reply (h : Hdr) (ix op status : Nat) (params : Bytes) (s : State) : State :=
  let p := replyTo h op status params s
  let s := if seqFree h.link op || h.link = .forwarded then s else storeReply ix p s
  transmit p s

/-- The command in execution over several steps ends, with its reply, if it still holds the queue (14 R390); not while the SP is lost,
or a restart of it is due: that restart interrupts the command (01 R19, 19 R493). -/
def finishHeld (h : Hdr) (op status : Nat) (params : Bytes) (s : State) : State :=
  if s.clk.sp = .held ∨ s.clk.spDue then s
  else if s.host.held.any fun x => decide (x.opcode = op) then
    reply h (sessionIx h s) op status params ((leaveQueue (queuePlaces s) s).modHost fun x => { x with held := none })
  else s

/-- A stored reply is sent again with REPLAY set, to the source that asks (14 R389, R392). -/
def resend (h : Hdr) (p : OutPkt) (s : State) : State :=
  countReg (transmit { p with replay := true, link := h.link, ip := h.srcIp, port := h.srcPort } s) P.sysReplays

/-- The stored reply to an HSEQ that lies among those the window covers. -/
def stored (s : State) (ix : Nat) (q : Word) : Option OutPkt :=
  if 0 < (hseqNext s ix - q).toNat ∧ (hseqNext s ix - q).toNat ≤ windowSize ix then
    (windowOf s ix).find? fun p => p.hseq = q
  else none

/-! ### Held-back events, and their acknowledgement (14 R394) -/

/-- The service processor reads an entry of the event log, and meets the errors that lie there (04 R93, R99). -/
def readLog (e : Word) (s : State) : State := if (logEntry s e).isSome then touch 0x60 6 (logAddr e) 64 s else s

/-- The sending of held-back events, read from the log (14 R394). -/
def pumpHeld (s : State) : State := pumpLoop readLog (unsentCount s) s

/-- A SERVICE payload is the resend of an event. -/
def isResend (e : Word) (p : ServicePkt) : Bool := decide (u8 p.bytes 3 = 6 ∧ beAt 4 p.bytes 8 = e.toNat)

/-- A resend on the edge of its acknowledgement is not sent (14 R394, R406): it and its count in SYS_REPLAYS are taken back. -/
def unsend (e : Word) (s : State) : State :=
  let s := takeBack P.sysReplays 31 0 1 false s
  let s := { s with inst := { instant s with resent := (instant s).resent.erase e } }
  s.modHost (fun h => { h with
    tx := h.tx.eraseP fun (p : OutPkt) => decide (p.kind = .event ∧ p.replay ∧ p.dseq = e) }) |>.modErg fun x => { x with
    serviceOut := x.serviceOut.eraseP (isResend e) }

/-- Every event up to and including `d` is acknowledged; a `d` beyond the latest ESEQ is ignored. -/
def ackEvents (d : Word) (s : State) : State :=
  if d = s.host.eseq ∨ precedes d s.host.eseq then
    let s := ((instant s).resent.filter fun e => !precedes d e).foldl (fun s e => unsend e s) s
    pumpHeld (s.modHost fun h => { h with
      acked := if precedes h.acked d then d else h.acked,
      lastSent := if precedes h.lastSent d then d else h.lastSent,
      unacked := h.unacked.filter fun u => precedes d u.eseq })
  else s

/-! ### Arrival -/

/-- A packet reaches its interface: in an untagged frame and a whole datagram without options, at the interface's own address and
port, as they were at the start-up (14 R383, R403, 19 R482, R506). SVC-UART has none of these. -/
def reaches (h : Hdr) (s : State) : Bool :=
  match h.link with
  | .host => decide (h.carrier = .plain ∧ h.dstIp.toNat = regB s P.sysIpAddr ∧ h.dstPort.toNat = regB s P.sysHostPort)
  | .service => decide (h.carrier = .plain ∧ h.dstIp.toNat = regB s P.updSvcIpAddr ∧ h.dstPort.toNat = regB s P.updSvcPort)
  | .uart | .forwarded => true

/-- The interface answers at all: the SP's firmware has been started or the ROM serves a recovery, the module is not
in reset, and not SCRAPPED (17 Table 17.1, 18 R479, 19 R500, R501). -/
def answers (h : Hdr) (s : State) : Bool :=
  !s.st.inReset && decide (s.upd.lc ≠ 4) && reaches h s &&
  (if s.st.rom then decide (h.link = .service ∨ h.link = .uart)
   else !s.st.stopped && decide (5 ≤ s.st.step) && decide (h.link ≠ .uart))

/-- An arriving packet waits: a command is in execution, others are queued, the SP is held in reset, or a restart of it is
due, which goes before any command (19 R505). -/
def mustWait (s : State) : Bool := s.host.held.isSome || !s.host.queue.isEmpty || decide (s.clk.sp = .held) || s.clk.spDue

/-- The whole length of a command packet. -/
def packetLen (params : Bytes) : Nat := 24 + params.length

/-- A forwarded command is the one an HSEQ, a device and an opcode name. -/
def fwdIs (q : Word) (dev op : Nat) (f : Fwd) : Bool := decide (f.h.hseq = q ∧ f.h.target.toNat = dev ∧ f.opcode = op)

/-- The first element of a list that meets a condition, changed. -/
def modFirst {α : Type} (p : α → Bool) (f : α → α) : List α → List α
  | [] => []
  | x :: r => if p x then f x :: r else x :: modFirst p f r

/-- A command is forwarded: its packet waits for the lead's SERVICE slot, and holds its queue place until its reply or
its WORKER_TIMEOUT (13 R378, R379, 14 R390). -/
def forward (h : Hdr) (op : Nat) (params : Bytes) (s : State) : State :=
  let pkt := packet 0 h.hseq h.dseq h.target.toNat 0 op params h.hseq
  (stageService pkt s).modHost fun x =>
    { x with fwd := x.fwd ++ [{ h := h, opcode := op, ix := sessionIx h s, left := reg s P.ergFwdTimeout }] }

/-- A domain has stopped, or entered reset, on this very edge: the service processor has read it as running (18 R480). -/
def stopsNow (d : Nat) (s : State) : Bool := !domUp d s && decide (tget (s.now + 1) s.clk.stoppedAt d = s.now)

/-- The domain that an opcode needs and that stops on this very edge. -/
def deadDomain (op : Nat) (s : State) : Option Nat :=
  if needsTrio op && stopsNow 0 s then some 0 else if needsCrucible op && stopsNow 5 s then some 5 else none

/-- An access of the service processor into a domain held in reset gets an error response (18 R473). -/
def errorResponse (s : State) : State := detect 74 (locBlock s dieSoc 0x60) (satField s P.sysXerr 15 0 1)

/-- A command whose access goes into such a domain: CHECK_FAIL where the domain is held in reset; where it is only stopped, the
access hangs, and the command with it (18 R473, R474). -/
def deadAccess (h : Hdr) (op arg d : Nat) (s : State) : Answer :=
  if tget .running s.clk.doms d = .heldInReset then (Status.checkFail, [], errorResponse s)
  else (Status.held, [], s.modHost fun x => { x with held := some { h := h, opcode := op, arg := arg, hung := some d } })

/-- Steps 6 to 10 of Table 14.3: forwarding, then the command's own checks and effect. The host interface carries no service opcode,
to no device (14 R400, log 221). -/
def execute (h : Hdr) (ix op : Nat) (params : Bytes) (known : Bool) (body : State → Answer) (s : State) : State :=
  let own := decide (h.target.toNat = deviceNo s) || decide (op = 3)
  if h.link ≠ .forwarded && !own then
    if op = 1 ∨ op = 2 then reply h ix op Status.badParam [] s
    else if h.link = .host ∧ opGroup op = 0x0E then reply h ix op Status.badOpcode [] s
    else if s.erg.st ≠ .leading || !(s.erg.members.getLsbD h.target.toNat) then reply h ix op Status.notPresent [] s
    else if serviceLength s.erg.sched 0 < packetLen params then reply h ix op Status.badParam [] s
    else forward h op params s
  else if !known || !carries h op s then reply h ix op Status.badOpcode [] s
  else if lifeDenied h ix op s then reply h ix op Status.denied [] s
  else if (deadDomain op s).isNone && !cruOk s && needsCrucible op then reply h ix op Status.wrongState [] s
  else if (deadDomain op s).isNone && !domUp 0 s && needsTrio op then reply h ix op Status.wrongState [] s
  else if !h.lenOk then reply h ix op Status.badParam [] s
  else
    let (st, out, s') := match deadDomain op s with
      | some d => deadAccess h op 0 d s
      | none => body s
    if st = Status.held then s' else reply h ix op st out s'

/-- Step 4 of 14 Table 14.3: the session exists and the packet comes from its source; HELLO and RESYNC may open a session,
or take one over from the same address (14 R388). -/
def opensTo (h : Hdr) (ix op : Nat) (s : State) : Bool :=
  if op = 1 ∨ op = 2 then (match sessOf s ix with | some x => decide (x.ip = h.srcIp) | none => true)
  else fromSession h ix s

/-- The state with the clock of the session, the update lock and the acknowledged events brought up to date (14 R388, R394,
19 R498). -/
def heardFrom (h : Hdr) (ix : Nat) (s : State) : State :=
  let s := touchLock ix (setSess s ix ((sessOf s ix).map fun x => { x with lastAt := s.now }))
  if ix = 0 && decide (h.target.toNat = deviceNo s) then ackEvents h.dseq s else s

/-- A sequenced command of a session that still awaits its worker's reply (14 R392). -/
def awaits (q : Word) (ix : Nat) (f : Fwd) : Bool := decide (f.h.hseq = q ∧ f.ix = ix) && !seqFree f.h.link f.opcode

/-- Steps 3 to 5 of Table 14.3: version and reserved field, session, sequence. The lead has taken these steps for a forwarded
packet, whose DSEQ acknowledges the worker's events (R394, R398). -/
def handle (h : Hdr) (op : Nat) (params : Bytes) (known : Bool) (body : State → Answer) (s : State) : State :=
  let ix := sessionIx h s
  if h.link = .forwarded then execute h ix op params known body (ackEvents h.dseq (touchLock ix s))
  else
    let s := expire ix s
    if h.version ≠ 1 ∨ h.rsvd ≠ 0 then answer h op Status.badParam [] s
    else if opensTo h ix op s = false then answer h op Status.denied [] s
    else
      let s := heardFrom h ix s
      if seqFree h.link op then execute h ix op params known body s
      else if h.hseq = hseqNext s ix then execute h ix op params known body (setHseq s ix (h.hseq + 1) h.hseq)
      else
        match stored s ix h.hseq with
        | some p => resend h p s
        | none =>
          if s.host.fwd.any (awaits h.hseq ix) then answer h op Status.busy [] (countReg s P.sysBusy)
          else answer h op Status.seqGap (be 4 (hseqNext s ix).toNat) (countReg s P.sysSeqGaps)

/-- The buffer in the Crucible where a command packet waits (04 Table 4.1; how the buffers lie there is not stated, log 171). -/
def cmdBuffer (h : Hdr) : Nat :=
  0x6C000000 + 2048 * (h.hseq.toNat % 32 + 32 * (match h.link with | .host => 0 | .service => 1 | .uart => 2 | .forwarded => 3))

/-- A packet waits: in its command buffer, or in SP SRAM while the Crucible is not in service (14 R390, 04 R109). -/
def enqueue (h : Hdr) (op : Nat) (params : Bytes) (c : Instr) (s : State) : State :=
  (cruWrite .sp 0x60 6 (cmdBuffer h) (pad 2048 (packet 0 h.hseq h.dseq h.target.toNat 0 op params h.hseq)) s).modHost fun x =>
    { x with queue := x.queue ++ [c] }

/-- The SP takes a waiting packet, and reads its buffer. -/
def takeCommand (h : Hdr) (s : State) : State := touch 0x60 6 (cmdBuffer h) 2048 (fromQueue s)

/-- The command buffer of a packet reads poisoned (04 R99). -/
def cmdPoisoned (h : Hdr) (s : State) : Bool := cruOk s && runPoisoned s (cmdBuffer h) 2048

/-- An arriving packet, or the packet the SP takes from the queue, in the order of 14 Table 14.3; a command whose buffer reads
poisoned is not executed (04 R99). -/
def serve (h : Hdr) (op : Nat) (params : Bytes) (c : Instr) (body : State → Answer) (s : State)
    (known : Bool := true) : State :=
  if s.host.fromQueue then
    let s := takeCommand h s
    handle h op params known (if cmdPoisoned h s then reject Status.checkFail else body) s
  else
    let s := advance h.t s
    if !answers h s then s
    else
      let s := if h.link = .host then settle 83 (s.modHost fun x => { x with linkUp := true }) else s
      if s.clk.sp = .restarting || queueFull s then answer h op Status.busy [] (countReg s P.sysBusy)
      else if mustWait s then enqueue h op params c s
      else handle h op params known body s

end Sys2Proof.Machine
end

