-- ==== Sys2Proof/Machine/Session.lean ====
section
/-! DEFINITION. The session and event-control commands (14 Table 14.6), the events of the interface (session timeout,
resend, WORKER_TIMEOUT), and packets the interface answers or drops by itself. -/

namespace Sys2Proof.Machine

/-! ### Session -/

/-- HELLO (14 R388, R392, R398): opens a session, sets HSEQ_NEXT to its own HSEQ + 1, empties the replay window. -/
def helloBody (h : Hdr) (flags : Byte) (rsvd : Nat) (s : State) : Answer :=
  let ix := sessionIx h s
  if 1 < flags.toNat ∨ rsvd ≠ 0 then reject Status.badParam s
  else
    let s := setSess s ix (some { ip := h.srcIp, port := h.srcPort, lastAt := s.now })
    let s := setWindow (setHseq s ix (h.hseq + 1) h.hseq) ix []
    let s := if ix = 0 then s.modHost fun x => { x with staging := x.staging.filter fun e => 0x0E00 ≤ e.1 }
      else modSvc s ix fun v => { v with nonce := none, authed := false }
    let s := if ix ≠ 0 ∧ s.upd.lock = lockCode ix then releaseLock s else s
    let s := if flags.toNat = 1 ∧ ix = 0 then ackEvents s.host.eseq s else s
    let s := raiseEvent 80 1 [0, h.srcIp.toNat, h.srcPort.toNat] s
    (Status.ok,
      be 4 s.mram.bootId.toNat ++ be 4 (h.hseq + 1).toNat ++ be 4 s.host.eseq.toNat ++
        [b8 (deviceNo s), b8 s.erg.role, b8 s.upd.lc, 0] ++ be 4 s.upd.running.toNat, s)

def execHello (h : Hdr) (flags : Byte) (rsvd : Nat) (tag : Bytes) (s : State) : Host.Outcome State Fault Refusal :=
  done (serve h 0x0001 (flags :: be 3 rsvd ++ pad 8 tag) (.hello h flags rsvd tag) (helloBody h flags rsvd) s)

/-- The oldest ESEQ of the log: its entries reach back from the latest without a gap. -/
def oldestLog : Nat → Word → State → Word
  | 0, e, _ => e
  | n + 1, e, s =>
    let p : Word := if e = 1 then 0xFFFFFFFF else e - 1
    if (logEntry s p).isSome then oldestLog n p s else e

/-- The oldest ESEQ in the log; 0 with none. -/
def logOldest (s : State) : Word := if (logEntry s s.host.eseq).isSome then oldestLog 4095 s.host.eseq s else 0

/-- The older of two ESEQ values, of which 0 stands for none. -/
def older (a b : Word) : Word := if a = 0 then b else if b = 0 then a else if precedes a b then a else b

/-- The oldest ESEQ still replayable (14 R395, R397); 0 with none. -/
def oldestReplayable (s : State) : Word :=
  let m := (s.mram.mirror.filter fun e => u16 e 0x16 = s.mram.bootId.toNat % 65536).foldl (fun a e => older a (entryEseq e)) 0
  s.host.ring.foldl (fun a e => older a (entryEseq e)) (older (logOldest s) m)

/-- RESYNC (14 R388, R397): rebinds or opens the session; changes neither HSEQ_NEXT nor the window. -/
def resyncBody (h : Hdr) (s : State) : Answer :=
  let ix := sessionIx h s
  let s := setSess s ix (some { ip := h.srcIp, port := h.srcPort, lastAt := s.now })
  let s := raiseEvent 80 1 [1, h.srcIp.toNat, h.srcPort.toNat] s
  (Status.ok,
    be 4 (hseqNext s ix).toNat ++ be 4 (hseqLast s ix).toNat ++ be 4 s.host.eseq.toNat ++
      be 4 (oldestReplayable s).toNat ++ be 4 s.mram.bootId.toNat, s)

def execResync (h : Hdr) (s : State) : Host.Outcome State Fault Refusal :=
  done (serve h 0x0002 [] (.resync h) (resyncBody h) s)

/-- REPLAY_REPLY (14 R389): the stored reply is resent whole; NOT_PRESENT outside the window. -/
def replayReplyBody (h : Hdr) (q : Word) (s : State) : Answer :=
  match stored s (sessionIx h s) q with
  | some p => (Status.held, [], resend h p s)
  | none => reject Status.notPresent s

def execReplayReply (h : Hdr) (q : Word) (s : State) : Host.Outcome State Fault Refusal :=
  done (serve h 0x0003 (be 4 q.toNat) (.replayReply h q) (replayReplyBody h q) s)

/-- `n` event sequence numbers from `e` on; the counter wraps past 0xFFFF_FFFF to 1 (14 R393). -/
def eseqRange : Nat → Word → List Word
  | 0, _ => []
  | n + 1, e => if e = 0 then eseqRange n 1 else e :: eseqRange n (e + 1)

/-- REPLAY_EVENTS (14 R395): every requested entry that a source holds is sent with REPLAY set, then OK with their
number. A requested entry of the log in a poisoned tile gives CHECK_FAIL with its ESEQ, and nothing is sent (04 Table 4.4; DEDUCED, log 15). -/
def replayEventsBody (h : Hdr) (first : Word) (count : Nat) (s : State) : Answer :=
  if count = 0 ∨ 64 < count then reject Status.badParam s
  else
    let es := eseqRange count first
    let inLog := es.filter fun e => (logEntry s e).isSome
    let s := touchAll 0x60 6 (inLog.map fun e => (logAddr e, 64)) s
    match inLog.find? fun e => tilePoisoned s (logAddr e) with
    | some e => (Status.checkFail, be 4 e.toNat, s)
    | none =>
      let ents := if h.link = .service ∨ h.link = .uart then [] else es.filterMap (eventEntry s)
      if ents.isEmpty then reject Status.notPresent s
      else (Status.ok, be 2 ents.length, ents.foldl (fun s e => sendEvent true e s) s)

def execReplayEvents (h : Hdr) (first : Word) (count : Nat) (s : State) : Host.Outcome State Fault Refusal :=
  done (serve h 0x0004 (be 4 first.toNat ++ be 2 count) (.replayEvents h first count) (replayEventsBody h first count) s)

/-- BYE (14 R388): ends the session. -/
def byeBody (h : Hdr) (s : State) : Answer := (Status.ok, [], endSession (sessionIx h s) 2 s)

def execBye (h : Hdr) (s : State) : Host.Outcome State Fault Refusal := done (serve h 0x0005 [] (.bye h) (byeBody h) s)

/-- PING (14 Table 14.6): up to 64 bytes come back. -/
def pingBody (data : Bytes) (s : State) : Answer :=
  if 64 < data.length then reject Status.badParam s else (Status.ok, data, s)

def execPing (h : Hdr) (data : Bytes) (s : State) : Host.Outcome State Fault Refusal :=
  done (serve h 0x0006 data (.ping h data) (pingBody data) s)

/-! ### Event control -/

/-- EVT_ACK (14 R394): the acknowledgement itself is that of the packet's DSEQ, as of any packet that passes step 4. -/
def evtAckBody (s : State) : Answer := (Status.ok, [], s)

def execEvtAck (h : Hdr) (s : State) : Host.Outcome State Fault Refusal :=
  done (serve h 0x0A01 [] (.evtAck h) evtAckBody s)

/-- EVT_MUTE (14 Table 14.6): 1 stops the sending, 0 resumes it; logging continues. -/
def evtMuteBody (mute : Byte) (s : State) : Answer :=
  if 1 < mute.toNat then reject Status.badParam s
  else (Status.ok, [], pumpHeld (s.modHost fun h => { h with muted := mute = 1 }))

def execEvtMute (h : Hdr) (mute : Byte) (s : State) : Host.Outcome State Fault Refusal :=
  done (serve h 0x0A02 [mute] (.evtMute h mute) (evtMuteBody mute) s)

/-- EVT_LOG_INFO (14 Table 14.6). -/
def evtLogInfoBody (s : State) : Answer :=
  (Status.ok, be 4 s.host.eseq.toNat ++ be 4 (logOldest s).toNat ++ be 2 s.mram.mirror.length ++ be 2 0 ++
    be 4 s.host.lost, s)

def execEvtLogInfo (h : Hdr) (s : State) : Host.Outcome State Fault Refusal :=
  done (serve h 0x0A03 [] (.evtLogInfo h) evtLogInfoBody s)

/-- EVT_MIRROR_READ (14 Table 14.6): entries of the MRAM mirror, 0 the newest. -/
def evtMirrorReadBody (index count : Nat) (s : State) : Answer :=
  if 1023 < index ∨ count = 0 ∨ 16 < count then reject Status.badParam s
  else
    let es := (s.mram.mirror.drop index).take count
    if es.isEmpty then reject Status.notPresent s else (Status.ok, es.flatMap entryBeFull, s)

def execEvtMirrorRead (h : Hdr) (index count : Nat) (s : State) : Host.Outcome State Fault Refusal :=
  done (serve h 0x0A04 (be 2 index ++ be 1 count) (.evtMirrorRead h index count) (evtMirrorReadBody index count) s)

/-! ### Fault commands (14 Table 14.10) -/

def execFaultSummary (h : Hdr) (s : State) : Host.Outcome State Fault Refusal :=
  done (serve h 0x0801 [] (.faultSummary h) faultSummary s)

def execFaultRecord (h : Hdr) (source : Nat) (s : State) : Host.Outcome State Fault Refusal :=
  done (serve h 0x0802 (be 2 source) (.faultRecord h source) (faultRecord source) s)

def execFaultClear (h : Hdr) (source : Nat) (s : State) : Host.Outcome State Fault Refusal :=
  done (serve h 0x0803 (be 2 source) (.faultClear h source) (faultClear source) s)

def execFaultLogRead (h : Hdr) (index count : Nat) (s : State) : Host.Outcome State Fault Refusal :=
  done (serve h 0x0804 (be 2 index ++ be 1 count) (.faultLogRead h index count) (faultLogRead index count) s)

/-! ### Timers of the interface -/

/-- SESSION_TIMEOUT (14 R388, 19 R482): no packet of the session has passed step 4 for its timeout. -/
def sessionTimeout (t : Time) (which : Nat) (s : State) : State :=
  expire which (advance t s)

def execSessionTimeout (t : Time) (which : Fin 5) (s : State) : Host.Outcome State Fault Refusal :=
  done (sessionTimeout t which.val s)

/-- An unacknowledged event is due to be sent again: SYS_EVT_RESEND has passed, and fewer than 3 resends went out
(14 R394). -/
def resendDue (s : State) (u : Unacked) : Bool :=
  decide (u.resends < 3) && decide (u.sentAt + ms (reg s P.sysEvtResend) ≤ s.now) && canSend s

/-- EVENT_RESEND (14 R394). -/
def eventResend (t : Time) (e : Word) (s : State) : State :=
  let s := advance t s
  match s.host.unacked.find? (fun u => u.eseq = e) with
  | some u =>
    if resendDue s u then
      let s := readLog e s
      match eventEntry s e with
      | some ent =>
        let s := { s with inst := { instant s with resent := e :: (instant s).resent } }
        sendEvent true ent (s.modHost fun h => { h with
          unacked := h.unacked.map fun x => if x.eseq = e then { x with resends := x.resends + 1, sentAt := s.now } else x })
      | none => s
    else s
  | none => s

def execEventResend (t : Time) (e : Word) (s : State) : Host.Outcome State Fault Refusal := done (eventResend t e s)

/-- WORKER_TIMEOUT (13 R379): the tick edges have passed after the forwarded packet was sent; the lead replies. -/
def workerTimeout (t : Time) (q : Word) (s : State) : State :=
  let s := advance t s
  match s.host.fwd.find? (fun f => f.h.hseq = q && f.sent && decide (f.left = 0)) with
  | some f =>
    let s := (leaveQueue (queuePlaces s) s).modHost fun h => { h with fwd := h.fwd.erase f }
    let s := { s with inst := { instant s with timedOut := f :: (instant s).timedOut } }
    reply f.h f.ix f.opcode Status.workerTimeout [] s
  | none => s

def execWorkerTimeout (t : Time) (q : Word) (s : State) : Host.Outcome State Fault Refusal := done (workerTimeout t q s)

/-! ### Packets the unit answers or drops by itself -/

/-- The host interface unit is up (14 R383): the same condition as for a command. -/
def unitUp (s : State) : Bool := !s.st.inReset && decide (s.upd.lc ≠ 4) && !s.st.rom && !s.st.stopped && decide (5 ≤ s.st.step)

/-- ARP_REQUEST (14 R383): an ARP reply for SYS_IP_ADDR. -/
def arpRequest (t : Time) (targetIp senderIp : BitVec 32) (s : State) : State :=
  let s := advance t s
  if unitUp s && decide (targetIp.toNat = regB s P.sysIpAddr) then
    transmit { kind := .arp, ip := senderIp, params := be 6 s.upd.mac.toNat } s
  else s

def execArpRequest (t : Time) (targetIp senderIp : BitVec 32) (s : State) : Host.Outcome State Fault Refusal :=
  done (arpRequest t targetIp senderIp s)

/-- ICMP_ECHO_REQUEST (14 R383): an echo reply with the same data. -/
def icmpEchoRequest (t : Time) (dstIp srcIp : BitVec 32) (data : Bytes) (s : State) : State :=
  let s := advance t s
  if unitUp s && decide (dstIp.toNat = regB s P.sysIpAddr) then transmit { kind := .icmp, ip := srcIp, params := data } s
  else s

def execIcmpEchoRequest (t : Time) (dstIp srcIp : BitVec 32) (data : Bytes) (s : State) : Host.Outcome State Fault Refusal :=
  done (icmpEchoRequest t dstIp srcIp data s)

/-- Step 1 of 14 Table 14.3: shorter than 24 bytes, MAGIC wrong, PLEN at odds with the UDP length, PCRC wrong, or FLAGS
of a command nonzero. -/
def malformed (udpLen : Nat) (p : Bytes) : Bool :=
  decide (p.length < 24) || decide (beAt 2 p 0 ≠ 0x4458) || decide (24 + beAt 2 p 0x10 ≠ udpLen) ||
    decide (p.length ≠ udpLen) ||
    decide (beAt 4 p (p.length - 4) ≠ crcHost (p.take (p.length - 4)) (w32 (beAt 4 p 4))) || decide (u8 p 3 ≠ 0)

/-- HOST_PACKET_DROP (14 R386 step 1): dropped without reply, counted in SYS_HOST_DROPS. -/
def hostPacketDrop (t : Time) (link : Link) (udpLen : Nat) (p : Bytes) (s : State) : State :=
  let s := advance t s
  let up := match link with
    | .host => unitUp s
    | .service | .uart => !s.st.inReset && decide (s.upd.lc ≠ 4) && (s.st.rom || decide (5 ≤ s.st.step))
    | .forwarded => false
  if up && malformed udpLen p then countReg s P.sysHostDrops else s

def execHostPacketDrop (t : Time) (link : Link) (udpLen : Nat) (p : Bytes) (s : State) : Host.Outcome State Fault Refusal :=
  done (hostPacketDrop t link udpLen p s)

/-- The opcodes of 14 Tables 14.6 to 14.11 and 19 Table 19.1. -/
def definedOps : List Nat :=
  [0x0001, 0x0002, 0x0003, 0x0004, 0x0005, 0x0006, 0x0101, 0x0102, 0x0103, 0x0110, 0x0A01, 0x0A02, 0x0A03, 0x0A04,
   0x0201, 0x0202, 0x0203, 0x0204, 0x0205, 0x0206, 0x0207, 0x0208, 0x0209, 0x020A] ++
  [0x0301, 0x0302, 0x0401, 0x0402, 0x0403, 0x0404, 0x0405, 0x0501, 0x0502, 0x0503, 0x0504, 0x0505, 0x0506, 0x0507,
   0x0508, 0x0509, 0x050A, 0x050B, 0x050C, 0x050D, 0x050E, 0x050F, 0x0510, 0x0601, 0x0602, 0x0603, 0x0701, 0x0702] ++
  [0x0703, 0x0704, 0x0801, 0x0802, 0x0803, 0x0804, 0x0901, 0x0902, 0x0903, 0x0F01, 0x0E01, 0x0E02, 0x0E10, 0x0E11,
   0x0E12, 0x0E13, 0x0E14, 0x0E15, 0x0E20, 0x0E21, 0x0E22]

/-- UNDEFINED_OPCODE_PACKET (14 R386 step 7): a packet with an opcode of no table is handled as any other up to step 6,
and gets BAD_OPCODE. -/
def execUndefinedOpcodePacket (h : Hdr) (opcode : BitVec 16) (data : Bytes) (s : State) : Host.Outcome State Fault Refusal :=
  done (if definedOps.contains opcode.toNat then s
    else serve h opcode.toNat data (.undefinedOpcodePacket h opcode data) (reject Status.badOpcode) s (known := false))

end Sys2Proof.Machine
end

