-- ==== Sys2Proof/Machine/Crypto.lean ====
section
/-! DEFINITION. The cryptographic functions that chapter 19 names: SHA-256 (FIPS 180), HMAC-SHA-256 (FIPS 198), and the
verification of ECDSA signatures over P-256 (FIPS 186). -/

namespace Sys2Proof.Machine

/-! ### SHA-256 -/

/-- The largest number of `bits` binary digits, found from the top digit down, whose `k`-th power does not exceed `n`. -/
def rootBelow (k n : Nat) : Nat → Nat → Nat
  | 0, r => r
  | bits + 1, r => rootBelow k n bits (if (r + 2 ^ bits) ^ k ≤ n then r + 2 ^ bits else r)

/-- The prime numbers below a bound. -/
def primesBelow (bound : Nat) : List Nat :=
  (List.range bound).filter fun p => decide (2 ≤ p) && (List.range p).all fun d => decide (d < 2 ∨ p % d ≠ 0)

/-- The first 32 bits of the fractional part of the `k`-th root of `p`. -/
def rootFraction (k p : Nat) : Word := w32 (rootBelow k (p * 2 ^ (32 * k)) 38 0)

/-- The words that a digest starts from: square roots of the first eight primes. -/
def digestSeed : List Word := (primesBelow 20).map (rootFraction 2)

/-- The round words: cube roots of the first sixty-four primes. -/
def roundWords : List Word := (primesBelow 312).map (rootFraction 3)

/-- The exclusive or of a word turned right by each of several distances. -/
def turned (x : Word) (ns : List Nat) : Word := ns.foldl (fun acc n => acc ^^^ x.rotateRight n) 0

/-- A digest in the making: the sixteen schedule words next in turn, and the eight working words. -/
structure Mixing where
  ahead : List Word
  work : List Word

/-- The schedule moves on by one word: the first is spent, and a new one joins behind. -/
def nextAhead (w : List Word) : List Word :=
  let early := w.getD 1 0
  let late := w.getD 14 0
  w.drop 1 ++ [w.getD 0 0 + (turned early [7, 18] ^^^ early >>> 3) + w.getD 9 0 + (turned late [17, 19] ^^^ late >>> 10)]

/-- One round with its round word: six working words shift down, two are formed anew. -/
def mix (m : Mixing) (k : Word) : Mixing :=
  let at' (i : Nat) : Word := m.work.getD i 0
  let chosen := at' 6 ^^^ (at' 4 &&& (at' 5 ^^^ at' 6))
  let common := (at' 0 &&& at' 1) ||| (at' 2 &&& (at' 0 ||| at' 1))
  let fresh := at' 7 + turned (at' 4) [6, 11, 25] + chosen + k + m.ahead.getD 0 0
  { ahead := nextAhead m.ahead
    work := [fresh + turned (at' 0) [2, 13, 22] + common] ++ (m.work.take 3) ++ [at' 3 + fresh] ++ (m.work.drop 4).take 3 }

/-- A block of 64 bytes is added to a digest. -/
def addBlock (digest : List Word) (block : Bytes) : List Word :=
  let ahead := (List.range 16).map fun i => w32 (beAt 4 block (4 * i))
  List.zipWith (· + ·) digest (roundWords.foldl mix { ahead := ahead, work := digest }).work

/-- SHA-256 of a byte string: a 1 bit and zeros fill it up to whole blocks that end with its length in bits. -/
def sha256 (m : Bytes) : Bytes :=
  let whole := m ++ [0x80] ++ zeros ((119 - m.length % 64) % 64) ++ be 8 (8 * m.length)
  let blocks := (List.range (whole.length / 64)).map fun i => sub whole (64 * i) 64
  (blocks.foldl addBlock digestSeed).flatMap fun w => be 4 w.toNat

/-- HMAC-SHA-256 with a key of at most 64 bytes. -/
def hmacSha256 (key m : Bytes) : Bytes :=
  let k := pad 64 key
  sha256 (k.map (· ^^^ 0x5C) ++ sha256 (k.map (· ^^^ 0x36) ++ m))

/-! ### ECDSA over P-256 -/

/-- Field prime, order, curve coefficient b and base point of P-256. -/
def p256 : Nat := 0xffffffff00000001000000000000000000000000ffffffffffffffffffffffff
def n256 : Nat := 0xffffffff00000000ffffffffffffffffbce6faada7179e84f3b9cac2fc632551
def b256 : Nat := 0x5ac635d8aa3a93e7b3ebbd55769886bc651d06b0cc53b0f63bce3c3e27d2604b
def gx256 : Nat := 0x6b17d1f2e12c4247f8bce6e563a440f277037d812deb33a0f4a13945d898c296
def gy256 : Nat := 0x4fe342e2fe1a7f9b8ee7eb4a7c0f9e162bce33576b315ececbb6406837bf51f5

/-- Power modulo m over the lowest `fuel` bits of the exponent. -/
def powMod (m : Nat) : Nat → Nat → Nat → Nat → Nat
  | 0, _, _, acc => acc
  | fuel + 1, b, e, acc => powMod m fuel (b * b % m) (e / 2) (if e % 2 = 1 then acc * b % m else acc)

/-- The inverse modulo a prime of 256 bits. -/
def invMod (m a : Nat) : Nat := powMod m 256 (a % m) (m - 2) 1

/-- Difference modulo p. -/
def subP (a b : Nat) : Nat := (a + p256 - b % p256) % p256

/-- A point in Jacobian coordinates; Z = 0 is the point at infinity. -/
abbrev EcPoint : Type := Nat × Nat × Nat

/-- Doubling. -/
def ecDouble (q : EcPoint) : EcPoint :=
  let (x, y, z) := q
  let y2 := y * y % p256
  let s := 4 * x * y2 % p256
  let z2 := z * z % p256
  let m := 3 * subP x z2 * ((x + z2) % p256) % p256
  let x' := subP (m * m) (2 * s)
  (x', subP (m * subP s x') (8 * y2 * y2), 2 * y * z % p256)

/-- Addition. -/
def ecAdd (a b : EcPoint) : EcPoint :=
  let (x1, y1, z1) := a
  let (x2, y2, z2) := b
  if z1 = 0 then b else if z2 = 0 then a
  else
    let z1z1 := z1 * z1 % p256
    let z2z2 := z2 * z2 % p256
    let u1 := x1 * z2z2 % p256
    let u2 := x2 * z1z1 % p256
    let s1 := y1 * z2 % p256 * z2z2 % p256
    let s2 := y2 * z1 % p256 * z1z1 % p256
    if u1 = u2 then (if s1 = s2 then ecDouble a else (1, 1, 0))
    else
      let h := subP u2 u1
      let r := subP s2 s1
      let h2 := h * h % p256
      let h3 := h2 * h % p256
      let v := u1 * h2 % p256
      let x3 := subP (subP (r * r) h3) (2 * v)
      (x3, subP (r * subP v x3) (s1 * h3), h * z1 % p256 * z2 % p256)

/-- Scalar multiple over the lowest `fuel` bits. -/
def ecMul : Nat → Nat → EcPoint → EcPoint → EcPoint
  | 0, _, _, acc => acc
  | fuel + 1, k, q, acc => ecMul fuel (k / 2) (ecDouble q) (if k % 2 = 1 then ecAdd acc q else acc)

/-- The point lies on the curve. -/
def onCurve (x y : Nat) : Bool :=
  decide (x < p256 ∧ y < p256 ∧ y * y % p256 = (x * x % p256 * x + (p256 - 3) * x + b256) % p256)

/-- A signature r, s over a hash verifies under a public key X, Y. -/
def ecdsaOk (key sig hash : Bytes) : Bool :=
  let qx := beAt 32 key 0
  let qy := beAt 32 key 32
  let r := beAt 32 sig 0
  let s := beAt 32 sig 32
  if key.length ≠ 64 ∨ sig.length ≠ 64 ∨ onCurve qx qy = false ∨ r = 0 ∨ n256 ≤ r ∨ s = 0 ∨ n256 ≤ s then false
  else
    let w := invMod n256 s
    let u1 := beVal hash * w % n256
    let u2 := r * w % n256
    let (x, _, z) := ecAdd (ecMul 256 u1 (gx256, gy256, 1) (1, 1, 0)) (ecMul 256 u2 (qx, qy, 1) (1, 1, 0))
    if z = 0 then false
    else
      let zi := invMod p256 z
      decide (x * (zi * zi % p256) % p256 % n256 = r)

end Sys2Proof.Machine
end

