-- ==== Sys2Proof/Machine/Objects.lean ====
section
/-! DEFINITION. Stored objects (17 R528), the ownership map (09 R255 to R257), the check value (11 R301 to R303), and bulk
staging (14 R399). -/

namespace Sys2Proof.Machine

/-! ### The object store (17 R528) -/

/-- Object kinds (17 R528). -/
abbrev kContext : Nat := 1
abbrev kMesh : Nat := 2
abbrev kOverlay : Nat := 3
abbrev kSelect : Nat := 4
abbrev kLayout : Nat := 5
abbrev kRegion : Nat := 6
abbrev kLayer : Nat := 7
abbrev kIcon : Nat := 8
abbrev kProgram : Nat := 9
abbrev kOwner : Nat := 10
abbrev kFioRecord : Nat := 11
abbrev kSched : Nat := 12
abbrev kMap : Nat := 13
abbrev kConfirmed : Nat := 14

/-- Key of an object in the tables of stored objects and of placed runs. -/
def objKey (kind index : Nat) : Nat := kind * 65536 + index

/-- The start-up has not restored a stored object (17 R445, R448). -/
def unrestored (s : State) (key : Nat) : Bool := s.st.unrestored.contains key

/-- An object is not restored in this start-up; an object stored in its place is. -/
def withhold (key : Nat) (s : State) : State := s.modSt fun x => { x with unrestored := insertNat key x.unrestored }
def unwithhold (key : Nat) (s : State) : State := s.modSt fun x => { x with unrestored := x.unrestored.filter (· ≠ key) }

/-- A stored object, empty where none is stored or restored. -/
def obj (s : State) (kind index : Nat) : Bytes :=
  if unrestored s (objKey kind index) then [] else tget [] s.mram.objs (objKey kind index)

/-- An object stored; the empty string deletes it. -/
def storeObj (kind index : Nat) (bs : Bytes) (s : State) : State :=
  (unwithhold (objKey kind index) (useChannel 0x6A 0 1 s)).writeMram fun m => { m with objs := tset [] m.objs (objKey kind index) bs }

/-- Bytes that the MRAM holds of the objects of some kinds, those among them that this start-up has not restored (17 R448). -/
def storeUsed (kinds : List Nat) (s : State) : Nat :=
  (s.mram.objs.filter fun e => kinds.contains (e.1 / 65536)).foldl (fun a e => a + e.2.length) 0

/-- Bytes that the MRAM holds under an object's index. -/
def storedLength (kind index : Nat) (s : State) : Nat := (tget [] s.mram.objs (objKey kind index)).length

/-- Indexes of the stored objects of a kind, rising. -/
def objIndexes (s : State) (kind : Nat) : List Nat :=
  s.mram.objs.filterMap fun (k, _) => if k / 65536 = kind && !unrestored s k then some (k % 65536) else none

/-- The confirmed check value, where one is stored and restored, and its storing (11 R302). -/
def confirmedValue (s : State) : Option Word := if unrestored s (objKey kConfirmed 0) then none else s.mram.confirmed
def setConfirmed (v : Word) (s : State) : State :=
  (unwithhold (objKey kConfirmed 0) s).writeMram fun m => { m with confirmed := some v }

/-- The first word of the retentive journal copy in the MRAM map (17 Table 17.9). -/
def journalAddr (unit copy : Nat) : Nat := 0x20000 + 4096 * unit + 2048 * copy

/-- The configuration record as it is written (17 Table 17.8), with its RCRC (16 R435). -/
def cfgBytes (format : Nat) (cfg : Table (Option Word)) (pool : Bytes) (seq : Word) : Bytes :=
  let entries := cfg.filterMap fun e => e.2.map fun v => le 2 e.1 ++ zeros 2 ++ le 4 v.toNat
  let b := le 2 format ++ le 2 entries.length ++ le 4 seq.toNat ++ le 2 pool.length ++ zeros 6 ++ entries.flatten ++ pool
  splice b 0x0C (le 4 (crcEmbedded b 0x0C))

/-- A write of the configuration record replaces the copy that was not written last, with SEQ one above; the copy written before
remains as the other one (17 R447, R528). -/
def writeCfg (cfg : Table (Option Word)) (pool : Bytes) (s : State) : State :=
  (useChannel 0x6A 0 1 s).writeMram fun m =>
    let b := cfgBytes m.cfgFormat cfg pool (m.cfgSeq + 1)
    { m with
      cfg := cfg, cfgPool := pool, cfgSeq := m.cfgSeq + 1, cfgLast := !m.cfgLast
      cfgCopy0 := if m.cfgLast then b else m.cfgCopy0, cfgCopy1 := if m.cfgLast then m.cfgCopy1 else b }

/-! ### Ownership (09 R255 to R258) -/

/-- An entry of the ownership map in force: 0 without a map. Kinds: 0 Q, 1 Y, 2 S. -/
def ownerOff (kind i : Nat) : Nat := (if kind = 0 then 0x10 else if kind = 1 then 0x20 else 0x820) + i
def ownerEntry (map : Bytes) (kind i : Nat) : Nat := u8 map (ownerOff kind i)

/-- The run unit an entry names, none for an unowned bit. -/
def entryUnit (e : Nat) : Option Nat := if bitAt e 7 then some (4 * (e % 8) + fld e 4 3) else none

/-- The S bits that some owner holds; any other reads 0 (09 R257, 05 R139). -/
def ownedS (map : Bytes) : BitVec 512 := BitVec.ofNat 512 (packBits ((List.range 512).map fun i => bitAt (ownerEntry map 2 i) 7))

/-- An ownership map comes into force. -/
def setOwners (map : Bytes) (s : State) : State := { s with owners := map, sNow := s.sNow &&& ownedS map }

/-- The entry is marked SAFETY. -/
def entrySafety (e : Nat) : Bool := bitAt e 6

/-- The mask of the bits of a kind that a unit owns, of `n` bits. -/
def ownedMask (map : Bytes) (kind unit n : Nat) : Nat :=
  packBits ((List.range n).map fun i => decide (entryUnit (ownerEntry map kind i) = some unit))

/-- Ownership map checks after MCRC (09 R256, R257): fields and reserved bits, SAFETY in S and on split owners, then
owner codes against the modes in force. -/
def ownerMapOk (s : State) (m : Bytes) : Bool :=
  let entry (kind i : Nat) : Bool :=
    let e := ownerEntry m kind i
    (bitAt e 7 || decide (e = 0)) && !bitAt e 5 && !(kind = 2 && entrySafety e) && !(entrySafety e && decide (fld e 4 3 ≠ 0)) &&
      (!bitAt e 7 || decide ((fld e 4 3 = 0) ↔ ((s.trio (e % 8)).split = false)))
  decide (u16 m 0 = 1 ∧ u16 m 2 = 0) && allZero (sub m 8 8) &&
    (List.range 16).all (entry 0) && (List.range 2048).all (entry 1) && (List.range 512).all (entry 2)

/-- Units whose owned bits differ between two maps. -/
def mapChanges (a b : Bytes) : List Nat :=
  (List.range 2592).flatMap fun o =>
    if 0x10 ≤ o ∧ o < 0xA20 ∧ u8 a o ≠ u8 b o then (entryUnit (u8 a o)).toList ++ (entryUnit (u8 b o)).toList else []

/-! ### Units that run (09 R247, R250) -/

/-- Core `k` of trio `t`. -/
def coreIx (t k : Nat) : Nat := 3 * t + k

/-- The last three blames of a core lie within 1,000 cycles, so the trio is voter-suspect (09 R247). -/
def blamesSuspect (bs : List Nat) : Bool :=
  match bs with
  | c3 :: _ :: c1 :: _ => decide (c3 ≤ c1 + 1000)
  | _ => false

/-- A voted trio has met a third blame that VOTER_SUSPECT must act on before anything else of the trio. -/
def suspectDue (s : State) (t : Nat) : Bool :=
  !(s.trio t).suspect && decide ((s.unit (4 * t)).st = .run ∨ (s.unit (4 * t)).st = .debug) &&
    (List.range 3).any fun k => blamesSuspect (s.core (coreIx t k)).blames

/-- A unit is in RUN, with no voter-suspect halt due. -/
def unitRuns (s : State) (u : Nat) : Bool := decide ((s.unit u).st = .run) && !(u % 4 = 0 && suspectDue s (u / 4))

/-- The Q result of a voter copy of a trio, by copy 0 to 2. -/
def copyQ (x : TrioSt) (k : Nat) : BitVec 16 := if k = 0 then x.qA else if k = 1 then x.qB else x.qC

/-- The value a voter copy emits for an output whose owner is not in RUN (09 R249): OFF for a safety output, else the
programmed safe state of the safety I/O record: OFF, ON, or the last voted value. -/
def safeQ (s : State) (q : Nat) (last : Bool) : Bool :=
  if entrySafety (ownerEntry s.owners 0 q) then false
  else
    let m := fld (u8 s.fio.record (0xD0 + 8 * q)) 1 0
    decide (m = 1) || (decide (m = 2) && last)

/-- The copies of a unit hold its safe values, for a unit that enters RUN: they stand until its first vote (09 R249). -/
def latchSafe (u : Nat) (s : State) : State :=
  let f (v : BitVec 16) : BitVec 16 := (List.range 16).foldl (fun v q =>
    if entryUnit (ownerEntry s.owners 0 q) = some u then setBv v q (safeQ s q (v.getLsbD q)) else v) v
  s.modTrio (u / 4) fun x => {
    x with
    qA := if u % 4 ≤ 1 then f x.qA else x.qA
    qB := if u % 4 = 0 ∨ u % 4 = 2 then f x.qB else x.qB
    qC := if u % 4 = 0 ∨ u % 4 = 3 then f x.qC else x.qC }

/-! ### The check value (11 R301 to R303) -/

/-- An item of 11 Table 11.5: the object, or 4 zero bytes. -/
def chkItem (bs : Bytes) : Bytes := if bs.isEmpty then zeros 4 else bs

/-- The bytes the check value covers, from given containers and ownership map (11 Table 11.5). -/
def chkBytes (prog : Nat → Bytes) (owners : Bytes) (s : State) : Bytes :=
  ((List.range 8).flatMap fun t => chkItem (if (s.trio t).split then [] else prog (4 * t))) ++
  chkItem owners ++ chkItem (obj s kFioRecord 0) ++ chkItem (obj s kMap 0) ++
  ((List.range 8).flatMap fun p => chkItem (obj s kSelect p)) ++
  ((List.range 256).flatMap fun v =>
    let c := obj s kContext v
    if bitAt (u8 c 0) 0 then sub c 0x7C 4 else zeros 4)

/-- The check value of the stored configuration. -/
def chkOf (s : State) : Word := w32 (crcStore (chkBytes (fun u => obj s kProgram u) (obj s kOwner 0) s))

/-- TRIO_CHK_STATE of a computed and a confirmed value: 0 never confirmed, 1 confirmed, 2 changed (11 Table 11.8). -/
def chkCode (computed : Word) (confirmed : Option Word) : Nat :=
  match confirmed with
  | none => 0
  | some c => if c = computed then 1 else 2

/-- TRIO_CHK_STATE takes a value, with EV-090 on a change, and FS-037 into 2 (11 R303). -/
def setChkState (n : Nat) (s : State) : State :=
  if s.chkState = n then s
  else
    let s := { s with chkState := n }
    let s := raiseEvent 90 (if n = 2 then 2 else 1) [n, s.chk.toNat] s
    if n = 2 then detect 37 (locBlock s dieSoc 0x60) s else settle 37 s

/-- The check value is computed anew at an accepted change (11 R301, R303). -/
def recheck (s : State) : State :=
  let s := { useChannel 0x60 0 0 s with chk := chkOf s }
  setChkState (chkCode s.chk (confirmedValue s)) s

/-! ### Bulk staging (14 R399) -/

/-- The outcome of a part: an error, more to come, or the whole object. -/
inductive BulkStep where
  | bad (s : State)
  | more (staged : Nat) (s : State)
  | whole (index : Nat) (bs : Bytes) (s : State)
  deriving DecidableEq, Repr

/-- The bulk parameters as they travel. -/
def bulkBytes (p : BulkPart) : Bytes := be 2 p.index ++ be 2 p.rsvd ++ be 4 p.total ++ be 4 p.offset ++ p.data

/-- A part of a bulk object: OFFSET 0 starts a new staging of the opcode; a further part must carry the same INDEX and
TOTAL and the OFFSET staged so far, else the staging is discarded. -/
def bulkStep (op : Nat) (p : BulkPart) (s : State) : BulkStep :=
  let put (x : Option Staging) : State := s.modHost fun h => { h with staging := tset none h.staging op x }
  if p.rsvd ≠ 0 ∨ p.data.isEmpty ∨ 1388 < p.data.length ∨ p.total < p.offset + p.data.length then .bad (put none)
  else
    let have' : Option Bytes :=
      if p.offset = 0 then some []
      else match tget none s.host.staging op with
        | some g => if g.index = p.index ∧ g.total = p.total ∧ g.data.length = p.offset then some g.data else none
        | none => none
    match have' with
    | none => .bad (put none)
    | some d =>
      let all := d ++ p.data
      if all.length = p.total then .whole p.index all (put none)
      else .more all.length (put (some { index := p.index, total := p.total, data := all }))

/-- A bulk command: parts staged, and the object's checks run by the part that completes it. -/
def bulk (op : Nat) (p : BulkPart) (f : Nat → Bytes → State → Answer) (s : State) : Answer :=
  match bulkStep op p s with
  | .bad s' => (Status.badParam, [], s')
  | .more n s' => (Status.ok, be 4 n, s')
  | .whole i bs s' => f i bs s'

end Sys2Proof.Machine
end

