-- ==== Sys2Proof/Machine/Crucible.lean ====
section
/-! DEFINITION. The Crucible (chapter 04): pools and placement, the scrub, the upsets of its words, credits and overrun, loss and
recovery. -/

namespace Sys2Proof.Machine

/-! ### View contexts in the SP work area (05 R119, R526) -/

/-- The latest accepted record of a context (05 R526). -/
def latestCtx (s : State) (v : Nat) : Bytes := (s.view v).staged.getD (s.view v).ctx

/-- ENABLE of a record. -/
def ctxEnabled (c : Bytes) : Bool := bitAt (u8 c 0) 0

/-- A context is enabled in force, or by its latest accepted record. -/
def viewOn (s : State) (v : Nat) : Bool := ctxEnabled (s.view v).ctx || ctxEnabled (latestCtx s v)

/-- The copy of a context in a bank of the SP work area. -/
def bankAddr (bank : Bool) (v : Nat) : Nat := 0x68000000 + 0x8000 * b2n bank + 128 * v

/-- Every context in force copied into the bank in force by the service processor. -/
def copyContexts (s : State) : State :=
  (viewIxs s).foldl (fun s v => cruWrite .sp 0x60 6 (bankAddr s.cru.bank v) (pad 128 (s.view v).ctx) s) (useChannel 0x50 0 1 s)

/-! ### Pools and placement (04 R90, R91) -/

/-- Base and size of entry `n` of a pool table in 256-byte units, its type and index. -/
def poolUnits (tbl : Bytes) (n : Nat) : Nat × Nat × Nat × Nat :=
  (u8 tbl (0x10 + 16 * n), u8 tbl (0x11 + 16 * n), u32 tbl (0x14 + 16 * n), u32 tbl (0x18 + 16 * n))

def poolList (tbl : Bytes) : List (Nat × Nat × Nat × Nat) := (List.range (u16 tbl 0)).map (poolUnits tbl)

/-- Two runs of units overlap. -/
def overlap (b n b' n' : Nat) : Bool := decide (b < b' + n' ∧ b' < b + n)

/-- The lowest of the numbers that satisfy a predicate. -/
def lowest (p : Nat → Bool) : List Nat → Option Nat
  | [] => none
  | k :: r => match lowest p r with
    | some m => if p k && decide (k ≤ m) then some k else some m
    | none => if p k then some k else none

/-- The lowest free run of `len` units within one pool. -/
def freeIn (runs : List (Nat × Nat)) (len b n : Nat) : Option Nat :=
  lowest (fun c => decide (b ≤ c ∧ c + len ≤ b + n) && !(runs.any fun r => overlap c len r.1 r.2)) (b :: runs.map fun r => r.1 + r.2)

/-- The run the module gives an object of a pool type: in the first pool by INDEX that holds one (04 R91). -/
def freeRun (tbl : Bytes) (runs : List (Nat × Nat)) (ty len : Nat) : Option Nat :=
  (List.range 32).findSome? fun ix =>
    (poolList tbl).findSome? fun (t, i, b, n) => if t = ty ∧ i = ix then freeIn runs len b n else none

/-- The pool type of an object kind (04 Table 4.2); cameras take kind 0. -/
def poolType (kind : Nat) : Nat := if kind = 0 then 1 else if kind = kMesh then 2 else if kind = kOverlay then 3 else 5

/-- Units of 256 bytes that a byte string takes. -/
def unitsOf (n : Nat) : Nat := (n + 255) / 256

/-- The kinds of placed objects in the start-up order (04 R91). -/
def placedKinds : List Nat := [kMesh, kOverlay, kLayer]

/-- The stored objects of the placed kinds, in the start-up order. -/
def placedObjects (s : State) : List (Nat × Nat) :=
  placedKinds.flatMap fun k => (objIndexes s k).map fun i => (k, i)

/-- Fresh runs for a list of objects beside given runs; none where one does not fit. -/
def placeAll (tbl : Bytes) (s : State) : List (Nat × Nat) → Table (Nat × Nat) → Option (Table (Nat × Nat))
  | [], runs => some runs
  | (k, i) :: r, runs =>
    let len := unitsOf (obj s k i).length
    match freeRun tbl (runs.map (·.2)) (poolType k) len with
    | some b => placeAll tbl s r (tset (0, 0) runs (objKey k i) (b, len))
    | none => none

/-- The runs of the cameras. -/
def cameraRuns (s : State) : Table (Nat × Nat) := s.cru.runs.filter fun e => decide (e.1 / 65536 = 0)

/-- The stored bytes of a placed object in the Crucible; the service processor writes them (04 Table 4.3). -/
def copyObject (k i : Nat) (s : State) : State :=
  let r := tget (0, 0) s.cru.runs (objKey k i)
  if r.2 = 0 then s else cruWrite .sp 0x60 6 (256 * r.1) (pad (256 * r.2) (obj s k i)) s

/-- Every placed object copied from MRAM. -/
def copyObjects (s : State) : State := (placedObjects s).foldl (fun s (k, i) => copyObject k i s) s

/-- An object loaded under an index takes a run: its old one at the same length, else a fresh one (04 R91). None: no
free run. With a new table accepted, the whole placement under that table is made at its tick edge. -/
def placeObject (k i : Nat) (s : State) : Option State :=
  match s.cru.poolNext with
  | some tbl => if (placeAll tbl s (placedObjects s) (cameraRuns s)).isSome then some s else none
  | none =>
    let len := unitsOf (obj s k i).length
    let old := tget (0, 0) s.cru.runs (objKey k i)
    if old.2 = len then some (copyObject k i s)
    else
      match freeRun s.cru.pool (s.cru.runs.map (·.2)) (poolType k) len with
      | none => none
      | some b => some (copyObject k i (s.modCru fun c => { c with runs := tset (0, 0) c.runs (objKey k i) (b, len) }))

/-- A deleted object's run is released (04 R91). -/
def dropRun (k i : Nat) (s : State) : State := s.modCru fun c => { c with runs := tset (0, 0) c.runs (objKey k i) (0, 0) }

/-- A pool table that takes effect at a tick edge, with the objects placed afresh (04 R90, R91); the run of a stopped camera that
is not released yet, or that a CAM_ENABLE = 1 has taken since the table was accepted, stays where it is (log 170); the camera writes
of this very edge are judged by the new table (R111). -/
def usePool (tbl : Bytes) (s : State) : State :=
  let runs := (placeAll tbl s (placedObjects s) (cameraRuns s)).getD (cameraRuns s)
  let s := s.modCru fun c => { c with pool := tbl, runs := runs }
  copyObjects ((instant s).pooled.foldl (fun s x => rejudge x s) s)

/-- The accepted pool table at a tick edge. -/
def applyPool (s : State) : State :=
  let (tbl, rest) := takeTable 64 s.cru.poolNext s
  match tbl with
  | none => s
  | some tbl => usePool tbl (s.modCru fun c => { c with poolNext := rest })

/-- The fields of a pool table, after its TCRC (04 R90, R6). -/
def poolFieldsOk (tbl : Bytes) : Bool :=
  let n := u16 tbl 0
  decide (1 ≤ n ∧ n ≤ 32 ∧ tbl.length = 16 + 16 * n ∧ u16 tbl 2 = 0) && allZero (sub tbl 8 8) &&
  (List.range n).all fun i =>
    let (ty, ix, b, sz) := poolUnits tbl i
    decide (1 ≤ ty ∧ ty ≤ 5 ∧ ix < 32 ∧ 1 ≤ sz ∧ b + sz ≤ 0x680000 ∧ u16 tbl (0x12 + 16 * i) = 0 ∧ u32 tbl (0x1C + 16 * i) = 0) &&
    (List.range i).all fun j => let (_, _, b', sz') := poolUnits tbl j; !overlap b sz b' sz'

/-- A camera port triggers, or waits to (02 R35, 04 R90). -/
def camBusy (s : State) : Bool := s.cams.any fun (_, c) => decide (c.st = .started ∨ c.st = .lost)

/-- POOL_LOAD (04 R90, R91). -/
def poolLoadObj (ix : Nat) (tbl : Bytes) (s : State) : Answer :=
  if ix ≠ 0 ∨ tbl.length < 16 then reject Status.badParam s
  else if !crcEmbeddedOk tbl 4 then reject Status.checkFail s
  else if !poolFieldsOk tbl || (placeAll tbl s (placedObjects s) (cameraRuns s)).isNone then reject Status.badParam s
  else if camBusy s || (viewIxs s).any (viewOn s) then reject Status.wrongState s
  else
    let s := (noteLoad 64 s.cru.poolNext s).modCru fun c => { c with poolNext := some tbl }
    (Status.ok, [], writeCfg s.mram.cfg tbl s)

def execPoolLoad (h : Hdr) (part : BulkPart) (s : State) : Host.Outcome State Fault Refusal :=
  done (serve h 0x0110 (bulkBytes part) (.poolLoad h part) (bulk 0x0110 part poolLoadObj) s)

/-! ### Scrub (04 R93 to R95) -/

/-- An upset comes to lie in a word: a second one beside the first makes a double-bit error (04 R93). -/
def upsetWord (addr err : Nat) (s : State) : State :=
  s.modCru fun c => { c with errs := tmod 0 c.errs (addr / 8) fun e => if e = 0 ∨ e = err then err else 65 }

/-- The upsets since the last read of the scrub come to lie in their words. -/
def takeUpsets (flips : List DramFlip) (doubles : List Nat) (s : State) : State :=
  let s := flips.foldl (fun s u => upsetWord u.addr (if u.bit.val = 64 then 66 else u.bit.val + 1) s) s
  doubles.foldl (fun s a => upsetWord a 65 s) s

/-- The patrol scrub moves on by one word; behind the last one a pass is complete, and the next one counts corrections
afresh (04 R94, R95). -/
def nextScrub (s : State) : State :=
  let a := s.cru.scrubAt
  if a + 8 < cruEnd then setReg (s.modCru fun c => { c with scrubAt := a + 8 }) P.cruScrubPos ((a + 8) / 256)
  else wrapReg (setReg (s.modCru fun c => { c with scrubAt := 0, ceWords := [] }) P.cruScrubPos 0) P.cruScrubPasses

/-- CRU_SCRUB_READ (04 R94): the upsets since the last read of the scrub come to lie in their words; the next word in ascending
order is read, and an error found in it treated as R93 states. -/
def scrubRead (t : Time) (flips : List DramFlip) (doubles : List Nat) (s : State) : State :=
  let s := advance t s
  if !cruOk s then s else nextScrub (meetWord (s.cru.scrubAt / 8) (takeUpsets flips doubles s))

def execCruScrubRead (t : Time) (flips : List DramFlip) (doubles : List Nat) (s : State) : Host.Outcome State Fault Refusal :=
  done (scrubRead t flips doubles s)

/-! ### Credits (04 R106) -/

/-- Credits that a class, 0 to 5 for classes 1 to 6, has used in this tick. How many bursts the reference reads of the lanes take is
not stated (log 30). -/
def usedBy (cls : Nat) (s : State) : Nat :=
  tget 0 s.cru.used (cls + 1) + (if cls = 2 then Config.witnessBursts s.tick.count.toNat else 0)

/-- A guaranteed class, 0 to 3 for classes 1 to 4, has been served beyond the credits it was loaded with (04 R102, R106). -/
def exhausted (cls : Nat) (s : State) : Bool :=
  decide (regE s (P.cruCreditIngest + cls) < usedBy cls s)

/-- CREDIT_OVERRUN (04 R106): a guaranteed class has exhausted its credits; it counts once a tick. -/
def creditOverrun (t : Time) (cls : Nat) (s : State) : State :=
  let s := advance t s
  if !cruOk s || s.cru.overrun.contains cls || !exhausted cls s then s
  else
    let s := s.modCru fun c => { c with overrun := insertNat cls c.overrun }
    detect 8 (locBlock s dieSoc 0x51 (cls + 1)) (satField s P.cruOverrun (8 * cls + 7) (8 * cls) 1)

def execCreditOverrun (t : Time) (cls : Fin 4) (s : State) : Host.Outcome State Fault Refusal :=
  done (creditOverrun t cls.val s)

/-! ### Loss and recovery (04 R107 to R110) -/

/-- CRU_LOSS (04 R107): causes 2 to 5, in service. Cause 1 belongs to the start-up; cause 4 needs the live poison beyond
its limit. -/
def cruLoss (t : Time) (cause : Nat) (s : State) : State :=
  let s := advance t s
  if !cruOk s || decide (cause < 2) || (cause = 4 && decide (poisonCount s ≤ reg s P.cruPoisonMax)) then s
  else loseCrucible cause s

def execCruLoss (t : Time) (cause : Fin 6) (s : State) : Host.Outcome State Fault Refusal := done (cruLoss t cause.val s)

/-- CRU_RECOVER (04 R110): accepted only while lost; the collector is in mode RECOVERY while it runs. Step 1 releases
the controller, whose clock must have relocked (18 Tables 18.1, 18.3). -/
def cruRecoverBody (h : Hdr) (s : State) : Answer :=
  if s.cru.st ≠ .lost then reject Status.wrongState s
  else
    let s := if s.clk.locks.getLsbD 5 then satField (setDom 5 .running s) P.sysDomainResets 31 24 1 else s
    let s := setFltMode .recovery (setCruState .recovering s)
    (Status.held, [], s.modHost fun x => { x with held := some { h := h, opcode := 0x0901 } })

def execCruRecover (h : Hdr) (s : State) : Host.Outcome State Fault Refusal :=
  done (serve h 0x0901 [] (.cruRecover h) (cruRecoverBody h) s)

/-- The collector's mode once a recovery has ended (15 R412): RECOVERY while another one lasts, START until the start-up is
complete. -/
def endRecovery (s : State) : State :=
  setFltMode (if s.cru.st = .recovering ∨ s.clk.sp = .restarting then .recovery else if s.st.step < 10 then .start else .service) s

/-- The command that holds the queue gets its reply, whichever session and link it came by. -/
def releaseHeld (op status : Nat) (params : Bytes) (s : State) : State :=
  match s.host.held with
  | some x => finishHeld x.h op status params s
  | none => s

/-- Roles of buffers that lie in a Crucible whose contents are gone (04 R110). -/
def dropBuffers (s : State) : State :=
  { s with
    views := (viewIxs s).foldl (fun t v => tmod {} t v fun x => { x with frames := [], lastVer := none }) s.views,
    cams := (s.cams.map (·.1)).foldl (fun t c => tmod {} t c fun x => { x with settled := none, held := none, older := none }) s.cams }

/-- CRU_RECOVERY_DONE (04 R110): a failing step leaves LOST and CHECK_FAIL; after steps 1 to 3 the Crucible returns at
the next tick edge. The memory test enters the pages it has repaired (log 169); what it leaves in the store is what unwritten
memory reads (log 5). Without the SP no recovery is judged (01 R19). -/
def recoveryDone (t : Time) (result : RecoveryEnd) (s : State) : State :=
  let s := advance t s
  if s.cru.st ≠ .recovering ∨ s.cru.returning ∨ s.clk.sp ≠ .running then s
  else
    let s := result.repairs.foldl (fun s k => repairPage (4096 * k) 0 s) s
    if result.ok && domUp 5 s then
      dropBuffers (s.modCru fun c => { c with
        mem := [], poison := [], errs := [], ceWords := [], snapTick := none, returning := true })
    else
      let s := endRecovery (setCruState .lost (setDom 5 .heldInReset s))
      releaseHeld 0x0901 Status.checkFail [] s

def execCruRecoveryDone (t : Time) (result : RecoveryEnd) (s : State) : Host.Outcome State Fault Refusal :=
  done (recoveryDone t result s)

/-- The pool table is reloaded from its record in MRAM; where it is not the one in force, objects are placed anew (04 R110). -/
def reloadPool (s : State) : State :=
  if s.mram.cfgPool = s.cru.pool then s else usePool s.mram.cfgPool (s.modCru fun c => { c with poolNext := none })

/-- The return to service at a tick edge (04 R110, step 4), with the contents reloaded from MRAM. -/
def returnCrucible (s : State) : State :=
  if !s.cru.returning then s
  else
    let s := setCruState .inService (s.modCru fun c => { c with returning := false })
    let s := settle 9 (copyObjects (copyContexts (reloadPool s)))
    let s := endRecovery s
    releaseHeld 0x0901 Status.ok [b8 (cruCode s.cru.st)] s

end Sys2Proof.Machine
end

