-- ==== Sys2Proof/Machine/Tick.lean ====
section
/-! DEFINITION. The tick generator (chapter 02): its sources, TICK_IN, holdover and relocking. -/

namespace Sys2Proof.Machine

/-- The programmed period times the rate, in REF cycles times 0.001 Hz: times are compared as multiples of it. -/
abbrev perRate : Nat := 100000000000

/-- One period of the fractional accumulator, in 2^-24 REF cycles: the step nearest to the programmed period (02 R36, log 168). -/
def accPeriod (s : State) : Int := ((perRate * 2 ^ 24 + s.tick.rate / 2) / (if s.tick.rate = 0 then 1 else s.tick.rate) : Nat)

/-- Where the accumulator puts the next edge, in 2^-24 REF cycles after the last one. -/
def nominalEdge (s : State) : Int := s.tick.frac + accPeriod s

/-- A 16-bit counter register counted up; past its largest value it holds a free value (log 10). -/
def count16 (s : State) (id : Nat) : State :=
  let s := noteUpdate id (· + 1) s
  let fits := decide (reg s id + 1 < 65536)
  { setReg s id (if fits then reg s id + 1 else (Config.freeWord s.free).toNat % 65536) with free := s.free + b2n (!fits) }

/-- An entry into holdover that is a loss (02 R37, R39): TICK_LOCKED cleared and the loss counted. -/
def enterHoldover (s : State) : State :=
  count16 (s.modTick fun k => { k with locked := false, relocking := false, holdover := true, accepted := 0, phaseErr := 0 }) P.tickLossCount

/-- A source takes effect at a tick edge (02 R525): TICK_IN in holdover with no reference, the internal source locked;
the Erg source is locked while the Erg Link unit follows a lead (13 R364). -/
def takeSource (n : Nat) (s : State) : State :=
  let s := s.modTick fun k => { k with
    source := n, ref := none, accepted := 0, phaseErr := 0, relocking := false,
    locked := n = 0 || (n = 2 && decide (s.erg.st = .running)), holdover := n = 1 || (n = 2 && decide (s.erg.st = .holdover)) }
  settle 1 (setReg s P.tickMeasured 0)

/-- Time since the reference, as a multiple of the period times the rate. -/
def sinceRef (ref t : Time) (s : State) : Nat := (t - ref) * s.tick.rate

/-- Two expected edges have passed since the reference, with their windows: an edge on the bound of the second is still judged
by it (02 R37, R52). -/
def refExpired (t : Time) (s : State) : Bool :=
  match s.tick.ref with
  | some r => decide (s.tick.source = 1 ∧ 2 * perRate + perRate / 200 < sinceRef r t s)
  | none => false

/-- The reference is dropped, and a generator that follows TICK_IN enters holdover and raises the tick-source fault
(02 R37, R525). -/
def dropRef (s : State) : State :=
  let was := s.tick.holdover
  let s := s.modTick fun k => { k with ref := none, accepted := 0 }
  if was then s else detect 1 (locBlock s dieSoc 0x71) (enterHoldover s)

/-- TICK_HOLDOVER (02 R37). -/
def tickHoldover (t : Time) (s : State) : State :=
  let s := advance t s
  if refExpired s.now s then dropRef s else s

def execTickHoldover (t : Time) (s : State) : Host.Outcome State Fault Refusal := done (tickHoldover t s)

/-- The error of an edge against the generator's own nearest edge, in REF cycles (02 R38). -/
def phaseOf (t : Time) (s : State) : Int :=
  let p := tickPeriod s
  let d := (t - s.tick.lastEdge) % p
  if p < 2 * d then (d : Int) - p else d

/-- The whole number of periods that brings the expected edge nearest to an edge (02 R37). -/
def nearestPeriods (x : Nat) : Nat := (x + perRate / 2) / perRate

/-- An edge lies strictly within 0.5 % of a period from its expected edge (02 R37). -/
def inWindowOf (x n : Nat) : Bool := decide ((x : Int) - n * perRate < perRate / 200 ∧ (n : Int) * perRate - x < perRate / 200)

/-- TICK_IN_EDGE (02 R37, R38, R525). An edge that follows a missing one begins the count of consecutive edges anew (log 93). -/
def tickInEdge (t : Time) (falling : Bool) (s : State) : State :=
  let s := advance t s
  if s.tick.source ≠ 1 ∨ falling ≠ decide (reg s P.tickInEdge = 1) then s
  else
    let s := if refExpired s.now s then dropRef s else s
    match s.tick.ref with
    | none => s.modTick fun k => { k with ref := some s.now }
    | some r =>
      let x := sinceRef r s.now s
      let n := nearestPeriods x
      if inWindowOf x n then
        let s := if n = 0 then s else setReg s P.tickMeasured ((s.now - r) * 10 / n)
        s.modTick fun k => { k with
          ref := some s.now, accepted := (if n ≤ 1 then k.accepted else 0) + 1, phaseErr := phaseOf s.now s }
      else s.modTick fun k => { k with accepted := 0 }

def execTickInEdge (t : Time) (falling : Bool) (s : State) : Host.Outcome State Fault Refusal := done (tickInEdge t falling s)

/-- TICK_RELOCK (02 R38): after three accepted edges in a row. -/
def tickRelock (t : Time) (s : State) : State :=
  let s := advance t s
  if s.tick.source = 1 ∧ s.tick.holdover ∧ 3 ≤ s.tick.accepted then
    settle 1 (s.modTick fun k => { k with holdover := false, relocking := true })
  else s

def execTickRelock (t : Time) (s : State) : Host.Outcome State Fault Refusal := done (tickRelock t s)

/-- TICK_STATUS (02 Table 2.3a). -/
def tickStatus (s : State) : Nat :=
  b2n s.tick.locked + 2 * b2n s.tick.holdover + 4 * b2n s.tick.relocking + 8 * s.tick.source

end Sys2Proof.Machine
end

