-- ==== Sys2Proof/Machine/Camera.lean ====
section
/-! DEFINITION. Camera ingest (chapter 03): port states, triggers, frame windows, rows, settling, freshness. -/

namespace Sys2Proof.Machine

/-! ### Formats and limits -/

/-- Bits per pixel on the wire (03 R58), stored bytes per pixel (03 Table 3.4) and CSI-2 data type (03 Table 3.1). -/
def wireBits (fmt : Nat) : Nat := if fmt = 0 then 16 else if fmt = 1 then 20 else 24
def storedBytes (fmt : Nat) : Nat := if fmt = 0 then 2 else 4
def dataType (fmt : Nat) : Nat := if fmt = 0 then 0x1E else if fmt = 1 then 0x1F else 0x24

/-- Line pitch and buffer size of a camera (03 R74). -/
def camPitch (c : Nat) (s : State) : Nat := (reg s (P.camWidth c) * storedBytes (reg s (P.camFormat c)) + 255) / 256 * 256
def camBufSize (c : Nat) (s : State) : Nat := 256 + reg s (P.camHeight c) * camPitch c s

/-- Address of buffer `b` of a camera (03 R74). -/
def camBufAddr (c b : Nat) (s : State) : Nat := 256 * reg s (P.camBufbase c) + b * camBufSize c s

/-- Net downlink rate of a gear in bit/s (03 Table 3.1). -/
def gearRate (g : Nat) : Nat := if g = 0 then 0 else 1000000000 * 2 ^ g

/-- The link carries the configured stream at a tick rate in 0.001 Hz (03 R58). -/
def carriesAt (c gear rate : Nat) (s : State) : Bool :=
  let w := reg s (P.camWidth c)
  let hh := reg s (P.camHeight c)
  decide (rate * (hh * (w * wireBits (reg s (P.camFormat c)) + 80) + 128) ≤ 1000 * gearRate gear)

/-- The tick rate to judge by: the one set (02 R35). -/
def setRate (s : State) : Nat := reg s P.tickRate

/-- The trained gear reaches CAM_VCGEAR and carries the stream (03 R56). -/
def gearServes (c : Nat) (s : State) : Bool :=
  let g := (s.cam c).gear
  decide (0 < g ∧ fld (reg s (P.camVcgear c)) 5 4 ≤ g) && carriesAt c g (setRate s) s

/-- Pixel rate of a port in 0.001 px/s (03 R57). -/
def pixelRate (c : Nat) (s : State) : Nat := reg s (P.camWidth c) * reg s (P.camHeight c) * setRate s

/-- A port is started (03 R57): STARTED or LOST. -/
def camOn (c : Nat) (s : State) : Bool := decide ((s.cam c).st = .started ∨ (s.cam c).st = .lost)

/-- The limits of R57 with a port among the started ones. -/
def rateOk (c : Nat) (s : State) : Bool :=
  decide (pixelRate c s ≤ 497664000000) &&
  decide (((List.range 16).filter fun k => k = c || camOn k s).foldl (fun a k => a + pixelRate k s) 0 ≤ 4000000000000)

/-- The module gives a port its run of three buffers; none where no free run exists (04 R91). A port that still holds a run of
the length it needs keeps it (log 173). -/
def placeCamera (c : Nat) (s : State) : Option State :=
  let len := 3 * (camBufSize c s / 256)
  if (tget (0, 0) s.cru.runs c).2 = len then some s
  else
    let s := s.modCru fun x => { x with runs := tset (0, 0) x.runs c (0, 0) }
    (freeRun s.cru.pool (s.cru.runs.map (·.2)) 1 len).map fun b =>
      setReg (s.modCru fun x => { x with runs := tset (0, 0) x.runs c (b, len) }) (P.camBufbase c) b

/-- A port's run is released (04 R91). -/
def releaseCamera (c : Nat) (s : State) : State :=
  setReg ((s.modCru fun x => { x with runs := tset (0, 0) x.runs c (0, 0) }).modCam c fun p =>
    { p with settled := none, held := none, older := none }) (P.camBufbase c) 0

/-- A port starts (03 R61, R79): triggers follow from the next tick. -/
def startCamera (c : Nat) (s : State) : State :=
  setCamState c .started (s.modCam c fun p => { p with prevCount := none, repeats := 0, missRun := 0, triggering := false })

/-- A port enters LOST, counted and reported (03 R64). -/
def loseCamera (c : Nat) (counted : Bool) (s : State) : State :=
  let s := if counted then s else satField s (P.camCountA c) 31 24 1
  detect 2 (locBlock s dieSoc c) (setCamState c .lost s)

/-! ### Link -/

/-- Half a round trip in units of 10 ns; the rounding of an odd one is not stated (log 12). -/
def halfTrip (rt : Nat) (s : State) : Nat × State :=
  if rt % 2 = 0 then (rt / 2, s)
  else (rt / 2 + b2n (Config.freeBit s.free), { s with free := s.free + 1 })

def setDelay (c rt : Nat) (s : State) : State :=
  let (d, s) := halfTrip rt s
  s.modCam c fun p => { p with delay := d % 65536, measuredAt := s.tick.count }

/-- CAM_LINK of a port falls (03 R82). -/
def spoilLink (c : Nat) (s : State) : State := fall [784 + c] (s.modCam c fun p => { p with linkOk := false })

/-- A port that is LINKED starts, stays or enters LOST by its stored CAM_ENABLE (03 R63). The limits of R57 are not judged again
here, and a port for which no free run exists stays LINKED (log 174). One that enters LOST from TRAINING compares its first settled
frame with none: FIRST is set, though R79 names only the entry into STARTED (DESIGN CHOICE, log 222). -/
def linkedStart (c : Nat) (s : State) : State :=
  if reg s (P.camEnable c) = 0 then setCamState c .linked s
  else if gearServes c s then
    match placeCamera c s with
    | some s => startCamera c s
    | none => setCamState c .linked s
  else loseCamera c false (s.modCam c fun p => { p with prevCount := none })

/-- CAM_LINK_LOCK (03 R56, R63, R67): the link locks at a gear, with its delay measured. Before the camera-start step a
trained port stays LINKED (17 R443). -/
def camLinkLock (t : Time) (c gear rt : Nat) (s : State) : State :=
  let s := advance t s
  let p := s.cam c
  if p.st = .disabled ∨ p.gear ≠ 0 ∨ gear = 0 ∨ 3 < gear then s
  else
    let s := setDelay c rt (s.modCam c fun p => { p with gear := gear, stream := .unknown })
    if p.st = .training then
      if s.st.step < 9 then setCamState c .linked s else linkedStart c s
    else s

def execCamLinkLock (t : Time) (c : Fin 16) (gear rt : Nat) (s : State) : Host.Outcome State Fault Refusal :=
  done (camLinkLock t c.val gear rt s)

/-- The frame in progress is discarded, and its buffer released (03 R72). -/
def discardFrame (c : Nat) (s : State) : State :=
  if (s.cam c).frame.isSome then satField (s.modCam c fun p => { p with frame := none }) (P.camCountA c) 15 8 1 else s

/-- A port as it was before a frame settled (03 R72, R79 to R81). -/
def unsettledPort (u p : CamPort) : CamPort :=
  { p with
    window := u.window, frame := u.frame, frozen := u.frozen, fresh := u.fresh, lastFresh := u.lastFresh, settled := u.settled
    prevCount := u.prevCount, settledAt := u.settledAt, missRun := u.missRun, lastHdr := u.lastHdr, repeats := u.repeats
    st := if u.st = .lost ∧ p.st = .started then .lost else p.st }

/-- A frame that has settled on the very edge is taken back to the port and the header before it (03 R72, R83). -/
def unsettle (c : Nat) (s : State) : State :=
  match tget none (instant s).settles c with
  | none => s
  | some u =>
    let s := { s with inst := { instant s with settles := tset none (instant s).settles c none } }
    let s := s.modCam c (unsettledPort u.port)
    let s := if u.skip then takeBack (P.camCountB c) 23 16 1 u.full s else s
    match u.port.frame with
    | some fr => s.modCru fun x => { x with mem := Memory.put x.mem fr.addr u.header }
    | none => s

/-- CAM_LINK_LOSS (03 R82, R64): the link loses lock; a started port enters LOST. A frame that settles on this edge is discarded
(R83). -/
def camLinkLoss (t : Time) (c : Nat) (s : State) : State :=
  let s := advance t s
  if (s.cam c).gear = 0 then s
  else
    let s := unsettle c (satField s (P.camCountA c) 31 24 1)
    let s := discardFrame c (spoilLink c (s.modCam c fun p => { p with gear := 0, stream := .unknown }))
    if (s.cam c).st = .started then loseCamera c true s
    else if (s.cam c).st = .linked then setCamState c .training s else s

def execCamLinkLoss (t : Time) (c : Fin 16) (s : State) : Host.Outcome State Fault Refusal := done (camLinkLoss t c.val s)

/-! ### Windows and triggers (03 R65, R68, R73) -/

/-- CAM_FRESH of a port, V space bit 768 + c (03 R80). -/
def setFresh (c : Nat) (b : Bool) (s : State) : State := fallIf (!b) [768 + c] (s.modCam c fun p => { p with fresh := b })

/-- The frame window of a port ends; without a settled frame it counts, and clears CAM_FRESH (03 R73, R80). -/
def closeWindow (c : Nat) (s : State) : State :=
  match (s.cam c).window with
  | none => s
  | some w =>
    let s := (discardFrame c s).modCam c fun p => { p with window := none }
    if w.settled then s
    else satField (setFresh c false (s.modCam c fun p => { p with missRun := p.missRun + 1 })) (P.camCountA c) 7 0 1

/-- A phase of the tick in progress, in 0.01 tick, has come (00 R5). -/
def phaseCame (phase : Nat) (s : State) : Bool :=
  decide (phase * perRate ≤ (s.now - s.tick.lastEdge) * 100 * s.tick.rate)

/-- A window has ended: the next trigger's time has come (03 R68). -/
def windowOver (w : CamWindow) (s : State) : Bool :=
  let n := (s.tick.count - w.tick).toNat
  decide (2 ≤ n) || (decide (n = 1) && phaseCame w.phase s)

/-- CAM_WINDOW_END (03 R73): at the time of the next trigger. -/
def camWindowEnd (t : Time) (c : Nat) (s : State) : State :=
  let s := advance t s
  match (s.cam c).window with
  | some w => if windowOver w s then closeWindow c s else s
  | none => s

def execCamWindowEnd (t : Time) (c : Fin 16) (s : State) : Host.Outcome State Fault Refusal := done (camWindowEnd t c.val s)

/-- CAM_LOST (03 R73): CAM_LOSS_TICKS windows in a row without a settled frame. -/
def camLost (t : Time) (c : Nat) (s : State) : State :=
  let s := advance t s
  let p := s.cam c
  if p.st = .started ∧ p.lossTicks ≤ p.missRun then loseCamera c false s else s

def execCamLost (t : Time) (c : Fin 16) (s : State) : Host.Outcome State Fault Refusal := done (camLost t c.val s)

/-- The trigger of the tick in progress is due: at k + CAM_PHASE, no earlier and at most 20 ns later (03 R65; 02 R41). -/
def trigDue (c : Nat) (s : State) : Bool :=
  let ph := reg s (P.camPhase c)
  phaseCame ph s && decide ((s.now - s.tick.lastEdge) * 100 * s.tick.rate ≤ ph * perRate + 200 * s.tick.rate)

/-- A port sends triggers in this tick (03 Table 3.3). -/
def sendsTrigger (c : Nat) (s : State) : Bool :=
  let p := s.cam c
  p.triggering && (decide (p.st = .started) || (decide (p.st = .lost) && gearServes c s))

/-- The trigger of this tick has been sent. -/
def triggered (c : Nat) (s : State) : Bool :=
  match (s.cam c).window with | some w => decide (w.tick = s.tick.count) | none => false

/-- The trigger pulse is being sent (03 R65). -/
def pulsing (c : Nat) (s : State) : Bool :=
  match (s.cam c).pulse with | some x => decide (s.now < x.at' + us x.widthUs) | none => false

/-- The trigger has the back channel (03 R66): its pulse is being sent, or its edge is scheduled within 2 µs, in this tick or
the next one. -/
def triggerNear (c : Nat) (s : State) : Bool :=
  let p := s.cam c
  let x := (s.now - s.tick.lastEdge) * 100 * s.tick.rate
  let soon (target : Nat) : Bool := decide (target ≤ x + 20000 * s.tick.rate ∧ x ≤ target + 200 * s.tick.rate)
  let now := reg s (P.camPhase c) * perRate
  let goesOn := camOn c s && !p.stopping && (decide (p.st = .started) || gearServes c s)
  pulsing c s || (sendsTrigger c s && !triggered c s && soon now) || (goesOn && soon (now + 100 * perRate))

/-- When the pulse that is being sent ends. -/
def pulseEnd (p : CamPort) : Option Time := p.pulse.map fun x => x.at' + us x.widthUs

/-- A control segment begins, or waits for the trigger and its pulse (03 R66). -/
def readySegment (c : Nat) (s : State) : State :=
  s.modCam c fun p => { p with segment := some {
    ready := s.now
    begun := if pulsing c s then pulseEnd p else if triggerNear c s then none else some s.now } }

/-- A trigger that a segment waits for is at most 2 µs away when the segment is ready, and comes at most 20 ns late (03 R65, R66). -/
def mayWait (g : CamSegment) (now : Time) : Bool := g.begun.isNone && decide (now ≤ g.ready + 202)

/-- The control segment still waits for the trigger or its pulse. -/
def segmentWaits (c : Nat) (s : State) : Bool :=
  match (s.cam c).segment with
  | some g => (match g.begun with | some b => decide (s.now < b) | none => mayWait g s.now && triggerNear c s)
  | none => false

/-- A segment that waits for the trigger, or was about to begin on its edge, begins when the pulse has been sent (03 R66). -/
def yieldSegment (now stop : Time) (g : CamSegment) : CamSegment :=
  if mayWait g now || decide (g.begun = some now) then { g with begun := some stop } else g

/-- CAM_TRIGGER (03 R65, R66, R68; 02 R47): the trigger of the tick, ahead of a control segment due on the same edge; the window
before ends, the settled buffer becomes held. -/
def camTrigger (t : Time) (c : Nat) (s : State) : State :=
  let s := advance t s
  if !sendsTrigger c s || triggered c s || !trigDue c s then s
  else
    let s := closeWindow c s
    let w : CamWindow := {
      tick := s.tick.count, trigAt := s.now, freeze := reg s (P.camFreeze c), fswin := reg s (P.camFswin c),
      errmax := reg s (P.camErrmax c), phase := reg s (P.camPhase c) }
    let trig := reg s (P.camTrig c)
    s.modCam c fun p => { p with
      window := some w, lossTicks := reg s (P.camLossTicks c),
      pulse := some { at' := s.now, gpio := fld trig 2 0, low := bitAt trig 3, widthUs := fld trig 15 8 },
      segment := p.segment.map (yieldSegment s.now (s.now + us (fld trig 15 8))),
      older := if p.settled.isSome then p.held else p.older,
      held := if p.settled.isSome then p.settled else p.held, settled := none }

def execCamTrigger (t : Time) (c : Fin 16) (s : State) : Host.Outcome State Fault Refusal := done (camTrigger t c.val s)

/-- CAM_DELAY_MEASURE (03 R67): once in every 1,024 ticks, in the uplink gap after the trigger. -/
def camDelayMeasure (t : Time) (c rt : Nat) (s : State) : State :=
  let s := advance t s
  if (s.cam c).gear = 0 ∨ (s.tick.count - (s.cam c).measuredAt).toNat < 1024 || (sendsTrigger c s && !triggered c s) || pulsing c s
  then s
  else setDelay c rt s

def execCamDelayMeasure (t : Time) (c : Fin 16) (rt : Nat) (s : State) : Host.Outcome State Fault Refusal :=
  done (camDelayMeasure t c.val rt s)

/-- An accepted stop takes effect (03 R61): no trigger from here on, the port returns to LINKED. -/
def endTriggers (c : Nat) (s : State) : State :=
  let s := s.modCam c fun p => { p with stopping := false, triggering := false }
  settle 2 (setCamState c (if (s.cam c).gear = 0 then .training else .linked) s)

/-- A stop is accepted (03 R61): from the next tick edge on no trigger is sent; on a tick edge from this one on, and the trigger of
that tick is not sent (R83). -/
def stopCamera (c : Nat) (s : State) : State :=
  if s.tick.lastEdge = s.now ∧ s.tick.loose = false then
    endTriggers c (s.modCam c fun p => { p with
      window := if p.window.any fun w => decide (w.trigAt = s.now) then none else p.window
      pulse := if p.pulse.any fun x => decide (x.at' = s.now) then none else p.pulse
      segment := if p.pulse.any fun x => decide (x.at' = s.now) then
          p.segment.map fun g => if g.begun = pulseEnd p then { g with begun := some s.now } else g
        else p.segment })
  else s.modCam c fun p => { p with stopping := true }

/-! ### Frames (03 R69 to R81) -/

/-- The ingest header (03 Table 3.5): 64 bytes with HCRC. -/
def camHeader (tick : Word) (fcount w hh fmt c flags trig start last ok err : Nat) (gen : Word) : Bytes :=
  let b := le 4 tick.toNat ++ le 4 fcount ++ le 2 w ++ le 2 hh ++ [b8 fmt, b8 c] ++ le 2 flags ++ le 4 trig ++ le 4 start ++
    le 4 last ++ le 2 ok ++ le 2 err ++ le 4 gen.toNat ++ zeros 24
  b ++ le 4 (crcStore b)

/-- Packets on another channel, of an unsupported type, and extra Frame Starts (03 R70, R68). -/
def countStray (c : Nat) (s : State) : State := satField s (P.camCountB c) 31 24 1

/-- The buffer a new frame fills: the lowest that holds neither the settled frame nor the two held before it (02 R47; log 27). -/
def fillBuf (p : CamPort) : Nat :=
  let used (b : Nat) := [p.settled, p.held, p.older].any fun x => decide (x.map (·.buf) = some b)
  ((List.range 3).find? fun b => !used b).getD 0

/-- Line pitch of a frame (03 R74). -/
def framePitch (fr : CamFrame) : Nat := (fr.width * storedBytes fr.fmt + 255) / 256 * 256

/-- A Frame Start that the window accepts begins the frame and writes its header with FLAGS 0 (03 R69, R76); the fields
that the settle edge rewrites hold nothing the spec states until then. -/
def beginFrame (c frameNo : Nat) (w : CamWindow) (s : State) : State :=
  let p := s.cam c
  let b := fillBuf p
  let gen := p.gen + 1
  let f (k : Nat) := (Config.freeWord (s.free + k)).toNat
  let hd := camHeader w.tick (f 0) (reg s (P.camWidth c)) (reg s (P.camHeight c)) (reg s (P.camFormat c)) c 0
    (w.trigAt % 2 ^ 32) (s.now % 2 ^ 32) (f 1) (f 2 % 65536) (f 2 / 65536) gen
  let fr : CamFrame := {
    tick := w.tick, buf := b, trigAt := w.trigAt, startAt := s.now, frameNo := frameNo % 65536, addr := camBufAddr c b s,
    width := reg s (P.camWidth c), height := reg s (P.camHeight c), fmt := reg s (P.camFormat c), fcnt := reg s (P.camFcntSrc c),
    hdr := hd }
  let s := { s with free := s.free + 3 }
  let s := s.modCam c fun p => { p with
    window := some { w with begun := true }, frame := some fr, gen := gen, stream := .taken }
  camStore c (camBufAddr c b s) 256 (some (pad 256 hd)) (cruWrite .camera c 1 (camBufAddr c b s) (pad 256 hd)) s

/-- The port writes frames (03 Table 3.3, 04 R108): the Crucible serves, and a port in LOST has a gear that carries its stream. A
stopped port, LINKED again, whose last window is still open takes the frame that begins in it (DESIGN CHOICE, log 172). -/
def writesFrames (c : Nat) (s : State) : Bool := cruOk s && (decide ((s.cam c).st ≠ .lost) || gearServes c s)

/-- The virtual channel configured for a port. -/
def camChannel (c : Nat) (s : State) : Nat := fld (reg s (P.camVcgear c)) 3 0

/-- CAM_FRAME_START (03 R68, R69): one on the next trigger's edge belongs to no window; a further one of a window is discarded with
its frame, and the one in progress gets no more packets (log 94). Where the port writes no frame, none begins, and a port that does
not trigger and has no window open takes none in: neither counts; a stopped port fills the window that is still open (log 172). A Frame Start that fails its ECC begins no frame; one that comes before the
Frame End of the frame before it shows that that packet was lost (R82). -/
def camFrameStart (t : Time) (c vc frameNo ecc : Nat) (s : State) : State :=
  let s := advance t s
  if (s.cam c).gear = 0 then s
  else if vc ≠ camChannel c s then countStray c s
  else
    let s := if ecc = 2 ∨ (s.cam c).stream = .taken ∨ (s.cam c).stream = .discarded then spoilLink c s else s
    let s := s.modCam c fun p => { p with stream := .discarded, rowsSeen := [], rowsDue := reg s (P.camHeight c) }
    let outside := satField s (P.camCountA c) 15 8 1
    if ecc = 2 then s
    else
      match (s.cam c).window with
      | none => if camOn c s then outside else s
      | some w =>
        if windowOver w s then outside
        else if w.begun then countStray c s
        else
          let lo := w.trigAt + (s.cam c).delay
          if s.now ≤ lo ∨ w.fswin * perRate < (s.now - lo) * 100 * s.tick.rate then outside
          else if writesFrames c s then beginFrame c frameNo w s
          else s

def execCamFrameStart (t : Time) (c : Fin 16) (pkt : ShortPacket) (frameNo : Nat) (s : State) : Host.Outcome State Fault Refusal :=
  done (camFrameStart t c.val pkt.vc frameNo pkt.ecc.val s)

/-- Address of a row of a frame. -/
def rowAddr (fr : CamFrame) (row : Nat) : Nat := fr.addr + 256 + row * framePitch fr

/-- The frame in progress of a port changed. -/
def modFrame (c : Nat) (f : CamFrame → CamFrame) (s : State) : State := s.modCam c fun p => { p with frame := p.frame.map f }

/-- Rows that have arrived: those of this very edge are told apart (05 R141). -/
def arrive (row : Nat) (now : Time) (f : CamFrame) : CamFrame :=
  { f with newRows := if f.newAt = now then row :: f.newRows else [row], newAt := now }

/-- A run of tiles of a camera pool is poisoned (03 R71). -/
def spoilRun (c a n : Nat) (s : State) : State :=
  if cruOk s = false then s
  else if mayWrite s .camera a n then judgePoison (charge 1 (bursts a n) (s.modCru (poisonRun a n)))
  else accessFault c s

/-- An error row: its tiles are poisoned and the row counted (03 R71). -/
def errorRow (c : Nat) (fr : CamFrame) (row : Nat) (s : State) : State :=
  let a := rowAddr fr row
  let n := framePitch fr
  let s := camStore c a n none (spoilRun c a n) s
  satField (modFrame c (fun f => arrive row s.now { f with errRows := f.errRows ++ [row] }) s) (P.camCountB c) 15 0 1

/-- The stored bytes of a row from those that came: bits without a meaning, and the bytes up to the pitch, are zero (03 R75,
Table 3.4). -/
def storedRow (fr : CamFrame) (bs : Bytes) : Bytes :=
  let px := (pad (fr.width * storedBytes fr.fmt) bs).mapIdx fun i b =>
    if fr.fmt = 1 ∧ i % 2 = 1 then b &&& 3 else if fr.fmt = 2 ∧ i % 4 = 3 then 0 else b
  pad (framePitch fr) px

/-- A row written with its padding (03 R70, R75). -/
def goodRow (c : Nat) (fr : CamFrame) (r : RowPacket) (s : State) : State :=
  modFrame c (fun f => arrive r.row s.now { f with okRows := f.okRows ++ [r.row] })
    (camStore c (rowAddr fr r.row) (framePitch fr) (some (storedRow fr r.bytes))
      (cruWrite .camera c 1 (rowAddr fr r.row) (storedRow fr r.bytes)) s)

/-- A packet of the frame in progress (03 R70, R71, R78). -/
def frameRow (c : Nat) (fr : CamFrame) (r : RowPacket) (bad : Bool) (s : State) : State :=
  if r.dtype = 0x12 then
    (if fr.embedded.isSome then s
     else modFrame c (fun f => { f with embedded := some (if bad then [] else r.bytes) }) s)
  else if fr.height ≤ r.row then modFrame c (fun f => { f with extra := true }) s
  else if fr.okRows.contains r.row || fr.errRows.contains r.row then s
  else if bad ∨ r.dtype ≠ dataType fr.fmt ∨ r.lenBits ≠ fr.width * wireBits fr.fmt then errorRow c fr r.row s
  else goodRow c fr r s

/-- CAM_ROW_RECEIVE (03 R55, R70, R82): Line Start and Line End are ignored; a packet that fails its checks, or comes outside a
frame, so that its Frame Start was lost, spoils CAM_LINK. -/
def camRowReceive (t : Time) (c : Nat) (r : RowPacket) (s : State) : State :=
  let s := advance t s
  if (s.cam c).gear = 0 then s
  else if r.vc ≠ camChannel c s then countStray c s
  else
    let line := decide (r.dtype = 2 ∨ r.dtype = 3)
    let bad := decide (r.ecc = 2) || !r.crcOk
    let s := if bad || (!line && decide ((s.cam c).stream = .idle)) then spoilLink c s else s
    if line then s
    else if r.dtype ∉ [0x12, 0x1E, 0x1F, 0x24] then countStray c s
    else
      let s := if r.dtype = 0x12 then s else s.modCam c fun p => { p with rowsSeen := insertNat r.row p.rowsSeen }
      match (s.cam c).frame with
      | some fr => if (s.cam c).stream = .taken then frameRow c fr r bad s else s
      | none => s

def execCamRowReceive (t : Time) (c : Fin 16) (row : RowPacket) (s : State) : Host.Outcome State Fault Refusal :=
  done (camRowReceive t c.val row s)

/-- The rows of a frame that have not come. -/
def missingRows (fr : CamFrame) : List Nat :=
  (List.range fr.height).filter fun r => !(fr.okRows.contains r || fr.errRows.contains r)

/-- The frame in progress has ended: a row that has not come by now is an error row, and its packet was lost (03 R70, R82;
log 161). -/
def endFrame (c : Nat) (fr : CamFrame) (s : State) : State :=
  let miss := missingRows fr
  let s := miss.foldl (fun s r => errorRow c fr r s) s
  modFrame c (fun f => { f with ended := true }) (if miss.isEmpty then s else spoilLink c s)

/-- A row of the frame that ends, taken in or discarded, has not come: its packet was lost (03 R82). -/
def rowsLost (p : CamPort) : Bool :=
  decide (p.stream = .taken ∨ p.stream = .discarded) && (List.range p.rowsDue).any fun r => !p.rowsSeen.contains r

/-- CAM_FRAME_END (03 R70, R72, R82): of the frame in progress, or of a discarded one; one that fails its ECC, that no Frame
Start came before, or before which a row of its frame was lost, spoils CAM_LINK. -/
def camFrameEnd (t : Time) (c vc ecc : Nat) (s : State) : State :=
  let s := advance t s
  if (s.cam c).gear = 0 then s
  else if vc ≠ camChannel c s then countStray c s
  else if ecc = 2 then spoilLink c s
  else
    let was := (s.cam c).stream
    let s := (if rowsLost (s.cam c) then spoilLink c s else s).modCam c fun p => { p with stream := .idle }
    if was = .idle then spoilLink c s
    else
      match (s.cam c).frame with
      | some fr => if was = .taken then endFrame c fr s else s
      | none => s

def execCamFrameEnd (t : Time) (c : Fin 16) (pkt : ShortPacket) (s : State) : Host.Outcome State Fault Refusal :=
  done (camFrameEnd t c.val pkt.vc pkt.ecc.val s)

/-- The frame counter of a frame by its source, none where the frame lacks it (03 R78, R79). -/
def frameCount (fr : CamFrame) : Option Nat :=
  let src := fr.fcnt
  if fld src 1 0 = 1 then (if fr.frameNo = 0 then none else some fr.frameNo)
  else
    let off := 4 * fld src 15 4
    let n := if bitAt src 2 then 4 else 2
    match fr.embedded with
    | some e => if off + n ≤ e.length then some (leAt n e off) else none
    | none => none

/-- Width of the counter in bits (03 R78). -/
def counterBits (fr : CamFrame) : Nat := if fld fr.fcnt 1 0 = 2 ∧ bitAt fr.fcnt 2 then 32 else 16

/-- What the settle edge finds (03 R79, R80): FCOUNT, and the flags ADVANCED, SKIP, FIRST. -/
structure Settled where
  fcount : Nat
  advanced : Bool
  skip : Bool
  first : Bool
  deriving DecidableEq, Repr

def judgeFrame (p : CamPort) (fr : CamFrame) : Settled :=
  let cnt := frameCount fr
  match p.prevCount with
  | none => { fcount := cnt.getD 0, advanced := false, skip := false, first := true }
  | some prev =>
    let f := cnt.getD prev.toNat
    let adv := decide (f ≠ prev.toNat)
    let step := decide (f = (prev.toNat + 1) % 2 ^ counterBits fr)
    let toOne := decide (fld fr.fcnt 1 0 = 1 ∧ f = 1)
    { fcount := f, advanced := adv, skip := adv && !step && !toOne, first := false }

/-- Flags of the header (03 Table 3.5); FROZEN is set by the declaration alone, in the header of its own frame (03 R81). -/
def settledFlags (j : Settled) (fr : CamFrame) : Nat :=
  packBits [true, j.advanced, j.skip, !fr.errRows.isEmpty, fr.extra, false, j.first]

/-- A header with its HCRC computed over it (03 R76). -/
def withHcrc (hd : Bytes) : Bytes := hd.take 0x3C ++ le 4 (crcStore (hd.take 0x3C))

/-- The port's copy of the header with the fields that the settle edge rewrites: FCOUNT, FLAGS, T_LAST, ROWS_OK, ROWS_ERR, HCRC. -/
def settledHeader (fr : CamFrame) (j : Settled) (now : Time) : Bytes :=
  withHcrc (splice (splice (splice fr.hdr 4 (le 4 j.fcount)) 0x0E (le 2 (settledFlags j fr))) 0x18
    (le 4 (now % 2 ^ 32) ++ le 2 fr.okRows.length ++ le 2 fr.errRows.length))

/-- Parts of a header, by offset and length, written in one burst where the port may. -/
def putParts (c a : Nat) (hd : Bytes) (parts : List (Nat × Nat)) (s : State) : State :=
  if cruOk s = false then s
  else if cruEnd < a + 64 || !mayWrite s .camera a 64 then accessFault c s
  else parts.foldl (fun s r => (meetEdges (a + r.1) r.2 s).modCru (storeBytes (a + r.1) (sub hd r.1 r.2))) (charge 1 1 s)

/-- Parts of a header written to its buffer (03 R76). -/
def writeHeader (c a : Nat) (hd : Bytes) (parts : List (Nat × Nat)) (s : State) : State :=
  let after := parts.foldl (fun b r => splice b r.1 (sub hd r.1 r.2)) (Memory.bytes s.cru.mem a 64)
  camStore c a 64 (some after) (putParts c a hd parts) s

/-- The parts that the settle edge rewrites, and those of the frozen declaration (03 R76, R81). -/
def settleParts : List (Nat × Nat) := [(4, 4), (0x0E, 2), (0x18, 8), (0x3C, 4)]
def frozenParts : List (Nat × Nat) := [(0x0E, 2), (0x3C, 4)]

/-- TSTAMP and HCRC as the store returns them are what the port wrote, without poison (03 R77, 04 R99). -/
def headerStands (a : Nat) (hd : Bytes) (s : State) : Bool :=
  decide (Memory.bytes s.cru.mem a 4 = hd.take 4 ∧ Memory.bytes s.cru.mem (a + 0x3C) 4 = sub hd 0x3C 4) && !tilePoisoned s a

/-- The read-back of TSTAMP and HCRC, in one burst. -/
def readHeader (c a : Nat) (s : State) : State :=
  if cruOk s = false then s
  else if cruEnd < a + 64 then accessFault c s
  else charge 1 1 (meetErrors (a + 0x3C) 4 (meetErrors a 4 s))

/-- The port as a settled frame leaves it (03 R64, R72, R79 to R81). -/
def settledPort (w : CamWindow) (fr : CamFrame) (j : Settled) (fresh : Bool) (hd : Bytes) (now : Time) (p : CamPort) : CamPort :=
  { p with
    window := some { w with settled := true }
    frame := none
    frozen := p.frozen && !j.advanced
    fresh := fresh
    lastFresh := fresh
    settled := some {
      buf := fr.buf, tick := fr.tick, gen := p.gen, fresh := fresh, at' := now, addr := fr.addr, width := fr.width,
      height := fr.height, fmt := fr.fmt, newRows := fr.newRows, newAt := fr.newAt }
    prevCount := some (w32 j.fcount)
    settledAt := ((fr.tick, now) :: p.settledAt).take 2
    missRun := 0
    lastHdr := hd
    repeats := if j.advanced then 0 else if j.first then p.repeats else p.repeats + 1 }

/-- A port whose frame settles is kept as it stands, for a link loss or the next trigger on the same edge (03 R83). -/
def keepPort (c : Nat) (fr : CamFrame) (skip : Bool) (s : State) : State :=
  let u : CamUndo := {
    port := s.cam c, header := Memory.bytes s.cru.mem fr.addr 64, skip := skip, full := fld (reg s (P.camCountB c)) 23 16 = 255 }
  { s with inst := { instant s with settles := tset none (instant s).settles c (some u) } }

/-- A frame settles (03 R72, R76 to R81, R64). -/
def settleFrame (c : Nat) (w : CamWindow) (fr : CamFrame) (readBackOk : Bool) (s : State) : State :=
  let j := judgeFrame (s.cam c) fr
  let hd := settledHeader fr j s.now
  let wasFresh := (s.cam c).fresh
  let s := readHeader c fr.addr (writeHeader c fr.addr hd settleParts (keepPort c fr j.skip (useChannel c 0 1 s)))
  let back := readBackOk && headerStands fr.addr hd s
  let fresh := j.advanced && back
  let s := if j.skip then satField s (P.camCountB c) 23 16 1 else s
  let s := if back then s else detect 4 (locBlock s dieSoc c) s
  let s := s.modCam c (settledPort w fr j fresh hd s.now)
  let s := fallIf (!fresh) [768 + c] (riseIf (fresh && !wasFresh) (768 + c) (settle 3 s))
  if (s.cam c).st = .lost then settle 2 (setCamState c .started s) else s

/-- CAM_FRAME_SETTLE (03 R72): the settle edge, or the discard of a frame with too many error rows or past its window. -/
def camFrameSettle (t : Time) (c : Nat) (readBackOk : Bool) (s : State) : State :=
  let s := advance t s
  match (s.cam c).window, (s.cam c).frame with
  | some w, some fr =>
    if !fr.ended then s
    else if decide (w.errmax < fr.errRows.length) || windowOver w s || !cruOk s then discardFrame c s
    else settleFrame c w fr readBackOk s
  | _, _ => s

def execCamFrameSettle (t : Time) (c : Fin 16) (readBackOk : Bool) (s : State) : Host.Outcome State Fault Refusal :=
  done (camFrameSettle t c.val readBackOk s)

/-- An enabled context renders from a camera (05 Table 5.1). -/
def usesCamera (ctx : Bytes) (c : Nat) : Bool := ctxEnabled ctx && (decide (u8 ctx 8 = c) || decide (u8 ctx 9 = c))

/-- CAMERA_FROZEN (03 R81; 07 R197): CAM_FREEZE repeats in a row; at the settle edge of the last of them. -/
def cameraFrozen (t : Time) (c : Nat) (s : State) : State :=
  let s := advance t s
  let p := s.cam c
  let lim := match p.window with | some w => w.freeze | none => reg s (P.camFreeze c)
  if p.frozen ∨ p.repeats < lim then s
  else
    let hd := withHcrc (splice p.lastHdr 0x0E (le 2 (u16 p.lastHdr 0x0E + 32)))
    let s := match p.settled with
      | some b => writeHeader c b.addr hd frozenParts s
      | none => s
    let s := satField (s.modCam c fun p => { p with frozen := true, lastHdr := hd }) (P.camCountA c) 23 16 1
    let s := { s with views := tmodAll {} (viewIxs s) (fun v x => {
      x with
      freezeDue := x.freezeDue || usesCamera x.ctx c
      verified := x.verified && !(usesCamera x.ctx c && (instant s).risen.contains v) }) s.views }
    detect 3 (locBlock s dieSoc c) s

def execCameraFrozen (t : Time) (c : Fin 16) (s : State) : Host.Outcome State Fault Refusal := done (cameraFrozen t c.val s)

/-! ### Host commands of the cameras -/

/-- CAM_LINK (03 R85). -/
def camLinkWord (p : CamPort) : Nat :=
  p.gear + 4 * b2n (decide (p.gear ≠ 0)) + 8 * b2n p.frozen + 16 * b2n p.lastFresh + 65536 * p.delay

/-- A header whose fields nothing states: the reserved ones are 0 (00 R6, 03 Table 3.5). -/
def openHeader (n : Nat) : Bytes := (List.range 64).map fun i =>
  if i = 0x0E then Config.freeByte (n + i) &&& 0x7F
  else if i = 0x0F ∨ (0x24 ≤ i ∧ i < 0x3C) then 0 else Config.freeByte (n + i)

/-- CAM_DIAG (14 Table 14.8); before any frame has settled the header's fields are open. -/
def camDiagBody (c : Nat) (s : State) : Answer :=
  if 15 < c then reject Status.badParam s
  else
    let p := s.cam c
    let f := s.free
    let (hd, s) := if p.lastHdr.isEmpty then (openHeader f, { s with free := f + 64 }) else (p.lastHdr, s)
    (Status.ok, be 4 (camLinkWord p) ++ [b8 (camCode p.st), 0, 0, 0] ++ hd, s)

def execCamDiag (h : Hdr) (camera : Nat) (s : State) : Host.Outcome State Fault Refusal :=
  done (serve h 0x0301 (be 1 camera) (.camDiag h camera) (camDiagBody camera) s)

/-- CAM_I2C (03 R66, R67, 14 Table 14.8): taken while the link is locked; its segment yields to the trigger, and the reply follows
at its completion. -/
def camI2cBody (h : Hdr) (c addr wlen rlen : Nat) (data : Bytes) (s : State) : Answer :=
  if 15 < c ∨ 127 < addr ∨ 64 < wlen ∨ 64 < rlen ∨ data.length ≠ wlen then reject Status.badParam s
  else if (s.cam c).gear = 0 then reject Status.wrongState s
  else
    (Status.held, [], (readySegment c s).modHost fun x => {
      x with held := some { h := h, opcode := 0x0302, arg := rlen, camera := c } })

def execCamI2c (h : Hdr) (camera addr wlen rlen : Nat) (data : Bytes) (s : State) : Host.Outcome State Fault Refusal :=
  done (serve h 0x0302 (be 1 camera ++ be 1 addr ++ be 1 wlen ++ be 1 rlen ++ data) (.camI2c h camera addr wlen rlen data)
    (camI2cBody h camera addr wlen rlen data) s)

/-- I2C_TUNNEL_COMPLETION (14 Table 14.8): the bytes read, or CHECK_FAIL with the byte index; not before the segment has begun
(03 R66). -/
def i2cCompletion (t : Time) (ok : Bool) (index : Byte) (data : Bytes) (s : State) : State :=
  let s := advance t s
  match s.host.held with
  | some x =>
    if x.opcode = 0x0302 ∧ segmentWaits x.camera s = false then
      let s := s.modCam x.camera fun p => { p with segment := none }
      if ok then releaseHeld 0x0302 Status.ok (pad x.arg data) s else releaseHeld 0x0302 Status.checkFail [index] s
    else s
  | none => s

def execI2cTunnelCompletion (t : Time) (ok : Bool) (index : Byte) (data : Bytes) (s : State) :
    Host.Outcome State Fault Refusal := done (i2cCompletion t ok index data s)

end Sys2Proof.Machine
end

