-- ==== Sys2Proof/Machine/Views.lean ====
section
/-! DEFINITION. View contexts, meshes, overlay lists and selection tables as objects (chapter 05, 06 R154 and R169, 08 R216
to R219): their fields, their checks, and the commands that load, read and delete them. -/

namespace Sys2Proof.Machine

/-! ### Fields of a context record (05 Table 5.1) -/

def cxMirage (c : Bytes) : Bool := bitAt (u8 c 0) 1
def cxEnvelope (c : Bytes) : Bool := bitAt (u8 c 0) 2
def cxMirrorH (c : Bytes) : Bool := bitAt (u8 c 0) 3
def cxMirrorV (c : Bytes) : Bool := bitAt (u8 c 0) 4
def cxBicubic (c : Bytes) : Bool := bitAt (u8 c 0) 5
def cxPrio (c : Bytes) : Nat := u8 c 1
def cxDeadline (c : Bytes) : Nat := u8 c 2
def cxCommit (c : Bytes) : Nat := u8 c 3
def cxWidth (c : Bytes) : Nat := u16 c 4
def cxHeight (c : Bytes) : Nat := u16 c 6
def cxSrcA (c : Bytes) : Nat := u8 c 8
def cxSrcB (c : Bytes) : Nat := u8 c 9
def cxTwo (c : Bytes) : Bool := decide (u8 c 9 ≠ 0xFF)
def cxMesh (c : Bytes) : Nat := u16 c 0x0A
def cxOvl (c : Bytes) : Nat := u16 c 0x0C
def cxColour (c : Bytes) : Nat := fld (u8 c 0x0E) 1 0
def cxBufBase (c : Bytes) : Nat := u32 c 0x14
def cxEnvCtx (c : Bytes) : Nat := u16 c 0x18
def cxAngleSrc (c : Bytes) : Nat := u8 c 0x1A
def cxAngleTol (c : Bytes) : Nat := u8 c 0x1B
def cxPanGain (c : Bytes) : Int := signed 16 (u16 c 0x1C)
def cxPanMin (c : Bytes) : Int := signed 16 (u16 c 0x1E)
def cxPanMax (c : Bytes) : Int := signed 16 (u16 c 0x20)
def cxDens (c : Bytes) : Nat := u8 c 0x24
def cxTol (c : Bytes) : Nat := u8 c 0x25
def cxFail (c : Bytes) : Nat := u16 c 0x26

/-- Units of 256 bytes of one view buffer (05 R122), and the first unit of buffer `b`. -/
def cxBufUnits (c : Bytes) : Nat := cxWidth c * cxHeight c * 4 / 256
def cxBufAddr (c : Bytes) (b : Nat) : Nat := cxBufBase c + b * cxBufUnits c

/-- The cameras a context reads. -/
def cxCameras (c : Bytes) : List Nat := if cxTwo c then [cxSrcA c, cxSrcB c] else [cxSrcA c]

/-- The track that ANGLE_SRC selects (06 Table 6.1); none outside the table. -/
def trackOf (src : Nat) : Option Nat :=
  let ty := fld src 1 0
  let n := fld src 7 2
  if ty = 0 then (if n < 4 then some n else none)
  else if ty = 1 then (if n < 2 then some (4 + n) else none)
  else if ty = 2 then (if n < 16 then some (6 + n) else none)
  else none

/-! ### Objects of the views -/

def mesh (s : State) (i : Nat) : Bytes := obj s kMesh i
def ovlList (s : State) (i : Nat) : Bytes := obj s kOverlay i

/-- The selection tables that count as in force (05 R149), and the latest accepted one of a pipe; an empty string stands
for a pipe without one. -/
def selTables (s : State) : List Bytes :=
  s.pipes.flatMap fun (_, p) => (if p.sel.isEmpty then [] else [p.sel]) ++ p.selNext.toList
def latestSel (s : State) (p : Nat) : Bytes := (s.pipe p).selNext.getD (s.pipe p).sel
def latestLayout (s : State) (p : Nat) : Bytes := (s.pipe p).layoutNext.getD (s.pipe p).layout

/-- LAYER l of entry e of a selection table (05 Table 5.9); 0 in an entry it has not. -/
def selLayer (t : Bytes) (e l : Nat) : Nat := u16 t (0x20 + 32 * e + 2 * l)
def selRules (t : Bytes) : Nat := u8 t 1
def selMask (t : Bytes) (e : Nat) : Nat := leAt 8 t (0x10 + 32 * e)
def selValue (t : Bytes) (e : Nat) : Nat := leAt 8 t (0x18 + 32 * e)

/-- All layers of all entries of a table. -/
def selCodes (t : Bytes) : List Nat :=
  if t.isEmpty then [] else (List.range (selRules t + 1)).flatMap fun e => (List.range 8).map (selLayer t e)

/-- A layer code names view v, or static image m. -/
def codeView (k : Nat) : Option Nat := if k / 4096 = 1 then some (k % 4096) else none
def codeImage (k : Nat) : Option Nat := if k / 4096 = 2 then some (k % 4096) else none

/-- A selection table in force names a view, or a static image. -/
def selNamesView (s : State) (v : Nat) : Bool := (selTables s).any fun t => (selCodes t).contains (0x1000 + v)
def selNamesImage (s : State) (m : Nat) : Bool := (selTables s).any fun t => (selCodes t).contains (0x2000 + m)

/-- An enabled Mirage context, by its latest accepted record, names a context as its envelope (05 R526). -/
def envNamed (s : State) (v : Nat) : Bool :=
  (viewIxs s).any fun n => let c := latestCtx s n; ctxEnabled c && cxMirage c && decide (cxEnvCtx c = v)

/-! ### Layout checks (08 R217, R219) -/

/-- X and Y of a layer of an entry (08 Table 8.4). -/
def layX (t : Bytes) (e l : Nat) : Nat := u16 t (0x10 + 32 * e + 4 * l)
def layY (t : Bytes) (e l : Nat) : Nat := u16 t (0x12 + 32 * e + 4 * l)

/-- Width and height of a layer by its code, with one view's record replaced by `c`. -/
def layerSize (s : State) (v : Nat) (c : Bytes) (k : Nat) : Nat × Nat :=
  match codeView k, codeImage k with
  | some n, _ => let r := if n = v then c else latestCtx s n; (cxWidth r, cxHeight r)
  | _, some m => let i := obj s kLayer m; (u16 i 2, u16 i 4)
  | _, _ => (0, 0)

/-- Every view layer of a table lies within the active area under a layout (08 R217). -/
def placesOk (s : State) (p : Nat) (sel lay : Bytes) (v : Nat) (c : Bytes) : Bool :=
  if sel.isEmpty then true
  else
    (List.range (selRules sel + 1)).all fun e => (List.range 8).all fun l =>
      let k := selLayer sel e l
      if (codeView k).isSome then
        let (w, h) := layerSize s v c k
        decide (layX lay e l + w ≤ reg s (P.soHact p) ∧ layY lay e l + h ≤ reg s (P.soVact p))
      else true

/-- The layer pixels of an entry within the active area (08 R219). -/
def fetchPixels (s : State) (p : Nat) (sel lay : Bytes) (e : Nat) : Nat :=
  (List.range 8).foldl (fun a l =>
    let (w, h) := layerSize s 256 [] (selLayer sel e l)
    let x := layX lay e l
    let y := layY lay e l
    a + (min (x + w) (reg s (P.soHact p)) - min x (reg s (P.soHact p))) * (min (y + h) (reg s (P.soVact p)) - min y (reg s (P.soVact p)))) 0

def fetchOk (s : State) (p : Nat) (sel lay : Bytes) : Bool :=
  sel.isEmpty ||
  (List.range (selRules sel + 1)).all fun e => decide (fetchPixels s p sel lay e ≤ 2 * reg s (P.soHact p) * reg s (P.soVact p))

/-- A context record keeps every layer of every pipe in its place (08 R217). -/
def layoutsOk (s : State) (v : Nat) (c : Bytes) : Bool :=
  (List.range 8).all fun p => placesOk s p (latestSel s p) (latestLayout s p) v c

/-! ### Checks of a context (05 R114 to R118, R154, R169) -/

/-- Reserved fields (00 R6). -/
def cxReserved (c : Bytes) : Bool :=
  decide (fld (u8 c 0) 7 6 = 0 ∧ fld (u8 c 1) 7 3 = 0 ∧ fld (u8 c 0x0E) 7 2 = 0 ∧ u8 c 0x0F = 0 ∧ u8 c 0x13 = 0 ∧ u16 c 0x22 = 0) &&
    allZero (sub c 0x30 76)

/-- Field ranges of an enabled context. -/
def cxRanges (c : Bytes) : Bool :=
  decide (50 ≤ cxDeadline c ∧ cxDeadline c ≤ 98) &&
  (!cxMirage c || decide (10 ≤ cxCommit c ∧ cxCommit c ≤ 97 ∧ cxCommit c < cxDeadline c)) &&
  decide (64 ≤ cxWidth c ∧ cxWidth c ≤ 2560 ∧ cxWidth c % 64 = 0 ∧ 16 ≤ cxHeight c ∧ cxHeight c ≤ 1600) &&
  decide (cxSrcA c ≤ 15 ∧ (cxSrcB c ≤ 15 ∨ cxSrcB c = 0xFF) ∧ cxMesh c ≤ 511 ∧ (cxOvl c ≤ 255 ∨ cxOvl c = 0xFFFF)) &&
  decide (4 ≤ cxDens c ∧ cxDens c ≤ 10 ∧ cxTol c ≤ 15 ∧ cxFail c ≤ 10000)

/-- The Mirage fields (05 R115, 06 R154, R169). -/
def cxMirageOk (s : State) (v : Nat) (c : Bytes) : Bool :=
  if cxMirage c then
    let e := latestCtx s (cxEnvCtx c)
    !cxEnvelope c && !cxTwo c && decide (cxEnvCtx c ≤ 255 ∧ cxEnvCtx c ≠ v) &&
    ctxEnabled e && cxEnvelope e && !cxMirage e &&
    decide (cxWidth e = cxWidth c ∧ cxHeight e = cxHeight c ∧ cxSrcA e = cxSrcA c ∧ cxDeadline e ≤ cxDeadline c) &&
    (trackOf (cxAngleSrc c)).isSome && decide (cxPanGain c ≠ 0 ∧ cxPanMin c ≤ cxPanMax c ∧ 1 ≤ cxAngleTol c)
  else decide (cxEnvCtx c = 0xFFFF ∧ cxAngleSrc c = 0 ∧ cxAngleTol c = 0 ∧ cxPanGain c = 0 ∧ cxPanMin c = 0 ∧ cxPanMax c = 0)

/-- No Mirage context that names the context would have an envelope that ends later than itself (06 R169). -/
def cxEnvelopeOk (s : State) (v : Nat) (c : Bytes) : Bool :=
  (viewIxs s).all fun n =>
    let m := latestCtx s n
    !(ctxEnabled m && cxMirage m && decide (cxEnvCtx m = v) && decide (n ≠ v)) || decide (cxDeadline c ≤ cxDeadline m)

/-- The buffers lie in one view buffer pool of the latest accepted pool table, and overlap no other enabled context's
(05 R115, R526). -/
def cxBuffersOk (s : State) (v : Nat) (c : Bytes) : Bool :=
  let n := 4 * cxBufUnits c
  let tbl := s.cru.poolNext.getD s.cru.pool
  ((poolList tbl).any fun (t, _, b, sz) => decide (t = 4 ∧ b ≤ cxBufBase c ∧ cxBufBase c + n ≤ b + sz)) &&
  (viewIxs s).all fun k => decide (k = v) || [(s.view k).ctx, latestCtx s k].all fun r =>
    !ctxEnabled r || !overlap (cxBufBase c) n (cxBufBase r) (4 * cxBufUnits r)

/-- Step 2 of 05 R114. -/
def cxFieldsOk (s : State) (v : Nat) (c : Bytes) : Bool :=
  cxReserved c &&
  (!ctxEnabled c ||
    (cxRanges c && decide (cxSrcA c ≠ cxSrcB c) &&
     (let m := mesh s (cxMesh c)
      !m.isEmpty && decide (u16 m 4 = cxWidth c ∧ u16 m 6 = cxHeight c ∧ u8 m 2 = if cxTwo c then 2 else 1)) &&
     (decide (cxOvl c = 0xFFFF) || !(ovlList s (cxOvl c)).isEmpty) &&
     cxBuffersOk s v c && cxMirageOk s v c && cxEnvelopeOk s v c && layoutsOk s v c))

/-- The fields that stay while a context is enabled (05 R117): of CTRL, bits MIRAGE and ENVELOPE. -/
def cxFixed (c : Bytes) : List Nat :=
  [fld (u8 c 0) 2 1, cxWidth c, cxHeight c, cxSrcA c, cxSrcB c, cxBufBase c, cxEnvCtx c]

/-- Step 3 of 05 R114. -/
def cxStateOk (s : State) (v : Nat) (c : Bytes) : Bool :=
  (!viewOn s v || decide (cxFixed c = cxFixed (latestCtx s v))) &&
  (ctxEnabled c || (!selNamesView s v && !envNamed s v))

/-- A record staged: it replaces one that waits, but for a tick edge on which it is accepted itself (05 R116). -/
def stageCtx (now : Time) (rec : Bytes) (v : ViewSt) : ViewSt :=
  { v with staged := some rec, stagedAt := now, stagedWas := if v.stagedAt = now then v.stagedWas else v.staged }

/-- VIEW_WRITE (05 R114 to R118, 11 R301). -/
def viewWriteBody (ix rsvd : Nat) (rec : Bytes) (s : State) : Answer :=
  if 255 < ix ∨ rsvd ≠ 0 ∨ rec.length ≠ 128 then reject Status.badParam s
  else if !crcTrailerOk rec 0x7C then reject Status.checkFail s
  else if !cxFieldsOk s ix rec then reject Status.badParam s
  else if !cxStateOk s ix rec then reject Status.wrongState s
  else (Status.ok, [], recheck (storeObj kContext ix rec (s.modView ix (stageCtx s.now rec))))

def execViewWrite (h : Hdr) (index rsvd : Nat) (rec : Bytes) (s : State) : Host.Outcome State Fault Refusal :=
  done (serve h 0x0201 (be 2 index ++ be 2 rsvd ++ rec) (.viewWrite h index rsvd rec) (viewWriteBody index rsvd rec) s)

/-- VIEW_READ (05 R119, 14 Table 14.7). -/
def viewReadBody (ix bank : Nat) (s : State) : Answer :=
  if 255 < ix ∨ 1 < bank then reject Status.badParam s
  else if bank = 0 then (Status.ok, pad 128 (s.view ix).ctx, s)
  else match (s.view ix).staged with
    | some c => (Status.ok, c, s)
    | none => reject Status.notPresent s

def execViewRead (h : Hdr) (index bank : Nat) (s : State) : Host.Outcome State Fault Refusal :=
  done (serve h 0x0202 (be 2 index ++ be 1 bank) (.viewRead h index bank) (viewReadBody index bank) s)

/-- The view status word (05 R151). -/
def viewWord (v : ViewSt) : Nat :=
  packBits [ctxEnabled v.ctx, v.shownSel, v.staleLast, v.invalid || v.witInvalid] + 16 * min v.stale 15 + 256 * min v.recover 7 +
    2048 * b2n v.suspectLast + 4096 * b2n v.lastVer.isSome + 65536 * v.doneMilli

/-- VIEW_STATUS (05 R151). -/
def viewStatusBody (first count : Nat) (s : State) : Answer :=
  if count = 0 ∨ 256 < first + count then reject Status.badParam s
  else (Status.ok, be 2 count ++ (List.range count).flatMap fun i => be 4 (viewWord (s.view (first + i))), s)

def execViewStatus (h : Hdr) (first count : Nat) (s : State) : Host.Outcome State Fault Refusal :=
  done (serve h 0x0203 (be 2 first ++ be 2 count) (.viewStatus h first count) (viewStatusBody first count) s)

/-! ### Meshes (05 R123 to R125, R141) -/

def roundUp (n k : Nat) : Nat := (n + k - 1) / k * k

def meshCellW (m : Bytes) : Nat := 2 ^ fld (u8 m 3) 3 0
def meshCellH (m : Bytes) : Nat := 2 ^ fld (u8 m 3) 7 4
def meshCols (m : Bytes) : Nat := u16 m 8
def meshRows (m : Bytes) : Nat := u16 m 0x0A

/-- Byte offset of the arrays, by plane. -/
def meshOff (m : Bytes) (b : Bool) : Nat := if b then u32 m 0x18 else u32 m 0x14
def meshSrcW (m : Bytes) (b : Bool) : Nat := if b then u16 m 0x10 else u16 m 0x0C
def meshSrcH (m : Bytes) (b : Bool) : Nat := if b then u16 m 0x12 else u16 m 0x0E

/-- U and V of a vertex of a plane in 1/8 pixel (05 R124). -/
def meshU (m : Bytes) (b : Bool) (c r : Nat) : Int := signed 16 (u16 m (meshOff m b + 4 * (r * meshCols m + c)))
def meshV (m : Bytes) (b : Bool) (c r : Nat) : Int := signed 16 (u16 m (meshOff m b + 4 * (r * meshCols m + c) + 2))

/-- The fields of 05 Table 5.3 and the arrays. -/
def meshFieldsOk (m : Bytes) : Bool :=
  let two := decide (u8 m 2 = 2)
  let n := meshCols m * meshRows m
  let pl := roundUp (4 * n) 256
  let wt := roundUp n 256
  let offB := if two then 0x100 + pl else 0
  let offW := if two then 0x100 + 2 * pl else 0
  let size := if two then 0x100 + 2 * pl + wt else 0x100 + pl
  let lw := fld (u8 m 3) 3 0
  let lh := fld (u8 m 3) 7 4
  decide (u16 m 0 = 1 ∧ (u8 m 2 = 1 ∨ u8 m 2 = 2) ∧ 4 ≤ lw ∧ lw ≤ 6 ∧ 4 ≤ lh ∧ lh ≤ 6) &&
  decide (64 ≤ u16 m 4 ∧ u16 m 4 ≤ 2560 ∧ u16 m 4 % 64 = 0 ∧ 16 ≤ u16 m 6 ∧ u16 m 6 ≤ 1600) &&
  decide (meshCols m = (u16 m 4 + 2 ^ lw - 1) / 2 ^ lw + 1 ∧ meshRows m = (u16 m 6 + 2 ^ lh - 1) / 2 ^ lh + 1) &&
  (two || decide (u16 m 0x10 = 0 ∧ u16 m 0x12 = 0)) &&
  decide (u32 m 0x14 = 0x100 ∧ u32 m 0x18 = offB ∧ u32 m 0x1C = offW ∧ u32 m 0x20 = size ∧ m.length = size) &&
  allZero (sub m 0x24 216) && allZero (sub m (0x100 + 4 * n) (pl - 4 * n)) &&
  (!two || (allZero (sub m (offB + 4 * n) (pl - 4 * n)) && allZero (sub m (offW + n) (wt - n)) &&
    (sub m offW n).all fun w => decide (w.toNat ≤ 128)))

/-- Bytes of the MRAM view store that meshes and overlay lists hold (05 R125). -/
def viewStoreUsed (s : State) : Nat :=
  storeUsed [kMesh, kOverlay] s

/-- A context that is enabled by either of its records names an object at a field. -/
def ctxNames (s : State) (f : Bytes → Nat) (i : Nat) : Bool :=
  (viewIxs s).any fun v => [(s.view v).ctx, latestCtx s v].any fun c => ctxEnabled c && decide (f c = i)

/-- An object of the view store takes its place, or DENIED (05 R125, 04 R91). -/
def keepViewObject (kind ix : Nat) (bs : Bytes) (s : State) : Answer :=
  if 16777216 < viewStoreUsed s - storedLength kind ix s + bs.length then reject Status.denied s
  else match placeObject kind ix (storeObj kind ix bs s) with
    | some s' => (Status.ok, [], s')
    | none => reject Status.denied s

/-- MESH_LOAD (05 R125). -/
def meshLoadObj (ix : Nat) (m : Bytes) (s : State) : Answer :=
  if 511 < ix ∨ m.length < 256 then reject Status.badParam s
  else if !crcEmbeddedOk m 0xFC then reject Status.checkFail s
  else if !meshFieldsOk m then reject Status.badParam s
  else if ctxNames s cxMesh ix then reject Status.wrongState s
  else keepViewObject kMesh ix m s

def execMeshLoad (h : Hdr) (part : BulkPart) (s : State) : Host.Outcome State Fault Refusal :=
  done (serve h 0x0204 (bulkBytes part) (.meshLoad h part) (bulk 0x0204 part meshLoadObj) s)

/-- A stored object of a kind is deleted, with its run (14 Table 14.7). -/
def deleteObject (kind limit ix : Nat) (inUse : Bool) (s : State) : Answer :=
  if limit < ix then reject Status.badParam s
  else if (obj s kind ix).isEmpty then reject Status.notPresent s
  else if inUse then reject Status.wrongState s
  else (Status.ok, [], dropRun kind ix (storeObj kind ix [] s))

def meshDeleteBody (ix : Nat) (s : State) : Answer := deleteObject kMesh 511 ix (ctxNames s cxMesh ix) s

def execMeshDelete (h : Hdr) (index : Nat) (s : State) : Host.Outcome State Fault Refusal :=
  done (serve h 0x0205 (be 2 index) (.meshDelete h index) (meshDeleteBody index) s)

/-- The first source row that tile row `t` of a plane may read: one above the smallest V of its cells, for the bicubic taps. -/
def meshFirst (m : Bytes) (b : Bool) (t : Nat) : Nat :=
  let r := 16 * t / meshCellH m
  let vs := (List.range (meshCols m)).flatMap fun c => [meshV m b c r, meshV m b c (r + 1)]
  (vs.foldl min 32767 / 8 - 1).toNat

/-- NEED(t) of a plane (05 R141): the last source row of tile row `t`, or −1 where its cells read none. -/
def meshNeed (m : Bytes) (b : Bool) (t : Nat) : Int :=
  let r := 16 * t / meshCellH m
  let vs := (List.range (meshCols m)).flatMap fun c => [meshV m b c r, meshV m b c (r + 1)]
  let h : Int := meshSrcH m b
  if vs.all (fun v => decide (v < 0)) || vs.all (fun v => decide (8 * (h - 1) < v)) then -1
  else min (vs.foldl max (-32768) / 8 + 2) (h - 1)

/-! ### Overlay lists (05 R135, R136) -/

def ovlCount (l : Bytes) : Nat := u16 l 0
def ovlData (l : Bytes) : Nat := roundUp (16 + 32 * ovlCount l) 256

/-- Signed coordinates of primitive `i`. -/
def ovlCoord (l : Bytes) (i off : Nat) : Int := signed 16 (u16 l (16 + 32 * i + off))

/-- One primitive is well formed (05 Table 5.8, R136); every row of its data takes a whole PITCH, the last one too (log 194). -/
def ovlPrimOk (l : Bytes) (i : Nat) : Bool :=
  let o := 16 + 32 * i
  let op := u8 l o
  let cond := u8 l (o + 1)
  let x0 := ovlCoord l i 4
  let y0 := ovlCoord l i 6
  let x1 := ovlCoord l i 8
  let y1 := ovlCoord l i 0x0A
  let w := (x1 - x0 + 1).toNat
  let hh := (y1 - y0 + 1).toNat
  let thick := u8 l (o + 0x0C)
  let pitch := u16 l (o + 0x18)
  let rowBytes := if op = 4 then (w + 7) / 8 else 4 * w
  decide (1 ≤ op ∧ op ≤ 5 ∧ cond < 4 ∧ (if cond % 2 = 1 then u16 l (o + 2) ≤ 511 else u16 l (o + 2) = 0)) &&
  (decide (op = 3) || decide (x0 ≤ x1 ∧ y0 ≤ y1)) &&
  decide (if op = 2 ∨ op = 3 then 1 ≤ thick ∧ thick ≤ 16 else thick = 0) &&
  allZero (sub l (o + 0x0D) 3) && allZero (sub l (o + 0x1A) 6) && (decide (op ≠ 5) || decide (u32 l (o + 0x10) = 0)) &&
  (if op = 4 ∨ op = 5 then
    decide (pitch % 256 = 0 ∧ rowBytes ≤ pitch ∧ ovlData l + 256 * u32 l (o + 0x14) + hh * pitch ≤ u32 l 4)
   else decide (u32 l (o + 0x14) = 0 ∧ pitch = 0))

def ovlFieldsOk (l : Bytes) : Bool :=
  let n := ovlCount l
  decide (n ≤ 1024 ∧ u16 l 2 = 0 ∧ u32 l 8 = 0 ∧ u32 l 4 = l.length ∧ l.length % 256 = 0 ∧ l.length ≤ 262144 ∧ ovlData l ≤ l.length) &&
  allZero (sub l (16 + 32 * n) (ovlData l - (16 + 32 * n))) && (List.range n).all (ovlPrimOk l)

/-- OVL_LOAD (05 R136). -/
def ovlLoadObj (ix : Nat) (l : Bytes) (s : State) : Answer :=
  if 255 < ix ∨ l.length < 16 then reject Status.badParam s
  else if !crcEmbeddedOk l 0x0C then reject Status.checkFail s
  else if !ovlFieldsOk l then reject Status.badParam s
  else if ctxNames s cxOvl ix then reject Status.wrongState s
  else keepViewObject kOverlay ix l s

def execOvlLoad (h : Hdr) (part : BulkPart) (s : State) : Host.Outcome State Fault Refusal :=
  done (serve h 0x0206 (bulkBytes part) (.ovlLoad h part) (bulk 0x0206 part ovlLoadObj) s)

def ovlDeleteBody (ix : Nat) (s : State) : Answer := deleteObject kOverlay 255 ix (ctxNames s cxOvl ix) s

def execOvlDelete (h : Hdr) (index : Nat) (s : State) : Host.Outcome State Fault Refusal :=
  done (serve h 0x0207 (be 2 index) (.ovlDelete h index) (ovlDeleteBody index) s)

/-! ### Selection tables (05 R146 to R149) -/

/-- A layer code is empty, or names an enabled context or a loaded image. -/
def layerCodeOk (s : State) (k : Nat) : Bool :=
  match codeView k, codeImage k with
  | some v, _ => decide (v ≤ 255) && ctxEnabled (latestCtx s v)
  | _, some m => decide (m ≤ 255) && !(obj s kLayer m).isEmpty
  | _, _ => decide (k = 0)

/-- No entry names one view on two layers. -/
def viewsOnce (t : Bytes) (e : Nat) : Bool :=
  (List.range 8).all fun l => (List.range l).all fun l' =>
    (codeView (selLayer t e l)).isNone || decide (selLayer t e l ≠ selLayer t e l')

def selFieldsOk (s : State) (t : Bytes) : Bool :=
  decide (u8 t 0 ≤ 7 ∧ selRules t ≤ 15 ∧ t.length = 16 + 32 * (selRules t + 1) ∧ u16 t 2 = 0) && allZero (sub t 8 8) &&
  decide (selMask t 0 = 0 ∧ selValue t 0 = 0) &&
  (List.range (selRules t + 1)).all fun e =>
    decide (selValue t e &&& selMask t e = selValue t e) && viewsOnce t e && (List.range 8).all fun l => layerCodeOk s (selLayer t e l)

/-- SEL_LOAD (05 R149, 08 R217, R219, 11 R301). -/
def selLoadBody (t : Bytes) (s : State) : Answer :=
  if t.length < 48 then reject Status.badParam s
  else if !crcEmbeddedOk t 4 then reject Status.checkFail s
  else
    let p := u8 t 0
    if !selFieldsOk s t || !placesOk s p t (latestLayout s p) 256 [] || !fetchOk s p t (latestLayout s p) then
      reject Status.badParam s
    else (Status.ok, [], recheck (storeObj kSelect p t ((noteLoad (4 * p) (s.pipe p).selNext s).modPipe p fun x => { x with selNext := some t })))

def execSelLoad (h : Hdr) (tbl : Bytes) (s : State) : Host.Outcome State Fault Refusal :=
  done (serve h 0x0208 tbl (.selLoad h tbl) (selLoadBody tbl) s)

/-! ### Records of the predictor and of the lanes -/

/-- Address of a commit record (06 R170) and of a witness report slot (07 R202). -/
def commitAddr (v slot : Nat) : Nat := 0x6C180000 + 1024 * v + 512 * slot
def reportAddr (v slot lane : Nat) : Nat := 0x6C1C0000 + 8192 * v + 4096 * slot + 1024 * lane

/-- A record read out to the host by the service processor; a poisoned one is not (DEDUCED from 04 Table 4.4, log 33). -/
def readRecord (a n : Nat) (s : State) : Answer :=
  let s := touch 0x60 6 a n s
  let (bs, bad) := cruRead s a n
  if bad then reject Status.checkFail s else (Status.ok, bs, s)

def commitReadBody (v slot : Nat) (s : State) : Answer :=
  if 255 < v ∨ 1 < slot then reject Status.badParam s else readRecord (commitAddr v slot) 512 s

def execCommitRead (h : Hdr) (view slot : Nat) (s : State) : Host.Outcome State Fault Refusal :=
  done (serve h 0x0209 (be 2 view ++ be 1 slot) (.commitRead h view slot) (commitReadBody view slot) s)

def witnessReadBody (v slot lane : Nat) (s : State) : Answer :=
  if 255 < v ∨ 1 < slot ∨ 2 < lane then reject Status.badParam s else readRecord (reportAddr v slot lane) 1024 s

def execWitnessRead (h : Hdr) (view slot lane : Nat) (s : State) : Host.Outcome State Fault Refusal :=
  done (serve h 0x020A (be 2 view ++ be 1 slot ++ be 1 lane) (.witnessRead h view slot lane) (witnessReadBody view slot lane) s)

/-- Every context of a list, by index, staged or not, that is enabled in force. -/
def enabledViews (s : State) : List Nat := (viewIxs s).filter fun v => ctxEnabled (s.view v).ctx

end Sys2Proof.Machine
end

