-- ==== Sys2Proof/Machine/Pixels.lean ====
section
/-! DEFINITION. What one pixel of a view becomes (05 R126 to R139): interpolation of the mesh, source reconstruction,
filter, colour, blend and overlays, for the engines and for the lanes alike. -/

namespace Sys2Proof.Machine

/-- A colour. -/
structure Px where
  r : Nat
  g : Nat
  b : Nat
  deriving DecidableEq, Repr

/-- A source frame in the Crucible: address of its buffer, format, pitch, width and height. -/
structure Source where
  base : Nat
  fmt : Nat
  pitch : Nat
  w : Nat
  h : Nat
  deriving DecidableEq, Repr

/-- A source frame of a size and a format at an address (03 R74). -/
def sourceAt (addr w h fmt : Nat) : Source :=
  { base := addr, fmt := fmt, pitch := (w * storedBytes fmt + 255) / 256 * 256, w := w, h := h }

/-! ### Source pixels (03 Table 3.4, 05 R130) -/

/-- A byte and a 16-bit word of the Crucible as numbers. -/
def memByte (s : State) (a : Nat) : Nat := (Memory.read s.cru.mem a).toNat
def memWord (s : State) (a : Nat) : Nat := memByte s a + 256 * memByte s (a + 1)

/-- Chroma U and V of pixel pair `n` of a row. -/
def pairChroma (s : State) (fmt row n : Nat) : Nat × Nat :=
  if fmt = 0 then (memByte s (row + 4 * n + 1), memByte s (row + 4 * n + 3))
  else (memWord s (row + 8 * n + 2) % 1024, memWord s (row + 8 * n + 6) % 1024)

/-- Luma of pixel `x` of a row. -/
def lumaAt (s : State) (fmt row x : Nat) : Nat :=
  if fmt = 0 then memByte s (row + 2 * x) else memWord s (row + 4 * x) % 1024

/-- The three channels of a source pixel with full chroma, and whether a word of it was poisoned. -/
def sourcePixel (s : State) (f : Source) (x y : Nat) : (Nat × Nat × Nat) × Bool :=
  let row := f.base + 256 + y * f.pitch
  if f.fmt = 2 then
    ((memByte s (row + 4 * x), memByte s (row + 4 * x + 1), memByte s (row + 4 * x + 2)), tilePoisoned s (row + 4 * x))
  else
    let n := x / 2
    let n' := min (n + 1) ((f.w - 1) / 2)
    let (u, v) := pairChroma s f.fmt row n
    let sz := if f.fmt = 0 then 4 else 8
    let bad := tilePoisoned s (row + sz * n)
    if x % 2 = 0 then ((lumaAt s f.fmt row x, u, v), bad)
    else
      let (u', v') := pairChroma s f.fmt row n'
      ((lumaAt s f.fmt row x, (u + u' + 1) / 2, (v + v' + 1) / 2), bad || tilePoisoned s (row + sz * n'))

/-! ### The filter (05 R131) -/

/-- The weight of a Catmull-Rom tap (−1, 1, 2 as 0, 2, 3) at a fraction in 1/256, quantised to 1/256. -/
def cubicWeight (f : Int) (k : Nat) : Int :=
  let n : Int :=
    if k = 0 then -(f * f * f) + 512 * f * f - 65536 * f
    else if k = 2 then -(3 * f * f * f) + 1024 * f * f + 65536 * f
    else f * f * f - 256 * f * f
  n / 131072 + (if n % 131072 = 0 then 0 else b2n (Config.cubicUp f.toNat k))

/-- The taps of an axis at a position in 1/256 pixel: coordinates, before clamping, and weights. -/
def taps (cubic : Bool) (pos : Int) : List (Int × Int) :=
  let i := pos / 256
  let f := pos % 256
  if cubic then
    let a := cubicWeight f 0
    let c := cubicWeight f 2
    let d := cubicWeight f 3
    [(i - 1, a), (i, 256 - a - c - d), (i + 1, c), (i + 2, d)]
  else [(i, 256 - f), (i + 1, f)]

/-- Sum of the taps over the three channels, and poison. -/
def tapSum (s : State) (f : Source) (xs ys : List (Int × Int)) : (Int × Int × Int) × Bool :=
  ys.foldl (fun acc yw => xs.foldl (fun (acc : (Int × Int × Int) × Bool) xw =>
    let ((a, b, c), bad) := sourcePixel s f (clampI 0 (f.w - 1) xw.1).toNat (clampI 0 (f.h - 1) yw.1).toNat
    let w := xw.2 * yw.2
    ((acc.1.1 + w * a, acc.1.2.1 + w * b, acc.1.2.2 + w * c), acc.2 || bad)) acc) ((0, 0, 0), false)

/-- A filtered channel rounded and clamped to the code range. -/
def rounded (fmt : Nat) (z : Int) : Int := clampI 0 (if fmt = 1 then 1023 else 255) ((z + 32768) / 65536)

/-! ### Colour (05 R132) -/

/-- KY, KRV, KGU, KGV, KBU (05 Table 5.6). -/
def colourMatrix (m : Nat) : Int × Int × Int × Int × Int :=
  if m = 0 then (1192, 1634, 401, 832, 2066) else if m = 1 then (1192, 1836, 218, 546, 2163)
  else if m = 2 then (1024, 1436, 352, 731, 1815) else (1024, 1613, 192, 479, 1900)

/-- A filtered source sample as 8-bit RGB. -/
def toRgb (fmt m : Nat) (a b c : Int) : Px :=
  if fmt = 2 then { r := a.toNat, g := b.toNat, b := c.toNat }
  else
    let (ky, krv, kgu, kgv, kbu) := colourMatrix m
    let ten := decide (fmt = 1)
    let y := a - (if m < 2 then (if ten then 64 else 16) else 0)
    let cb := b - (if ten then 512 else 128)
    let cr := c - (if ten then 512 else 128)
    let out (z : Int) : Nat := (clampI 0 255 (if ten then (z + 2048) / 4096 else (z + 512) / 1024)).toNat
    { r := out (ky * y + krv * cr), g := out (ky * y - kgu * cb - kgv * cr), b := out (ky * y + kbu * cb) }

/-- A sample of a source at a position in 1/256 pixel, none outside it (05 R133), and poison. -/
def sampleAt (s : State) (cubic : Bool) (m : Nat) (f : Source) (px py : Int) : Option Px × Bool :=
  if px < 0 ∨ 256 * ((f.w : Int) - 1) < px ∨ py < 0 ∨ 256 * ((f.h : Int) - 1) < py then (none, false)
  else
    let ((a, b, c), bad) := tapSum s f (taps cubic px) (taps cubic py)
    (some (toRgb f.fmt m (rounded f.fmt a) (rounded f.fmt b) (rounded f.fmt c)), bad)

/-! ### The mesh (05 R126, R127) -/

/-- The weights of the four vertices of a cell at an output pixel, over cell width times cell height. -/
def cellSum (m : Bytes) (x y : Nat) (at' : Nat → Nat → Int) : Int :=
  let cw := meshCellW m
  let ch := meshCellH m
  let c := x / cw
  let r := y / ch
  let dx : Int := x % cw
  let dy : Int := y % ch
  at' c r * (cw - dx) * (ch - dy) + at' (c + 1) r * dx * (ch - dy) + at' c (r + 1) * (cw - dx) * dy + at' (c + 1) (r + 1) * dx * dy

/-- The exact source position of an output pixel in 1/65,536 pixel. -/
def meshPos (m : Bytes) (b : Bool) (x y : Nat) : Int × Int :=
  let k : Int := 8192 / (meshCellW m * meshCellH m : Nat)
  (cellSum m x y (meshU m b) * k, cellSum m x y (meshV m b) * k)

/-- The interpolated weight of plane B, rounded to an integer. -/
def meshWeight (m : Bytes) (x y : Nat) : Int :=
  let d : Int := (meshCellW m * meshCellH m : Nat)
  let n := cellSum m x y fun c r => (u8 m (u32 m 0x1C + r * meshCols m + c) : Int)
  let q := (2 * n + d) / (2 * d)
  if (2 * n + d) % (2 * d) = 0 ∧ Config.weightTie = false then q - 1 else q

/-- A vertex or weight that an output pixel needs lies in a poisoned tile of the mesh's copy. -/
def meshPoisoned (s : State) (base : Nat) (m : Bytes) (b : Bool) (x y : Nat) : Bool :=
  let at' (off k : Nat) := tilePoisoned s (base + off + k)
  let c := x / meshCellW m
  let r := y / meshCellH m
  [(c, r), (c + 1, r), (c, r + 1), (c + 1, r + 1)].any fun (c, r) =>
    let i := r * meshCols m + c
    at' (meshOff m b) (4 * i) || (decide (u8 m 2 = 2) && at' (u32 m 0x1C) i)

/-! ### The copies of meshes and overlay lists in the Crucible -/

/-- Address of the copy of a placed object, and its bytes as the Crucible holds them. -/
def placedAddr (s : State) (kind i : Nat) : Nat := 256 * (tget (0, 0) s.cru.runs (objKey kind i)).1
def placedBytes (s : State) (kind i : Nat) : Bytes := Memory.bytes s.cru.mem (placedAddr s kind i) (obj s kind i).length

/-! ### Overlays (05 R137 to R139) -/

/-- Minor coordinate of a line at major step `i`, by the Bresenham rule. -/
def lineMinor (dM dm i : Nat) : Nat :=
  if dM = 0 then 0
  else
    let q := (2 * i * dm + dM) / (2 * dM)
    if (2 * i * dm + dM) % (2 * dM) = 0 ∧ Config.lineTie = false then q - 1 else q

/-- A line covers a pixel. -/
def lineCovers (x0 y0 x1 y1 : Int) (thick : Nat) (x y : Int) : Bool :=
  let dx := (x1 - x0).natAbs
  let dy := (y1 - y0).natAbs
  let sx : Int := if x0 ≤ x1 then 1 else -1
  let sy : Int := if y0 ≤ y1 then 1 else -1
  let xMajor := decide (dy ≤ dx)
  let dM := if xMajor then dx else dy
  let dm := if xMajor then dy else dx
  let off : Int := (thick - 1) / 2
  let at' (i : Nat) : Int × Int :=
    let n : Int := lineMinor dM dm i
    if xMajor then (x0 + sx * i, y0 + sy * n) else (x0 + sx * n, y0 + sy * i)
  (List.range (2 * thick)).any fun k =>
    let j : Int := (if xMajor then sx * (x - x0) else sy * (y - y0)) + off + 1 - thick + k
    if j < 0 ∨ (dM : Int) < j then false
    else
      let (px, py) := at' j.toNat
      decide (px - off ≤ x ∧ x < px - off + thick ∧ py - off ≤ y ∧ y < py - off + thick)

/-- Byte offset in a list of the data of a MASK or IMAGE primitive at a pixel of its rectangle. -/
def primData (l : Bytes) (i : Nat) (x y : Int) : Nat :=
  let o := 16 + 32 * i
  let dx := (x - ovlCoord l i 4).toNat
  ovlData l + 256 * u32 l (o + 0x14) + (y - ovlCoord l i 6).toNat * u16 l (o + 0x18) + (if u8 l o = 4 then dx / 8 else 4 * dx)

/-- A primitive covers an output pixel (05 R137). -/
def primCovers (l : Bytes) (i : Nat) (x y : Int) : Bool :=
  let o := 16 + 32 * i
  let op := u8 l o
  let x0 := ovlCoord l i 4
  let y0 := ovlCoord l i 6
  let x1 := ovlCoord l i 8
  let y1 := ovlCoord l i 0x0A
  let t : Int := u8 l (o + 0x0C)
  let inside := decide (x0 ≤ x ∧ x ≤ x1 ∧ y0 ≤ y ∧ y ≤ y1)
  if op = 3 then lineCovers x0 y0 x1 y1 (u8 l (o + 0x0C)) x y
  else if op = 2 then inside && decide (x < x0 + t ∨ x1 - t < x ∨ y < y0 + t ∨ y1 - t < y)
  else if op = 4 then inside && bitAt (u8 l (primData l i x y)) ((x - x0).toNat % 8)
  else inside

/-- A conditional primitive is drawn (05 R139). -/
def primDrawn (l : Bytes) (i : Nat) (sS : BitVec 512) : Bool :=
  let o := 16 + 32 * i
  let cond := u8 l (o + 1)
  cond % 2 = 0 || (sS.getLsbD (u16 l (o + 2)) ≠ bitAt cond 1)

/-- Where the data of a MASK or IMAGE primitive lie in the list's copy. -/
def primRun (base : Nat) (l : Bytes) (i : Nat) : List (Nat × Nat) :=
  let o := 16 + 32 * i
  if u8 l o = 4 ∨ u8 l o = 5 then
    [(base + ovlData l + 256 * u32 l (o + 0x14), (ovlCoord l i 0x0A - ovlCoord l i 6 + 1).toNat * u16 l (o + 0x18))]
  else []

/-- The data or the record of a primitive lies in a poisoned tile of the list's copy. -/
def primPoisoned (s : State) (base : Nat) (l : Bytes) (i : Nat) : Bool :=
  runPoisoned s (base + (16 + 32 * i)) 32 || (primRun base l i).any fun a => runPoisoned s a.1 a.2

/-- One channel blended over another (05 R138, 08 R218). -/
def blend (c a p : Nat) : Nat := (c * a + p * (255 - a) + 127) / 255

def blendPx (c : Px) (a : Nat) (p : Px) : Px := { r := blend c.r a p.r, g := blend c.g a p.g, b := blend c.b a p.b }

/-- Flags of a view pixel (05 Table 5.2): OVL, FILL, POISON, SEAM. -/
structure PxFlags where
  ovl : Bool := false
  fill : Bool := false
  poison : Bool := false
  seam : Bool := false
  deriving DecidableEq, Repr

def flagsByte (f : PxFlags) : Nat := packBits [f.ovl, f.fill, f.poison, f.seam]

/-- Colour and alpha of a primitive at a pixel it covers. -/
def primColour (l : Bytes) (i : Nat) (x y : Int) : Px × Nat :=
  let o := if u8 l (16 + 32 * i) = 5 then primData l i x y else 16 + 32 * i + 0x10
  ({ r := u8 l o, g := u8 l (o + 1), b := u8 l (o + 2) }, u8 l (o + 3))

/-- The overlay list drawn at an output pixel, in list order (05 R138). -/
def overlays (s : State) (base : Nat) (l : Bytes) (sS : BitVec 512) (x y : Int) (p : Px × PxFlags) : Px × PxFlags :=
  (List.range (ovlCount l)).foldl (fun (p : Px × PxFlags) i =>
    if primDrawn l i sS && primCovers l i x y then
      let (c, a) := primColour l i x y
      let f := { p.2 with poison := p.2.poison || primPoisoned s base l i }
      if a = 0 then (p.1, f) else (blendPx c a p.1, { f with ovl := true })
    else p) p

/-! ### One view pixel -/

/-- What a pixel of a view is computed from. -/
structure Scene where
  ctx : Bytes
  mesh : Bytes
  meshBase : Nat
  ovl : Bytes
  ovlBase : Nat
  srcA : Source
  srcB : Source
  /-- PAN in 1/8 pixel. -/
  pan : Int
  sS : BitVec 512
  deriving DecidableEq, Repr

/-- The fill colour of a context. -/
def fillColour (c : Bytes) : Px := { r := u8 c 0x10, g := u8 c 0x11, b := u8 c 0x12 }

/-- A plane's sample at an output pixel: the position, with an error in 1/65,536 pixel, truncated to 1/256, then the pan
(05 R126, R128). A negative position is truncated downwards, before its range is tested (log 176). -/
def planeSample (s : State) (k : Scene) (cubic b : Bool) (x y : Nat) (ex ey : Int) : Option Px × Bool :=
  let (u, v) := meshPos k.mesh b x y
  sampleAt s cubic (cxColour k.ctx) (if b then k.srcB else k.srcA) ((u + ex) / 256 + 32 * k.pan) ((v + ey) / 256)

/-- The pixel before its overlays (05 R127, R133). -/
def basePixel (s : State) (k : Scene) (cubic : Bool) (x y : Nat) (e : Int × Int × Int × Int) : Px × PxFlags :=
  let (a, ba) := planeSample s k cubic false x y e.1 e.2.1
  let pa := meshPoisoned s k.meshBase k.mesh false x y
  if cxTwo k.ctx then
    let (b, bb) := planeSample s k cubic true x y e.2.2.1 e.2.2.2
    let f : PxFlags := { poison := ba || bb || pa || meshPoisoned s k.meshBase k.mesh true x y }
    match a, b with
    | some p, some q =>
      let w := (meshWeight k.mesh x y).toNat
      let mix (p q : Nat) := ((128 - w) * p + w * q + 64) / 128
      ({ r := mix p.r q.r, g := mix p.g q.g, b := mix p.b q.b }, { f with seam := decide (0 < w ∧ w < 128) })
    | some p, none => (p, f)
    | none, some q => (q, f)
    | none, none => (fillColour k.ctx, { f with fill := true })
  else
    match a with
    | some p => (p, { poison := ba || pa })
    | none => (fillColour k.ctx, { fill := true, poison := ba || pa })

/-- Where an output pixel is written in the view buffer (05 R134); the same rule undoes it. -/
def mirrorX (c : Bytes) (x : Nat) : Nat := if cxMirrorH c then cxWidth c - 1 - x else x
def mirrorY (c : Bytes) (y : Nat) : Nat := if cxMirrorV c then cxHeight c - 1 - y else y

/-- A finished pixel of the view buffer at (xb, yb). -/
def viewPixel (s : State) (k : Scene) (cubic : Bool) (xb yb : Nat) (e : Int × Int × Int × Int) : Px × PxFlags :=
  overlays s k.ovlBase k.ovl k.sS xb yb (basePixel s k cubic (mirrorX k.ctx xb) (mirrorY k.ctx yb) e)

/-- The position error an engine makes: at most 1/1,024 pixel (05 R126). -/
def engineError (n : Nat) : Int := (Config.positionError n % 129 : Nat) - 64

end Sys2Proof.Machine
end

