-- ==== Sys2Proof/Machine/Render.lean ====
section
/-! DEFINITION. Renders (05 R140 to R145, 02 R43 to R51) and Mirage (chapter 06): jobs, completion, commit points, deadlines,
the commit record, stale and invalid views. -/

namespace Sys2Proof.Machine

/-! ### Positions in the tick -/

/-- A point of the tick in 0.01 tick has been reached at a time, exactly. -/
def reachedAt (t : Time) (pct : Nat) (s : State) : Bool := decide (pct * perRate ≤ (t - s.tick.lastEdge) * s.tick.rate * 100)

def reached (pct : Nat) (s : State) : Bool := reachedAt s.now pct s

/-! ### The source frames of a tick -/

/-- The camera's frame of a tick that has settled. -/
def settledOf (c : Nat) (tick : Word) (s : State) : Option CamBuf :=
  match (s.cam c).settled with
  | some b => if b.tick = tick then some b else none
  | none => none

/-- The camera's frame of a tick in progress. -/
def comingOf (c : Nat) (tick : Word) (s : State) : Option CamFrame :=
  match (s.cam c).frame with
  | some f => if f.tick = tick then some f else none
  | none => none

/-- The frame that a camera buffer holds, as a source. -/
def bufSource (b : CamBuf) : Source := sourceAt b.addr b.width b.height b.fmt

/-- The camera's frame of a tick, once it has begun. -/
def frameSource (c : Nat) (tick : Word) (s : State) : Option Source :=
  match settledOf c tick s, comingOf c tick s with
  | some b, _ => some (bufSource b)
  | none, some f => some (sourceAt f.addr f.width f.height f.fmt)
  | none, none => none

/-- Rows 0 to `need` of the frame of a tick are written or poisoned, by rows that came before this edge (05 R141, R150). -/
def rowsReady (c : Nat) (need : Int) (tick : Word) (s : State) : Bool :=
  let early (rows : List Nat) (at' : Time) : Bool := decide (at' ≠ s.now) || rows.all fun r => decide (need < r)
  match settledOf c tick s, comingOf c tick s with
  | some b, _ => early b.newRows b.newAt
  | none, some f => early f.newRows f.newAt && (List.range (need + 1).toNat).all fun r => f.okRows.contains r || f.errRows.contains r
  | none, none => false

/-- The header of the frame of a tick agrees with the mesh's source size and with CAM_FORMAT (05 R129); none before the frame
has begun. -/
def headerAgrees (c : Nat) (b : Bool) (m : Bytes) (tick : Word) (s : State) : Option Bool :=
  (frameSource c tick s).map fun f =>
    decide (memWord s (f.base + 8) = meshSrcW m b ∧ memWord s (f.base + 0x0A) = meshSrcH m b ∧
      memByte s (f.base + 0x0C) = reg s (P.camFormat c))

/-! ### Mirage (06 R155 to R161) -/

/-- Rounding half away from zero of n / d. -/
def roundAway (n d : Int) : Int := if 0 ≤ n then (2 * n + d) / (2 * d) else -((-2 * n + d) / (2 * d))

/-- An input pair is configured as an encoder: mode 3 of the safety I/O record (12 Table 12.3). -/
def encoderPair (s : State) (n : Nat) : Bool := decide (fld (u8 s.fio.record (0x90 + 4 * (14 + n))) 1 0 = 3)

/-- The latest measurement of a track, valid or not (06 R155, R156). -/
def latest (n : Nat) (s : State) : Int :=
  if n < 4 then regI s (P.mirHostAngle n)
  else if n < 6 then
    let ch := n - 4
    let cnt : Int := (if ch = 0 then s.iol.enc0 else s.iol.enc1).toInt
    ((cnt - regI s (P.mirEncZero ch)) * regI s (P.mirEncScale ch) + 32768) / 65536
  else (tget {} s.erg.angles (n - 6)).value

/-- The source of a track gives a measurement that counts (06 R157). -/
def sourceGood (n : Nat) (s : State) : Bool :=
  if n < 4 then decide (tget 256 s.hostAge n ≤ reg s P.mirHostTimeout)
  else if n < 6 then
    decide (regI s (P.mirEncScale (n - 4)) ≠ 0) && !s.iol.encBad.getLsbD (n - 4) && encoderPair s (n - 4)
  else (tget {} s.erg.angles (n - 6)).quality && (tget {} s.erg.angles (n - 6)).valid

/-- The measurement of a track now, none where it is not valid (06 R155 to R158). -/
def measure (n : Nat) (s : State) : Option Int :=
  if sourceGood n s && decide (((latest n s).natAbs : Int) ≤ reg s P.mirAngleLimit) then some (latest n s) else none

/-- The update of a track at a tick edge (06 R160); gains as of that edge. θ and ω carry 16 fractional bits; how a product with a
gain is brought to 16 fractional bits is not stated (log 34). -/
def updateTrack (n : Nat) (s : State) : State :=
  let k := s.track n
  match measure n s with
  | none => s.modTrack n fun k => { k with st := .invalid }
  | some z =>
    match k.st with
    | .invalid => s.modTrack n fun _ => { theta := 65536 * z, omega := 0, st := .init }
    | _ =>
      let g := regE s (P.mirTrkGain n)
      let thetap := k.theta + k.omega
      let r := 65536 * z - thetap
      let scale (a : Int) (i : Nat) : Int := a / 256 + (if a % 256 = 0 then 0 else b2n (Config.freeBit (s.free + i)))
      { s with free := s.free + 2 }.modTrack n fun _ =>
        { theta := thetap + scale (fld g 7 0 * r) 0, omega := k.omega + scale (fld g 15 8 * r) 1, st := .run }

/-- The tracks that an enabled Mirage context names. -/
def namedTracks (s : State) : List Nat :=
  (List.range 22).filter fun n => (enabledViews s).any fun v =>
    let c := (s.view v).ctx; cxMirage c && decide (trackOf (cxAngleSrc c) = some n)

/-- All named tracks updated; a track that no context names reads INVALID (06 R160). -/
def updateTracks (s : State) : State :=
  let named := namedTracks s
  (List.range 22).foldl (fun s n => if named.contains n then updateTrack n s else s.modTrack n fun k => { k with st := .invalid }) s

/-- θ_pred of a context at its edge (06 R161). -/
def predicted (c : Bytes) (k : Track) (s : State) : Int :=
  let lim : Int := reg s P.mirAngleLimit
  clampI (-lim) lim (roundAway (100 * k.theta + k.omega * cxCommit c) 6553600)

/-- PAN of an angle in 1/8 pixel (06 R161). -/
def panOf (c : Bytes) (theta : Int) : Int := clampI (8 * cxPanMin c) (8 * cxPanMax c) (roundAway (cxPanGain c * theta) 800)

/-- HOST_ANGLE_TIMEOUT (06 R157): the tick edges since the last write are counted at the edges; at this event the
measurement is not valid any more. -/
def hostAngleTimeout (t : Time) (n : Nat) (s : State) : State :=
  let s := advance t s
  if reg s P.mirHostTimeout < tget 256 s.hostAge n then { s with hostAge := tset 256 s.hostAge n 256 } else s

def execHostAngleTimeout (t : Time) (n : Fin 4) (s : State) : Host.Outcome State Fault Refusal := done (hostAngleTimeout t n.val s)

/-! ### Beginning a render (02 R26, R40; 05 R116; 06 R162) -/

/-- The addresses of the view buffers that a pipe's frame shows, as long as it is not over: a live or envelope layer until its
verdict, a repeat until the last active line (02 R47, R49). -/
def shownAddrs (s : State) : List Nat :=
  s.pipes.flatMap fun (_, p) => [p.frame, p.prev].flatMap fun f =>
    match f with
    | some f => (f.layers.filter fun l =>
        f.lostAt.isNone && (match l.mode with
          | .live | .envelope => !l.judged
          | .repeated => !f.complete
          | _ => false)).map (·.addr)
    | none => []

/-- The buffers of a view that hold a role besides the render target (02 R47). -/
def rolesOf (v : Nat) (s : State) : List Nat :=
  let x := s.view v
  let own := (x.frames.filter fun f => decide (f.env = none)).map (·.buf) ++ (x.lastVer.map (·.buf)).toList
  let shown := shownAddrs s
  own ++ (s.views.flatMap fun (_, y) => (y.frames.filter fun f => decide (f.env = some v)).map (·.buf)) ++
    (List.range 4).filter fun b => shown.contains (cxBufAddr x.ctx b)

/-- The buffer that takes the render-target role: the lowest without a role (DESIGN CHOICE, log 27). -/
def targetBuf (v : Nat) (s : State) : Nat := ((List.range 4).find? fun b => !(rolesOf v s).contains b).getD 0

/-- A view begins its render of the tick (02 R40 step 5). -/
def beginRender (v : Nat) (s : State) : State :=
  let c := (s.view v).ctx
  let r : Render := { tick := s.tick.count, ctx := c, buf := targetBuf v s }
  let r :=
    if cxMirage c then
      let k := s.track ((trackOf (cxAngleSrc c)).getD 0)
      if k.st = .invalid then { r with decision := some .envelope, sourceInvalid := true }
      else
        let th := predicted c k s
        { r with thetaPred := th, pan := panOf c th, trackInit := decide (k.st = .init) }
    else { r with decision := some .plain }
  s.modView v fun x => { x with render := some r }

/-- The render of v's tick in progress, one refused under 05 R129 among them, before its deadline (02 R40, R44). -/
def openRender (v : Nat) (s : State) : Option Render :=
  match (s.view v).render with
  | some r => if r.tick = s.tick.count ∧ r.halted = false ∧ r.settled = false ∧ reached (cxDeadline r.ctx) s = false then some r else none
  | none => none

/-- The render that v makes in this tick, if it may still run: no render goes on past its deadline (02 R40, R44). -/
def liveRender (v : Nat) (s : State) : Option Render :=
  match openRender v s with
  | some r => if r.rejected then none else some r
  | none => none

def modRender (v : Nat) (f : Render → Render) (s : State) : State :=
  s.modView v fun x => { x with render := x.render.map f }

/-- Tile rows of a context (05 R140). -/
def tileRows (c : Bytes) : Nat := (cxHeight c + 15) / 16

/-- The headers of the frames that a render needs, as far as these have begun. -/
def headerRuns (r : Render) (s : State) : List (Nat × Nat) :=
  (cxCameras r.ctx).flatMap fun c => ((frameSource c r.tick s).map fun f => (f.base, 64)).toList

/-- The comparisons at render start, once the frames they need have begun (05 R129): a difference refuses the render. A header that
reads poisoned makes it suspect (04 R99). -/
def checkHeaders (v : Nat) (s : State) : State :=
  match liveRender v s with
  | none => s
  | some r =>
    if r.checked ∨ r.decision = some .envelope then s
    else
      let runs := headerRuns r s
      let s := touchAll 0x10 5 runs s
      let s := modRender v (fun r => { r with poison := r.poison || runs.any fun a => runPoisoned s a.1 a.2 }) s
      let m := mesh s (cxMesh r.ctx)
      let hs := (headerAgrees (cxSrcA r.ctx) false m r.tick s) ::
        (if cxTwo r.ctx then [headerAgrees (cxSrcB r.ctx) true m r.tick s] else [])
      if hs.contains (some false) then countReg (modRender v (fun r => { r with rejected := true }) s) P.viewRejects
      else if hs.contains none then s
      else modRender v (fun r => { r with checked := true }) s

/-! ### Jobs (05 R140 to R144) -/

/-- VE e is in the pool (05 R144): not removed, not under a slice. -/
def engineInPool (e : Nat) (s : State) : Bool :=
  !s.st.engineOut.getLsbD e &&
  (match tget none s.st.running 0 with | some r => decide (r.unit ≠ e) | none => true) &&
  !(s.st.bist.any fun b => decide (b.block = 0x10 + e))

/-- The video machinery runs: the Crucible serves, and the view clock runs (04 R108, 18 R468). -/
def viewsRun (s : State) : Bool := cruOk s && decide (tget .running s.clk.doms 1 = .running)

/-- The next job of a view is ready (05 R141). -/
def jobReady (v : Nat) (s : State) : Bool :=
  match liveRender v s with
  | some r =>
    let m := mesh s (cxMesh r.ctx)
    r.checked && decide (r.rows < tileRows r.ctx ∧ r.done = none ∧ r.decision ≠ some .envelope) &&
      rowsReady (cxSrcA r.ctx) (meshNeed m false r.rows) r.tick s &&
      (!cxTwo r.ctx || rowsReady (cxSrcB r.ctx) (meshNeed m true r.rows) r.tick s)
  | none => false

/-- The rank of a view's job (05 R142), lowest first. -/
def jobRank (v : Nat) (s : State) : Nat :=
  match (s.view v).render with
  | some r => b2n (!r.again) * 2 ^ 32 + cxDeadline r.ctx * 2 ^ 24 + cxPrio r.ctx * 2 ^ 16 + v
  | none => 0

/-- The ready job that ranks first. -/
def firstJob (s : State) : Option Nat :=
  ((enabledViews s).filter fun v => jobReady v s).foldl (fun (a : Option Nat) v =>
    match a with
    | some w => if jobRank v s < jobRank w s then some v else some w
    | none => some v) none

/-- What a view is computed from. -/
def sceneOf (c : Bytes) (pan : Int) (srcA srcB : Source) (s : State) : Scene :=
  { ctx := c, mesh := placedBytes s kMesh (cxMesh c), meshBase := placedAddr s kMesh (cxMesh c),
    ovl := if cxOvl c = 0xFFFF then [] else placedBytes s kOverlay (cxOvl c), ovlBase := placedAddr s kOverlay (cxOvl c),
    srcA := srcA, srcB := srcB, pan := pan, sS := s.sSample }

/-- The bytes of a stored view pixel (05 Table 5.2). -/
def pixelBytes (p : Px × PxFlags) : Bytes := [b8 p.1.r, b8 p.1.g, b8 p.1.b, b8 (flagsByte p.2)]

/-- The pixels of buffer row `yb`, computed by an engine; `n` numbers the row's position errors. -/
def engineRow (s : State) (k : Scene) (yb n : Nat) : List (Px × PxFlags) :=
  (List.range (cxWidth k.ctx)).map fun xb =>
    let i := n + 4 * xb
    viewPixel s k (cxBicubic k.ctx) xb yb (engineError i, engineError (i + 1), engineError (i + 2), engineError (i + 3))

/-- The bounding box of a primitive meets columns x0 to x1 of rows y0 to y1. -/
def primMeets (l : Bytes) (i : Nat) (x0 x1 y0 y1 : Int) : Bool :=
  let t : Int := if u8 l (16 + 32 * i) = 3 then u8 l (16 + 32 * i + 0x0C) else 1
  let off : Int := (t - 1) / 2
  let ax := ovlCoord l i 4
  let ay := ovlCoord l i 6
  let bx := ovlCoord l i 8
  let by' := ovlCoord l i 0x0A
  decide (min ax bx - off ≤ x1 ∧ x0 ≤ max ax bx - off + t - 1 ∧ min ay by' - off ≤ y1 ∧ y0 ≤ max ay by' - off + t - 1)

/-- Extra overlay passes of one output tile (05 R143). -/
def overlayPasses (k : Scene) (x0 x1 y0 y1 : Nat) : Nat :=
  let n := ((List.range (ovlCount k.ovl)).filter fun i => primMeets k.ovl i x0 x1 y0 y1).length
  (n - 8 + 7) / 8

/-- Clocks and extra passes of one tile of a tile row, in buffer columns x0 to x0 + 63 (05 R143). -/
def tileCost (k : Scene) (rows : List (List (Px × PxFlags))) (x0 y0 y1 : Nat) : Nat × Nat :=
  let px := 64 * rows.length
  let seam := rows.any fun r => ((r.drop x0).take 64).any fun p => p.2.seam
  let passes := overlayPasses k x0 (x0 + 63) y0 y1
  (32 + (if seam then px else px / 2) + 512 * passes, passes)

/-- The source rows that a job reads, of one plane (05 R141; log 175). -/
def sourceRun (m : Bytes) (b : Bool) (t : Nat) (f : Source) : List (Nat × Nat) :=
  let need := meshNeed m b t
  let lo := meshFirst m b t
  if need < 0 then [] else [(f.base + 256 + lo * f.pitch, (need.toNat + 1 - lo) * f.pitch)]

/-- The vertices and weights that a job reads of a mesh, beside its header. -/
def meshRun (m : Bytes) (base t : Nat) : List (Nat × Nat) :=
  let n := meshCols m
  let i := 16 * t / meshCellH m * n
  let two := decide (u8 m 2 = 2)
  [(base, 256), (base + meshOff m false + 4 * i, 8 * n)] ++
    (if two then [(base + meshOff m true + 4 * i, 8 * n), (base + u32 m 0x1C + i, 2 * n)] else [])

/-- The buffer rows of tile row `t` of a context. -/
def jobYs (c : Bytes) (t : Nat) : List Nat :=
  (List.range 16).filterMap fun i => if 16 * t + i < cxHeight c then some (mirrorY c (16 * t + i)) else none

/-- What a job reads of its overlay list: the header, the records, and the data of the primitives drawn in its rows (05 R138). -/
def ovlRun (k : Scene) (ys : List Nat) : List (Nat × Nat) :=
  if k.ovl.isEmpty then []
  else
    let y0 : Nat := ys.foldl min (cxHeight k.ctx)
    let y1 : Nat := ys.foldl max 0
    let met := (List.range (ovlCount k.ovl)).filter fun i =>
      primDrawn k.ovl i k.sS && primMeets k.ovl i 0 (cxWidth k.ctx - 1 : Nat) y0 y1
    (k.ovlBase, 16 + 32 * ovlCount k.ovl) :: met.flatMap (primRun k.ovlBase k.ovl)

/-- What a job reads (05 R119, R141). -/
def jobRuns (v t : Nat) (k : Scene) (s : State) : List (Nat × Nat) :=
  [(bankAddr s.cru.bank v, 128)] ++ meshRun k.mesh k.meshBase t ++ ovlRun k (jobYs k.ctx t) ++ sourceRun k.mesh false t k.srcA ++
    (if cxTwo k.ctx then sourceRun k.mesh true t k.srcB else [])

/-- The scene of a job: the context is the copy in the bank in force (05 R119). -/
def jobScene (v : Nat) (r : Render) (s : State) : Scene :=
  let c := (cruRead s (bankAddr s.cru.bank v) 128).1
  let src (n : Nat) : Source := (frameSource n r.tick s).getD (sourceAt 0 0 0 0)
  sceneOf c r.pan (src (cxSrcA c)) (src (if cxTwo c then cxSrcB c else cxSrcA c)) s

/-- The job's context copy reads poisoned (04 R99). -/
def ctxPoisoned (v : Nat) (s : State) : Bool := runPoisoned s (bankAddr s.cru.bank v) 128

/-- The job's context copy, its mesh header or what it reads of its overlay list is poisoned (04 R99). -/
def jobPoisoned (v : Nat) (k : Scene) (ys : List Nat) (s : State) : Bool :=
  ctxPoisoned v s || runPoisoned s k.meshBase 256 || (ovlRun k ys).any fun a => runPoisoned s a.1 a.2

/-- One tile row of a view is rendered on an engine and written to the render target (05 R140, R143); a context copy that reads
poisoned fails its CCRC (16 R438). -/
def renderRow (v e : Nat) (crcBad : Bool) (r : Render) (s : State) : State :=
  let s := touchAll (0x10 + e) 5 (jobRuns v r.rows (jobScene v r s) s) s
  let k := jobScene v r s
  let c := k.ctx
  let ys := jobYs c r.rows
  let free := s.free
  let w := cxWidth c
  let rows := ys.zipIdx.map fun (yb, i) => engineRow s k yb (free + 4 * w * i)
  let mismatch := crcBad || !crcTrailerOk c 0x7C || ctxPoisoned v s
  let poison := jobPoisoned v k ys s
  let y0 := ys.foldl min (cxHeight c)
  let y1 := ys.foldl max 0
  let cost := (List.range (w / 64)).foldl (fun (a : Nat × Nat) i =>
    let d := tileCost k rows (64 * i) y0 y1; (a.1 + d.1, a.2 + d.2)) (0, 0)
  let s := { s with free := free + 4 * w * ys.length, tickClocks := s.tickClocks + cost.1 }
  let s := (ys.zip rows).foldl (fun s (yb, row) =>
    cruWrite .engine (0x10 + e) 5 (256 * cxBufAddr c r.buf + 4 * w * yb) (row.flatMap pixelBytes) s) s
  let s := modRender v (fun r => { r with
    used := c, rows := r.rows + 1, clocks := r.clocks + cost.1, suspect := r.suspect || mismatch,
    poison := r.poison || poison || rows.any fun row => row.any fun p => p.2.poison }) s
  let s := addReg s P.viewOvlPasses cost.2
  if mismatch then detect 11 (locBlock s dieSoc (0x10 + e)) s else s

/-- A job given to an engine, with what it has added kept, for an engine that leaves the pool on the same edge (05 R150). -/
def keepJob (v e : Nat) (job : State → State) (s : State) : State :=
  let t := job s
  let u : JobUndo := {
    view := v, render := (s.view v).render, clocks := t.tickClocks - s.tickClocks,
    passes := countedNow P.viewOvlPasses t - countedNow P.viewOvlPasses s }
  { t with inst := { instant t with jobs := tset none (instant t).jobs e (some u) } }

/-- An engine leaves the pool: a job given to it on this very edge is to be dispatched again (05 R142, R150). -/
def dropJob (e : Nat) (s : State) : State :=
  match tget none (instant s).jobs e with
  | none => s
  | some u =>
    let s := takeBack P.viewOvlPasses 31 0 u.passes false { s with tickClocks := s.tickClocks - u.clocks }
    { s.modView u.view fun x => { x with render := u.render } with
      inst := { instant s with jobs := tset none (instant s).jobs e none } }

/-- JOB_DISPATCH (05 R142): a free engine takes the ready job that ranks first. -/
def jobDispatch (t : Time) (e : Nat) (crcBad : Bool) (s : State) : State :=
  let s := advance t s
  if !viewsRun s || !engineInPool e s then s
  else
    let s := (enabledViews s).foldl (fun s v => checkHeaders v s) s
    match firstJob s with
    | none => s
    | some v => match (s.view v).render with
      | some r => keepJob v e (renderRow v e crcBad r) s
      | none => s

def execJobDispatch (t : Time) (engine : Fin 8) (crcBad : Bool) (s : State) : Host.Outcome State Fault Refusal :=
  done (jobDispatch t engine.val crcBad s)

/-! ### The commit record (06 R170, R171) -/

/-- What a record holds besides the view's own fields. -/
structure CommitInfo where
  decision : Decision
  late : Bool := false
  /-- The render the frame came from: the envelope's on ENVELOPE. -/
  from' : Render
  used : Int := 0
  addr : Nat := 0
  tDone : Nat := 0
  env : Nat := 0xFFFF
  deriving DecidableEq, Repr

def decisionCode : Decision → Nat
  | .plain => 0 | .hit => 1 | .rerender => 2 | .envelope => 3 | .missed => 4

/-- GEN of the frame of a tick that a camera wrote; what a record carries where there is none is not stated (log 35). -/
def genOf (c : Nat) (tick : Word) (n : Nat) (s : State) : Nat :=
  match settledOf c tick s with
  | some b => b.gen.toNat
  | none => if (comingOf c tick s).isSome then (s.cam c).gen.toNat else (Config.freeWord n).toNat

/-- The context a render has used: the copy its jobs read (05 R119); the record in force where none has run. -/
def ctxUsed (r : Render) : Bytes := if r.used.isEmpty then r.ctx else r.used

/-- The 512 bytes of a commit record; HITS, RERENDERS and MISSES count this tick, ENVELOPES does not, since it is
counted at the deadline behind the record (log 192). -/
def commitBytes (v : Nat) (r : Render) (i : CommitInfo) (s : State) : Bytes :=
  let x := s.view v
  let c := ctxUsed i.from'
  let flags := packBits [i.from'.poison, i.from'.suspect, r.sourceInvalid, r.trackInit, r.budget, i.late]
  let pan := if i.decision = .hit ∨ i.decision = .rerender then panOf r.ctx i.used else 0
  let i16 (z : Int) : Bytes := le 2 (wrapN 16 z)
  let ovl := cxOvl c
  let b := le 4 r.tick.toNat ++ le 2 v ++ [b8 (decisionCode i.decision), b8 flags] ++ i16 r.thetaPred ++ i16 r.thetaMeas ++
    i16 i.used ++ i16 pan ++ le 4 i.addr ++ le 2 (cxMesh c) ++ le 2 ovl ++ le 4 (u32 (mesh s (cxMesh c)) 0xFC) ++
    le 4 (if ovl = 0xFFFF then 0 else u32 (ovlList s ovl) 0x0C) ++ le 4 (genOf (cxSrcA c) r.tick s.free s) ++
    le 4 (if cxTwo c then genOf (cxSrcB c) r.tick (s.free + 1) s else 0) ++ le 2 i.tDone ++
    le 2 (if cxMirage r.ctx then 10 * cxCommit r.ctx else 0) ++ le 2 i.env ++ le 2 0 ++
    le 4 x.hits ++ le 4 x.rerenders ++ le 4 x.envelopes ++ le 4 x.misses ++ zeros 64 ++ pad 128 c ++ zeros 252
  b ++ le 4 (crcStore b)

/-- RCRC as the store returns it is what the predictor wrote, without poison (06 R172). -/
def commitStands (a : Nat) (bs : Bytes) (s : State) : Bool :=
  decide (Memory.bytes s.cru.mem (a + 0x1FC) 4 = sub bs 0x1FC 4) && !tilePoisoned s (a + 0x1FC)

/-- A commit record written by the Mirage predictor, and its read-back (06 R170, R172): a bad one raises FS-013. The predictor
has stopped while the Crucible is lost (04 R108). -/
def writeCommit (v : Nat) (r : Render) (i : CommitInfo) (ok : Bool) (s : State) : Bool × State :=
  if cruOk s = false then (true, s)
  else
    let a := commitAddr v (r.tick.toNat % 2)
    let bs := commitBytes v r i s
    let s := useChannel 0x70 0 1 s
    let s := touch 0x70 5 (a + 0x1FC) 4 { cruWrite .predictor 0x70 5 a bs s with free := s.free + 2 }
    let back := ok && commitStands a bs s
    (back, if back then s else detect 13 (locBlock s dieSoc 0x70) s)

/-! ### On time and missed (02 R44, R48 to R51) -/

/-- A saturating 32-bit count. -/
def sat32 (n : Nat) : Nat := min (n + 1) 0xFFFFFFFF

/-- The view counts as on time in this tick (02 R48, R51). -/
def creditOnTime (v : Nat) (s : State) : State :=
  s.modView v fun x => if x.invalid then { x with recover := min (x.recover + 1) 8 } else { x with stale := 0 }

/-- A completed render takes the ready role (02 R47); frames whose verdicts have passed release theirs. -/
def pushFrame (v : Nat) (f : ViewFrame) (s : State) : State :=
  s.modView v fun x => { x with frames := f :: x.frames.filter fun g => decide (g.tick + 1 = f.tick) }

/-- A suspect render counts (05 R145); one that completes does so then, one that misses at its deadline (log 193). -/
def countSuspect (v : Nat) (bad : Bool) (s : State) : State :=
  let s := s.modView v fun x => { x with suspectLast := bad }
  if bad then countReg s P.viewSuspect else s

/-- A render that is stopped before it has completed counts as suspect where it was (log 193). -/
def stopSuspect (v : Nat) (r : Render) (s : State) : State :=
  if r.done.isNone && (r.poison || r.suspect) then countSuspect v true s else s

/-- A render of a Mirage view that no envelope saves, or any other view's, has missed (02 R44, R48; 06 R167, R170). -/
def missRender (v : Nat) (r : Render) (ok : Bool) (s : State) : State :=
  let s := modRender v (fun r => { r with settled := true, missed := true }) s
  let s := if r.done.isNone && decide (r.decision ≠ some .envelope) then countSuspect v (r.poison || r.suspect) s else s
  let s := fall [v] (s.modView v fun x => { x with
    verified := false, misses := sat32 x.misses,
    stale := if x.invalid then x.stale else min (x.stale + 1) 8,
    recover := 0 })
  let s := countReg s P.tickStaleEvents
  let s := if cxMirage r.ctx then countReg s P.mirStale else s
  (writeCommit v r { decision := .missed, from' := r, tDone := 10 * cxDeadline r.ctx } ok s).2

/-- A tick shown as its envelope counts, at the deadline (06 R174, log 177): as LATE, or by the flag of the decision. -/
def tallyEnvelope (v : Nat) (r : Render) (late : Bool) (s : State) : State :=
  let s := modRender v (fun r => { r with tally := false }) (s.modView v fun x => { x with envelopes := sat32 x.envelopes })
  if late then countReg s P.mirEnvLate
  else if r.sourceInvalid then countReg s P.mirEnvSource
  else if r.budget then countReg s P.mirEnvBudget
  else s

/-- The completed envelope render of a tick stands in for a Mirage view (06 R167, R168); false where its record does not read
back as written. -/
def showEnvelope (v : Nat) (r : Render) (late ok : Bool) (s : State) : Bool × State :=
  let n := cxEnvCtx r.ctx
  match (s.view n).render with
  | none => (true, s)
  | some e =>
    let addr := cxBufAddr e.ctx e.buf
    let s := modRender v (fun r => { r with settled := true, tally := true }) s
    let s := pushFrame v { buf := e.buf, tick := r.tick, addr := addr, env := some n } s
    let s := creditOnTime v s
    writeCommit v r { decision := .envelope, late := late, from' := e, addr := addr, tDone := e.done.getD 0, env := n } ok s

/-- The envelope context's render of the tick has completed on time. -/
def envelopeDone (r : Render) (s : State) : Bool :=
  match (s.view (cxEnvCtx r.ctx)).render with
  | some e => decide (e.tick = r.tick ∧ e.flipped)
  | none => false

/-- A completed render takes the ready role, with its record; a bad read-back withdraws the flip of a Mirage view
(06 R166, R170, R172). VIEW_ONTIME and VIEW_LATEST_DONE count a render that takes the ready role (log 178). -/
def flip (v : Nat) (r : Render) (ok : Bool) (s : State) : State :=
  let d := r.decision.getD .plain
  let addr := cxBufAddr r.ctx r.buf
  let used := if d = .hit then r.thetaPred else if d = .rerender then r.thetaMeas else 0
  let (back, s) := writeCommit v r { decision := d, from' := r, used := used, addr := addr, tDone := r.done.getD 0 } ok s
  if !back && d ≠ .plain then modRender v (fun r => { r with withdrawn := true }) s
  else
    let s := modRender v (fun r => { r with flipped := true, settled := true }) s
    let s := pushFrame v { buf := r.buf, tick := r.tick, addr := addr } s
    let s := s.modView v fun x => { x with doneMilli := r.done.getD 0 }
    let s := { s with tickDone := max s.tickDone (r.done.getD 0) }
    creditOnTime v (countReg s P.viewOntime)

/-- Every source frame of a render has settled. -/
def sourcesSettled (r : Render) (s : State) : Bool := (cxCameras r.ctx).all fun c => (settledOf c r.tick s).isSome

/-- The Mirage views that wait for an envelope context's render show it, once their commit point has come (06 R170). -/
def serveEnvelopes (n : Nat) (s : State) : State :=
  (enabledViews s).foldl (fun s v =>
    match openRender v s with
    | some r =>
      if cxMirage r.ctx ∧ cxEnvCtx r.ctx = n ∧ r.decision = some .envelope ∧ r.latched ∧ envelopeDone r s then
        (showEnvelope v r false true s).2
      else s
    | none => s) s

/-- RENDER_COMPLETE (05 R145, 06 R166): all tile rows written and all source frames settled before the deadline. A
Mirage render that completes before its commit point waits for it. -/
def completeRender (v : Nat) (ok : Bool) (s : State) : State :=
  match liveRender v s with
  | none => s
  | some r =>
    if !viewsRun s || decide (r.rows < tileRows r.ctx) || r.done.isSome || decide (r.decision = some .envelope) || !sourcesSettled r s ||
        reached (cxDeadline r.ctx) s then s
    else
      let r := { r with done := some (tickMilli s) }
      let s := modRender v (fun _ => r) s
      let s := countSuspect v (r.poison || r.suspect) (s.modView v fun x => { x with lastClocks := some r.clocks })
      if r.decision = none then s else serveEnvelopes v (flip v r ok s)

/-- The counters that a commit point and a completion count. -/
def commitCounters : List Nat := [P.mirHits, P.mirRerenders, P.viewOntime, P.viewSuspect]

/-- What a step adds to the counters is kept with the commit point of the edge (06 R175). -/
def tallyCommit (v : Nat) (f : State → State) (s : State) : State :=
  let t := f s
  match tget none (instant t).commits v with
  | none => t
  | some u =>
    let d := commitCounters.map fun id => countedNow id t - countedNow id s
    { t with inst := { instant t with
      commits := tset none (instant t).commits v (some { u with counts := (u.counts.zip d).map fun x => x.1 + x.2 }) } }

/-- A completion on the edge of the view's commit point is kept with it (06 R175). -/
def keepCompletion (v : Nat) (ok : Bool) (s : State) : State :=
  match tget none (instant s).commits v with
  | none => s
  | some u => { s with inst := { instant s with commits := tset none (instant s).commits v (some { u with completed := some ok }) } }

/-- RENDER_COMPLETE at a time. -/
def renderComplete (t : Time) (v : Nat) (ok : Bool) (s : State) : State :=
  let s := advance t s
  tallyCommit v (completeRender v ok) (if (liveRender v s).isSome then keepCompletion v ok s else s)

def execRenderComplete (t : Time) (v : Fin 256) (readBackOk : Bool) (s : State) : Host.Outcome State Fault Refusal :=
  done (renderComplete t v.val readBackOk s)

/-! ### Commit points (06 R164 to R166) -/

/-- n / d rounded up. -/
def ceilDiv (n d : Nat) : Nat := (n + d - 1) / d

/-- A_v: the settle edge of the SRC_A frame of the tick before, in 0.001 tick of its tick, rounded up; the deadline without one. -/
def arrival (c : Bytes) (s : State) : Nat :=
  match (s.cam (cxSrcA c)).settledAt.find? fun x => decide (x.1 + 1 = s.tick.count) with
  | some x => ceilDiv ((x.2 - s.tick.prevEdge) * s.tick.rate * 1000) perRate
  | none => 10 * cxDeadline c

/-- The budget test of a re-render (06 R165). -/
def budgetOk (v : Nat) (c : Bytes) (s : State) : Bool :=
  match (s.view v).lastClocks with
  | none => false
  | some k =>
    let e := ceilDiv (k * (100 + reg s P.mirRrMargin) * s.tick.rate) (100 * 600000000 * reg s P.mirRrEngines)
    decide (max (10 * cxCommit c) (arrival c s) + e < 10 * cxDeadline c)

/-- The decision of a Mirage view's tick (06 Table 6.2), and what follows from it (06 R166, R174). A view decided from the tick
edge on latches its measurement alone (06 R162, R171). A re-render is a render of its own: it reads its source headers anew (05 R129). -/
def commitDecide (v : Nat) (r : Render) (ok : Bool) (s : State) : State :=
  let c := r.ctx
  let envelope (r : Render) (s : State) : State :=
    let r := { r with decision := some .envelope }
    let s := modRender v (fun _ => r) (stopSuspect v r s)
    if envelopeDone r s then (showEnvelope v r false ok s).2 else s
  let r := { r with latched := true }
  match measure ((trackOf (cxAngleSrc c)).getD 0) s with
  | none => envelope { r with sourceInvalid := true } s
  | some z =>
    let r := { r with thetaMeas := z }
    if r.decision = some .envelope then envelope r s
    else if (z - r.thetaPred).natAbs ≤ 5 * cxAngleTol c then
      let r := { r with decision := some .hit }
      let s := countReg (modRender v (fun _ => r) s) P.mirHits
      let s := s.modView v fun x => { x with hits := sat32 x.hits }
      if r.done.isSome then flip v r ok s else s
    else if budgetOk v c s then
      let s := stopSuspect v r s
      let r := { r with
        decision := some .rerender, again := true, checked := false, rows := 0, clocks := 0, done := none, poison := false
        suspect := false, pan := panOf c z }
      let s := countReg (modRender v (fun _ => r) s) P.mirRerenders
      s.modView v fun x => { x with rerenders := sat32 x.rerenders }
    else envelope { r with budget := true } s

/-- The render of a Mirage view whose commit point is still to come, one refused under 05 R129 among them (06 R164). -/
def commitRender (v : Nat) (s : State) : Option Render :=
  match (s.view v).render with
  | some r =>
    if cxMirage r.ctx ∧ r.tick = s.tick.count ∧ r.halted = false ∧ r.settled = false ∧ r.latched = false ∧
      reached (cxCommit r.ctx) s ∧ reached (cxDeadline r.ctx) s = false then some r else none
  | none => none

/-- A view is kept as it stands before its commit point (06 R175). -/
def keepCommit (v : Nat) (ok : Bool) (s : State) : State :=
  let u : CommitUndo := { view := s.view v, counts := commitCounters.map fun _ => 0, ok := ok }
  { s with inst := { instant s with commits := tset none (instant s).commits v (some u) } }

/-- MIRAGE_COMMIT_POINT (06 R164). -/
def mirageCommitPoint (t : Time) (v : Nat) (ok : Bool) (s : State) : State :=
  let s := advance t s
  match commitRender v s with
  | some r => if viewsRun s then tallyCommit v (commitDecide v r ok) (keepCommit v ok s) else s
  | none => s

def execMirageCommitPoint (t : Time) (v : Fin 256) (readBackOk : Bool) (s : State) : Host.Outcome State Fault Refusal :=
  done (mirageCommitPoint t v.val readBackOk s)

/-! ### A measurement that changes on the edge that latches it (06 R158, R175) -/

/-- The latest completion in the tick among the renders that have taken the ready role, in 0.001 tick (05 Table 5.10). -/
def latestDone (s : State) : Nat :=
  (viewIxs s).foldl (fun n v =>
    match (s.view v).render with
    | some r => if r.tick = s.tick.count ∧ r.flipped then max n (r.done.getD 0) else n
    | none => n) 0

/-- What a commit point has changed in its view is as it was before it; the jobs its speculative render has been given since stand. -/
def undoCommit (w : ViewSt) (x : ViewSt) : ViewSt :=
  let r : Option Render := match w.render, x.render with
    | some a, some b =>
      some (if b.again then a else { a with used := b.used, rows := b.rows, clocks := b.clocks, poison := b.poison, suspect := b.suspect })
    | a, _ => a
  { x with
    render := r, frames := w.frames, hits := w.hits, rerenders := w.rerenders, stale := w.stale, recover := w.recover
    doneMilli := w.doneMilli, lastClocks := w.lastClocks, suspectLast := w.suspectLast }

/-- A commit point of this edge is decided by the measurements as they are now; a completion that came after it on the edge follows. -/
def redoCommit (v : Nat) (u : CommitUndo) (s : State) : State :=
  let s := (commitCounters.zip u.counts).foldl (fun s c => takeBack c.1 31 0 c.2 false s) s
  let s := s.modView v (undoCommit u.view)
  let s := { s with
    tickDone := latestDone s
    inst := { instant s with commits := tset none (instant s).commits v (some { u with counts := u.counts.map fun _ => 0 }) } }
  match (s.view v).render with
  | none => s
  | some r =>
    let s := tallyCommit v (commitDecide v r u.ok) s
    match u.completed with
    | some ok => tallyCommit v (completeRender v ok) s
    | none => s

/-- The commit points of this edge are decided by the measurements as they are now. -/
def redoCommits (s : State) : State :=
  (instant s).commits.foldl (fun s e =>
    match e.2 with
    | some u => redoCommit e.1 u s
    | none => s) s

/-- The predictions of this edge are made anew, for the renders that no job has begun. -/
def redoPredictions (s : State) : State :=
  (enabledViews s).foldl (fun s v =>
    match (s.view v).render with
    | some r =>
      if cxMirage r.ctx ∧ r.tick = s.tick.count ∧ r.rows = 0 ∧ r.settled = false then
        modRender v (fun x => { x with halted := r.halted }) (beginRender v s)
      else s
    | none => s) s

/-- A measurement has changed: the tracks updated on this very edge, the predictions made from them and the commit points of the
edge take the measurement as it is now (06 R158). -/
def remeasure (s : State) : State :=
  redoCommits (match (instant s).tracks with
    | some k => redoPredictions (updateTracks { s with tracks := k })
    | none => s)

/-! ### Deadlines (02 R44, 06 R167, R172) -/

/-- The tick of a view ends at its deadline, with no flip: a Mirage view shows its envelope where that has completed, as LATE if
it was decided HIT or RERENDER, and misses otherwise. -/
def endRender (v : Nat) (r : Render) (ok : Bool) (s : State) : State :=
  if cxMirage r.ctx ∧ envelopeDone r s then
    let late := decide (r.decision = some .hit ∨ r.decision = some .rerender)
    let (back, s') := showEnvelope v r late ok (if late then stopSuspect v r s else s)
    if r.withdrawn ∧ back = false then missRender v r ok s else tallyEnvelope v r late s'
  else missRender v r ok s

/-- RENDER_DEADLINE (02 R44, R48; 06 R167, R172, R174): a render that has not completed is stopped; a tick already shown as its
envelope is counted. -/
def renderDeadline (t : Time) (v : Nat) (ok : Bool) (s : State) : State :=
  let s := advance t s
  match (s.view v).render with
  | none => s
  | some r =>
    if r.tick ≠ s.tick.count ∨ !reached (cxDeadline r.ctx) s then s
    else if r.settled then (if r.tally then tallyEnvelope v r false s else s)
    else endRender v r ok s

def execRenderDeadline (t : Time) (v : Fin 256) (readBackOk : Bool) (s : State) : Host.Outcome State Fault Refusal :=
  done (renderDeadline t v.val readBackOk s)

/-- VIEW_RECOVER (02 R51): TICK_RECOVER_COUNT renders in a row were on time. -/
def viewRecover (t : Time) (v : Nat) (s : State) : State :=
  let s := advance t s
  let x := s.view v
  if x.invalid = false ∨ x.recover < reg s P.tickRecoverCount then s
  else raiseEvent 20 1 [v, 0] (rise (256 + v) (s.modView v fun x => { x with invalid := false, stale := 0, recover := 0 }))

def execViewRecover (t : Time) (v : Fin 256) (s : State) : Host.Outcome State Fault Refusal := done (viewRecover t v.val s)

end Sys2Proof.Machine
end

