-- ==== Sys2Proof/Machine/Scanout.lean ====
section
/-! DEFINITION. Scan-out pipes (chapter 08; 07 R200, R201, R527; 02 R46, R49): links, frames, fallback, layouts, static
layers, icons and CRC regions. -/

namespace Sys2Proof.Machine

/-! ### Timing and link checks (08 R209, R214) -/

def pipeRelay (p : Nat) (s : State) : Bool := bitAt (reg s (P.soRoute p)) 4
def pipeOutput (p : Nat) (s : State) : Nat := fld (reg s (P.soRoute p)) 3 0
def hact (p : Nat) (s : State) : Nat := reg s (P.soHact p)
def vact (p : Nat) (s : State) : Nat := reg s (P.soVact p)
def htotal (p : Nat) (s : State) : Nat := reg s (P.soHtotal p)
def vtotal (p : Nat) (s : State) : Nat := reg s (P.soVtotal p)

/-- The limits of 08 R209 at a tick rate in 0.001 Hz. -/
def timingOk (p rate : Nat) (s : State) : Bool :=
  let clock := htotal p s * vtotal p s * rate
  let sync (r : Nat) (blank : Nat) := decide (fld r 15 0 + fld r 31 16 ≤ blank)
  decide (hact p s % 2 = 0 ∧ 64 ≤ hact p s ∧ hact p s ≤ 2560 ∧ 64 ≤ vact p s ∧ vact p s ≤ 1600) &&
  decide (hact p s + 32 ≤ htotal p s ∧ vact p s + 3 ≤ vtotal p s ∧ htotal p s ≤ 4095 ∧ vtotal p s ≤ 4095) &&
  decide (25000000000 ≤ clock ∧ clock ≤ 300000000000 ∧ hact p s * vact p s * rate ≤ 250000000000) &&
  sync (reg s (P.soHsync p)) (htotal p s - hact p s) && sync (reg s (P.soVsync p)) (vtotal p s - vact p s)

/-- eDP lane rate of SO_LINK[3:0] in bit/s (08 Table 8.3). -/
def edpRate (n : Nat) : Nat := if n = 1 then 1620000000 else if n = 2 then 2700000000 else if n = 3 then 5400000000 else 0

/-- The output carries the timing at a gear, or rate and lanes (08 R214). -/
def carriesTiming (p cfg lanes rate : Nat) (s : State) : Bool :=
  if 9 ≤ pipeOutput p s then
    decide (htotal p s * vtotal p s * rate * 240 ≤ 8000 * (lanes * edpRate cfg)) && [1, 2, 4].contains lanes
  else
    decide (vtotal p s * rate * (hact p s * 24 + (if pipeRelay p s then 80 else 96)) ≤ 1000 * gearRate cfg) &&
      decide (1 ≤ cfg ∧ cfg ≤ 3)

/-- The link check at the highest configuration the port offers (08 R206, R211). -/
def linkOkAt (p rate : Nat) (s : State) : Bool := carriesTiming p 3 4 rate s

/-- The checks of a write of 1 to SO_ENABLE (08 R206). -/
def soStartOk (p : Nat) (s : State) : Bool :=
  let o := pipeOutput p s
  decide (1 ≤ o ∧ o ≤ 10) &&
  (List.range 8).all (fun q => decide (q = p) || decide ((s.pipe q).st = .disabled) || decide (pipeOutput q s ≠ o)) &&
  !(pipeRelay p s && decide (9 ≤ o)) && timingOk p (setRate s) s && linkOkAt p (setRate s) s

/-- A pipe starts: it enters TRAINING (08 R207). -/
def startPipe (p : Nat) (s : State) : State :=
  let s := s.modPipe p fun x => { x with stopping := false }
  if (s.pipe p).st = .disabled then
    setPipeState p .training (s.modPipe p fun x => { x with trained := false, trainedNext := false, fails := 0, rate := 0, lanes := 0 })
  else s

/-- A pipe that is not DISABLED stops at the next tick edge (08 R208). -/
def stopPipe (p : Nat) (s : State) : State :=
  if (s.pipe p).st = .disabled then s else s.modPipe p fun x => { x with stopping := true, stopAt := s.now }

/-! ### What the pipes show (01 R22, 05 R147) -/

/-- An ACTIVE pipe's entry in force names a view on a layer. -/
def shownByPipe (v : Nat) (s : State) : Bool :=
  s.pipes.any fun (_, p) => decide (p.st = .active) && !p.sel.isEmpty &&
    (List.range 8).any fun l => codeView (selLayer p.sel p.entry l) = some v

/-- The views that an ACTIVE pipe's entry in force names (01 R22). -/
def pipeViews (p : Nat) (s : State) : List Nat :=
  let x := s.pipe p
  if x.st = .active ∧ x.sel ≠ [] then (List.range 8).filterMap fun l => codeView (selLayer x.sel x.entry l) else []

/-- SHOWN follows the pipes; a view that is not shown has no verdict that stands (01 R21, R22). -/
def refreshShown (s : State) : State :=
  { s with views := tmodAll {} (viewIxs s) (fun v x =>
      let b := shownByPipe v s
      { x with shownSel := b, verified := x.verified && b && x.shownSel }) s.views }

/-- The views that only this pipe showed as the snapshot of the present edge was captured: VERIFIED and VALID of each fall in it
with the pipe, and PIPE_HEALTHY (01 R22, R23; 08 R229). -/
def fallWithPipe (p : Nat) (s : State) : State :=
  let by' := (instant s).shownBy
  let gone := (tget [] by' p).filter fun v => !(by'.any fun e => decide (e.1 ≠ p) && e.2.contains v)
  let s := fall ((800 + p) :: gone.flatMap fun v => [v, 256 + v]) s
  if (tget [] by' p).isEmpty then s else { s with inst := { instant s with shownBy := tset [] by' p [] } }

/-- The pixel number that the pipe has reached in a frame. -/
def scannedTo (p : Nat) (f : OutFrame) (s : State) : Nat :=
  let n := (s.now - f.startAt) * htotal p s * vtotal p s * s.tick.rate / perRate
  min (vact p s * hact p s) (n / max 1 (htotal p s) * hact p s + min (n % max 1 (htotal p s)) (hact p s))

/-- The frame in progress ends where it stands: its tap stops there (08 Table 8.1, R215). -/
def cutFrame (p : Nat) (s : State) : State :=
  s.modPipe p fun x => { x with frame := x.frame.map fun f => if f.complete ∨ f.lostAt.isSome then f else { f with lostAt := some (scannedTo p f s) } }

/-- A pipe leaves ACTIVE (01 R22, 07 R527, 08 R215); the frame in progress is completed where the pipe is stopped (08 R208). -/
def leaveActive (p : Nat) (st : PipeState) (s : State) : State :=
  let s := fallWithPipe p s
  let s := if st = .disabled then s else cutFrame p s
  refreshShown (setPipeState p st (s.modPipe p fun x => { x with healthy := false, fallback := false, trainedNext := false }))

/-! ### The selection (05 R147, R148) -/

/-- The owner of a selector input of the pipe has stopped. -/
def selOwnerStopped (p : Nat) (t : Bytes) (s : State) : Bool :=
  let mask := (List.range (selRules t)).foldl (fun m e => m ||| selMask t (e + 1)) 0
  (List.range 64).any fun i => bitAt mask i &&
    (match entryUnit (ownerEntry s.owners 2 (64 * p + i)) with
     | some u => !unitRuns s u
     | none => false)

/-- The first rule that the sampled S space satisfies, else entry 0. -/
def selEntry (p : Nat) (t : Bytes) (s : State) : Nat :=
  let v := (s.sSample.toNat / 2 ^ (64 * p)) % 2 ^ 64
  (((List.range (selRules t)).map (· + 1)).find? fun e => decide (v &&& selMask t e = selValue t e)).getD 0

/-- The pipe evaluates its rules. -/
def evaluate (p : Nat) (s : State) : State :=
  let t := (s.pipe p).sel
  if t.isEmpty then s.modPipe p fun x => { x with entry := 0, defaulted := false }
  else
    let stopped := selOwnerStopped p t s
    s.modPipe p fun x => { x with entry := if stopped then 0 else selEntry p t s, defaulted := stopped }

/-! ### Links (08 R207, R214, R215) -/

/-- PIPE_TRAINING_DONE (08 R214): an attempt ends with a configuration; one that does not carry the timing is a failed
attempt, and the eighth in a row raises FS-023. -/
def pipeTrainingDone (t : Time) (p rate lanes : Nat) (s : State) : State :=
  let s := advance t s
  let x := s.pipe p
  if x.st ≠ .training ∧ x.st ≠ .linkDown ∨ x.trainedNext then s
  else if carriesTiming p rate lanes s.tick.rate s then
    causeGone 23 (s.modPipe p fun x => {
      x with
      rate := rate
      lanes := lanes % 8
      trained := true
      trainedNext := true
      trainedAt := s.now
      fails := 0 })
  else
    let s := s.modPipe p fun x => { x with trained := false, fails := min (x.fails + 1) 255 }
    let s := settle 22 (setPipeState p .training s)
    if x.fails + 1 = 8 then detect 23 (locBlock s dieSoc (0x18 + p)) s (persists := true) else s

def execPipeTrainingDone (t : Time) (p : Fin 8) (rate lanes : Nat) (s : State) : Host.Outcome State Fault Refusal :=
  done (pipeTrainingDone t p.val rate lanes s)

/-! ### The layers of a frame (02 R49, R50; 06 R168; 07 R197; 08 R221) -/

/-- A completed frame of a view for a tick. -/
def viewFrameOf (v : Nat) (tick : Word) (s : State) : Option ViewFrame := (s.view v).frames.find? fun f => f.tick = tick

/-- How a view layer of the frame of a tick is filled, and from which address; a view that returns on this very edge is not shown yet
(01 R12, R23). -/
def viewLayerMode (v : Nat) (tick : Word) (s : State) : LayerMode × Nat × Word :=
  let x := s.view v
  let addr := ((viewFrameOf v tick s).map (·.addr)).getD 0
  if x.invalid ∨ x.witInvalid ∨ (instant s).risen.contains (256 + v) then (.fallback, addr, tick)
  else match viewFrameOf v tick s with
    | some f => (if f.env.isSome then .envelope else .live, f.addr, tick)
    | none => match x.lastVer with
      | some f => if x.stale < reg s P.tickStaleLimit then (.repeated, f.addr, f.tick) else (.fallback, 0, tick)
      | none => (.fallback, 0, tick)

/-- A layer of the entry in force as the frame shows it. -/
def layerShown (p : Nat) (x : PipeSt) (tick : Word) (l : Nat) (s : State) : LayerShown :=
  let k := if x.sel.isEmpty then 0 else selLayer x.sel x.entry l
  let px := layX x.layout x.entry l
  let py := layY x.layout x.entry l
  match codeView k, codeImage k with
  | some v, _ =>
    let c := (s.view v).ctx
    let (m, a, tk) := viewLayerMode v tick s
    { layer := l, mode := m, index := v, x := px, y := py, w := cxWidth c, h := cxHeight c, addr := a, tick := tk,
      present := (viewFrameOf v tick s).isSome }
  | _, some m =>
    let i := obj s kLayer m
    { layer := l, mode := .static, index := m, x := px, y := py, w := u16 i 2, h := u16 i 4,
      addr := (tget (0, 0) s.cru.runs (objKey kLayer m)).1, tick := tick, judged := true }
  | _, _ => { layer := l, mode := .empty, index := p, x := 0, y := 0, w := 0, h := 0, addr := 0, tick := tick, judged := true }

def isView (m : LayerMode) : Bool := m matches .live | .repeated | .envelope | .fallback

/-- Lanes in service now, as a mask. -/
def lanesIn (s : State) : BitVec 3 :=
  BitVec.ofNat 3 (packBits ((List.range 3).map fun l => decide ((s.lane l).st = .inService)))

/-- The virtual channel of a relay pipe (08 R212). -/
def relayVc (p : Nat) (s : State) : Nat := fld (reg s (P.soCtrl p)) 11 8

/-- The relay's embedded line (08 R226). -/
def relayLine (p : Nat) (rcount : Word) (f : OutFrame) (s : State) : Bytes :=
  let flags := packBits [f.layers.any fun x => decide (x.mode = .repeated), f.layers.any fun x => decide (x.mode = .fallback),
    f.layers.any fun x => decide (x.mode = .envelope)]
  le 4 rcount.toNat ++ le 4 f.tick.toNat ++ [b8 (deviceNo s), b8 p, b8 flags, 0] ++
    f.layers.map (fun x => if isView x.mode then b8 x.index else 0xFF) ++ zeros 44

/-- What a relay frame begins with, in the blanking line before its first active line (08 R225, R226). -/
def relayHead (p : Nat) (rcount : Word) (line : Bytes) (s : State) : List CsiPacket :=
  [.frameStart (relayVc p s) (rcount.toNat % 65535 + 1), .long (relayVc p s) 0x12 line]

/-- The metadata of a relayed view goes through Crucible staging (01 R17): the line that is sent is the one read there. -/
def stageRelay (p : Nat) (f : OutFrame) (s : State) : State :=
  if (s.pipe p).sent.isEmpty then s
  else
    let a := relayAddr p
    let s := touch (0x18 + p) 2 a 64 (cruWrite .erg 0x5A 6 a (relayLine p (s.pipe p).rcount f s) s)
    s.modPipe p fun x => { x with sent := relayHead p x.rcount (cruRead s a 64).1 s }

/-- The frames of the views that a pipe begins to show take the shown role (02 R47). -/
def markShown (f : OutFrame) (s : State) : State :=
  f.layers.foldl (fun s l =>
    if isView l.mode then
      s.modView l.index fun x => { x with frames := x.frames.map fun g => if g.tick = f.tick then { g with shown := true } else g }
    else s) s

/-! ### Output pixels (08 R218, R221, R222) -/

/-- The colours of the icon in ROM: black, white, red (08 R222). -/
def romColour (n : Fin 3) : Px :=
  if n = 0 then { r := 0, g := 0, b := 0 } else if n = 1 then { r := 255, g := 255, b := 255 } else { r := 255, g := 0, b := 0 }

/-- The pipe as a frame draws from it: a frame that starts on the edge of an icon copy keeps the icon before it (08 R229). -/
def frameIcon (st : PipeSt) (f : OutFrame) : PipeSt :=
  if st.iconAt = some f.startAt then { st with icon := st.iconWas.1, iconBlack := st.iconWas.2 } else st

/-- A pixel of the pipe's icon. -/
def iconPixel (x : PipeSt) (i j : Nat) : Px :=
  if x.iconBlack then { r := 0, g := 0, b := 0 }
  else if x.icon.isEmpty then romColour (Config.romIcon i j)
  else
    let q := fld (u8 x.icon (0x20 + 64 * j + i / 4)) (2 * (i % 4) + 1) (2 * (i % 4))
    { r := u8 x.icon (0x10 + 4 * q), g := u8 x.icon (0x11 + 4 * q), b := u8 x.icon (0x12 + 4 * q) }

/-- A pixel of the fallback screen that fills an area (08 R221). -/
def fallbackPixel (st : PipeSt) (x0 y0 w h x y : Nat) : Px :=
  let i : Int := (x : Int) - (x0 + ((w : Int) - 256) / 2)
  let j : Int := (y : Int) - (y0 + ((h : Int) - 256) / 2)
  if 0 ≤ i ∧ i < 256 ∧ 0 ≤ j ∧ j < 256 then iconPixel st i.toNat j.toNat else { r := 0, g := 0, b := 0 }

/-- The layer covers an output pixel. -/
def layerHas (l : LayerShown) (x y : Nat) : Bool := decide (l.x ≤ x ∧ x < l.x + l.w ∧ l.y ≤ y ∧ y < l.y + l.h)

/-- Address of a layer's pixel at an output position. -/
def layerPixelAddr (l : LayerShown) (x y : Nat) (s : State) : Nat :=
  if l.mode = .static then 256 * l.addr + 256 + (y - l.y) * u16 (obj s kLayer l.index) 6 + 4 * (x - l.x)
  else 256 * l.addr + 4 * ((y - l.y) * l.w + (x - l.x))

/-- Colour and alpha of a layer at an output pixel; alpha 0 where it does not lie. -/
def layerPixel (st : PipeSt) (l : LayerShown) (x y : Nat) (s : State) : Px × Nat :=
  if l.mode = .empty ∨ layerHas l x y = false then ({ r := 0, g := 0, b := 0 }, 0)
  else if l.mode = .fallback then (fallbackPixel st l.x l.y l.w l.h x y, 255)
  else
    let a := layerPixelAddr l x y s
    ({ r := memByte s a, g := memByte s (a + 1), b := memByte s (a + 2) }, if l.mode = .static then memByte s (a + 3) else 255)

/-- The frame shows full fallback at an output pixel (08 R221, R224). -/
def fullAt (p : Nat) (f : OutFrame) (x y : Nat) (s : State) : Bool :=
  f.full || (match f.underrun with | some n => decide (n ≤ y * hact p s + x) | none => false)

/-- The blended output pixel. -/
def outputPixel (p : Nat) (st : PipeSt) (f : OutFrame) (x y : Nat) (s : State) : Px :=
  let st := frameIcon st f
  if fullAt p f x y s then fallbackPixel st 0 0 (hact p s) (vact p s) x y
  else
    let n := reg s (P.soBackground p)
    let bg : Px := { r := fld n 7 0, g := fld n 15 8, b := fld n 23 16 }
    f.layers.foldl (fun q l => let (c, a) := layerPixel st l x y s; blendPx c a q) bg

/-- No layer above layer `n` has a nonzero alpha at an output pixel (07 R180). -/
def coverAt (st : PipeSt) (f : OutFrame) (n x y : Nat) (s : State) : Bool :=
  f.layers.all fun l => decide (l.layer ≤ n) || decide ((layerPixel st l x y s).2 = 0)

/-! ### Choosing the witnesses (07 R182) -/

def golden : Nat := 0x9E3779B1

/-- The offset of block `b` in the frame of tick `k`. -/
def witnessOffset (seed v n b k : Nat) : Nat :=
  let sv := (seed + golden * (v + 1)) % 2 ^ 32
  let a := 2 * (fld sv 15 0 % 2 ^ (n - 1)) + 1
  let c := fld sv 31 16 % 2 ^ n
  let hb := ((b * golden) % 2 ^ 32) >>> (32 - n)
  (a * (k % 2 ^ n) + c + hb) % 2 ^ n

/-- The selected positions of a view's frame, in order. -/
def witnessPositions (seed v n k size : Nat) : List Nat :=
  (List.range ((size + 2 ^ n - 1) / 2 ^ n)).filterMap fun b =>
    let p := b * 2 ^ n + witnessOffset seed v n b k
    if p < size then some p else none

/-! ### The queue of a lane (07 R179, R180) -/

/-- The frame shows full fallback, or has ended, from this pixel number on: no view is drawn or tapped there (08 R215, R221, R224). -/
def tapEnd (f : OutFrame) : Option Nat :=
  if f.full then some 0
  else match f.underrun, f.lostAt with
    | some a, some b => some (min a b)
    | some a, none => some a
    | none, b => b

/-- An output pixel is tapped. -/
def tapped (p : Nat) (f : OutFrame) (x y : Nat) (s : State) : Bool :=
  match tapEnd f with | some n => decide (y * hact p s + x < n) | none => true

/-- A witness on its way to the lanes: when it arrives in ns, on which pipe, and which position of which view and tick it is. -/
structure Arrival where
  ns : Nat
  pipe : Nat
  view : Nat
  tick : Word
  pos : Nat
  deriving DecidableEq, Repr

/-- When an output pixel of a frame leaves its pipe, in ns (08 R210). -/
def pixelNs (p : Nat) (f : OutFrame) (x y : Nat) (s : State) : Nat :=
  10 * f.startAt + (y * htotal p s + x) * 10 * perRate / (htotal p s * vtotal p s * s.tick.rate)

/-- The first pipe of a view in probation in the frames of a tick: its buffer is read over that pipe's scan-out (07 R198). -/
def probePipe (v : Nat) (k : Word) (s : State) : Option Nat :=
  (s.pipes.find? fun e => [e.2.frame, e.2.prev].any fun f => f.any fun f =>
    decide (f.tick = k) && f.layers.any fun l => decide (l.index = v ∧ l.mode = .fallback) && l.present).map (·.1)

/-- A layer's witnesses arrive from a frame: those of a live view, or of a view in probation (07 R180, R198). -/
def witnessed (p : Nat) (f : OutFrame) (l : LayerShown) (s : State) : Bool :=
  match l.mode with
  | .live | .envelope => true
  | .fallback => l.present && (s.view l.index).witInvalid && decide (probePipe l.index f.tick s = some p)
  | _ => false

/-- The witnesses of a layer that arrive from `lo` on and before `hi`, in ns; one of a view in probation is of no pipe (07 Table 7.4). -/
def layerArrivals (p : Nat) (st : PipeSt) (f : OutFrame) (l : LayerShown) (lo hi : Nat) (s : State) : List Arrival :=
  let c := sub l.record 0x80 128
  let w := cxWidth c
  if !witnessed p f l s then []
  else
    (witnessPositions f.seed.toNat l.index (cxDens c) f.tick.toNat (w * cxHeight c)).filterMap fun q =>
      let x := l.x + q % w
      let y := l.y + q / w
      let n := pixelNs p f x y s
      if lo ≤ n ∧ n < hi ∧ (l.mode = .fallback ∨ (tapped p f x y s && coverAt st f l.layer x y s) = true) then
        some { ns := n, pipe := if l.mode = .fallback then 0xFF else p, view := l.index, tick := f.tick, pos := q }
      else none

/-- An arrival takes its place among others, by time. -/
def insertArrival (a : Arrival) : List Arrival → List Arrival
  | [] => [a]
  | b :: r => if a.ns ≤ b.ns then a :: b :: r else b :: insertArrival a r

/-- Every witness that arrives from `lo` on and before `hi`, in order. -/
def arrivals (lo hi : Nat) (s : State) : List Arrival :=
  (s.pipes.flatMap fun (p, st) => (st.prev.toList ++ st.frame.toList).flatMap fun f =>
    f.layers.flatMap fun l => layerArrivals p st f l lo hi s).foldr insertArrival []

/-- Time a lane takes for one witness: 50,000,000 a second (07 R179). -/
abbrev witnessNs : Nat := 20

/-- A witness reaches the queue of a lane: dropped where 8,192 wait, one that leaves on this very edge among them (07 R179, R204). -/
def takeWitness (x : Lane) (a : Arrival) : Lane :=
  if a.ns + 8191 * witnessNs ≤ x.busyTo then { x with dropped := (a.view, a.tick, a.pipe, a.pos) :: x.dropped }
  else { x with busyTo := max x.busyTo a.ns + witnessNs, load := x.load + 1 }

/-- A lane takes the witnesses that have arrived since it last did; the first one dropped in a tick counts and raises FS-018. -/
def feedLane (l : Nat) (s : State) : State :=
  let x := s.lane l
  if x.st ≠ .inService then s.modLane l fun x => { x with tapTo := 10 * s.now }
  else
    let y := (arrivals x.tapTo (10 * s.now) s).foldl takeWitness x
    let s := s.modLane l fun _ => { y with tapTo := 10 * s.now }
    if y.dropped.length = x.dropped.length || x.overflow then s
    else detect 18 (locBlock s dieSoc (0x20 + l))
      (satField (s.modLane l fun x => { x with overflow := true }) P.witOverflow (8 * l + 7) (8 * l) 1)

/-- The lanes have taken every witness up to now. -/
def feedLanes (s : State) : State := (List.range 3).foldl (fun s l => feedLane l s) s

/-! ### The start of a frame (02 R46, 08 R210) -/

/-- A time in REF cycles x 2^24 is at most two pixel clocks from another (08 R210). -/
def nearBy (p : Nat) (d : Int) (s : State) : Bool :=
  decide (d.natAbs * (htotal p s * vtotal p s * s.tick.rate) ≤ 2 * perRate * 2 ^ 24)

/-- The tick whose renders a frame that starts now shows: its first active line lies within two pixel clocks of SO_PHASE in this
tick, or, at SO_PHASE 0, of the next edge (02 R46, 08 R210). -/
def startTick (p : Nat) (s : State) : Option Word :=
  let ph := reg s (P.soPhase p)
  let x : Int := ((s.now - s.tick.lastEdge : Nat) : Int) * (100 * s.tick.rate : Nat) - (ph * perRate : Nat)
  if x.natAbs * (htotal p s * vtotal p s) ≤ 200 * perRate then some (s.tick.count - 1)
  else if ph = 0 ∧ s.tick.loose = false ∧ nearBy p (((s.now - s.tick.lastEdge : Nat) : Int) * 2 ^ 24 - nominalEdge s) s then
    some s.tick.count
  else none

/-- The commit record of a view's frame, where the lanes have read it for another pipe already (06 R170). -/
def recordRead (v : Nat) (k : Word) (s : State) : Option (Bytes × Bool) :=
  s.pipes.findSome? fun e => [e.2.frame, e.2.prev].findSome? fun f => f.bind fun f =>
    if f.tick = k then (f.layers.find? fun l => decide (l.index = v) && isView l.mode && !l.record.isEmpty).map fun l => (l.record, l.recPoison)
    else none

/-- The lanes in service read the commit record of a view for a tick. -/
def readRecordOf (v : Nat) (k : Word) (s : State) : State :=
  (List.range 3).foldl (fun s n => if (s.lane n).st = .inService then touch (0x20 + n) 3 (commitAddr v (k.toNat % 2)) 512 s else s) s

/-- A layer of the frame in progress takes the record that the lanes have read for it. -/
def setRecord (p layer : Nat) (r : Bytes × Bool) (s : State) : State :=
  s.modPipe p fun x => { x with frame := x.frame.map fun f => { f with layers := f.layers.map fun m =>
    if m.layer = layer then { m with record := r.1, recPoison := r.2 } else m } }

/-- The lanes read the commit record of each view of a frame that no pipe has begun to show yet (06 R170, 07 R186). -/
def readRecords (p : Nat) (f : OutFrame) (s : State) : State :=
  f.layers.foldl (fun s l =>
    if isView l.mode && l.mode ≠ .repeated then
      match recordRead l.index f.tick s with
      | some r => setRecord p l.layer r s
      | none =>
        let s := readRecordOf l.index f.tick s
        setRecord p l.layer (cruRead s (commitAddr l.index (f.tick.toNat % 2)) 512) s
    else s) s

/-- What a frame reads of the Crucible for a layer (04 Table 4.4; log 179). -/
def layerRun (l : LayerShown) (s : State) : List (Nat × Nat) :=
  match l.mode with
  | .live | .envelope | .repeated => [(256 * l.addr, 4 * l.w * l.h)]
  | .static => [(256 * l.addr + 256, l.h * u16 (obj s kLayer l.index) 6)]
  | _ => []

/-- A frame begins: the layers of the entry in force, fallback, and the relay's Frame Start and embedded line (08 R221, R225 to
R227). -/
def startFrame (p : Nat) (k : Word) (s : State) : State :=
  let x := s.pipe p
  let layers := (List.range 8).map fun l => layerShown p x k l s
  let anyFb := layers.any fun l => decide (l.mode = .fallback)
  let full := !cruOk s || !domUp 1 s || (anyFb && bitAt (reg s (P.soCtrl p)) 4)
  let relay := pipeRelay p s
  let f : OutFrame := {
    tick := k, entry := x.entry, layers := layers, full := full, unsent := relay && full, startAt := s.now, lanes := lanesIn s,
    seed := w32 (regE s P.witSeed) }
  let fresh := relay && !full && layers.all fun l => !isView l.mode || decide (l.mode = .live ∨ l.mode = .envelope)
  let rc := if fresh then x.rcount + 1 else x.rcount
  let s := s.modPipe p fun x => { x with
    prev := x.frame, frame := some f, fallback := full || anyFb, rcount := rc, advanced := fresh,
    sent := if relay && !full then relayHead p rc (relayLine p rc f s) s else [] }
  if full || anyFb then satField s (P.soCount p) 23 16 1 else s

/-- What a pipe holds is kept before a frame starts. -/
def keepStart (p : Nat) (s : State) : State :=
  let x := s.pipe p
  let u : StartUndo := {
    frame := x.frame, prev := x.prev, fallback := x.fallback, rcount := x.rcount, advanced := x.advanced, sent := x.sent,
    full := decide (fld (reg s (P.soCount p)) 23 16 = 255) }
  { s with inst := { instant s with started := tset none (instant s).started p (some u) } }

/-- A frame that has begun on this very edge has not begun. -/
def undoStart (p : Nat) (s : State) : State :=
  match tget none (instant s).started p with
  | none => s
  | some u =>
    let counted := (s.pipe p).frame.any fun f => f.full || f.layers.any fun l => decide (l.mode = .fallback)
    let s := s.modPipe p fun x => { x with
      frame := u.frame, prev := u.prev, fallback := u.fallback, rcount := u.rcount, advanced := u.advanced, sent := u.sent }
    if counted then takeBack (P.soCount p) 23 16 1 u.full s else s

/-- What a frame that has begun reads: the commit records of its views, and its layers; its views take the shown role. -/
def beginScan (p : Nat) (s : State) : State :=
  match (s.pipe p).frame with
  | none => s
  | some f =>
    let s := stageRelay p f (readRecords p f s)
    markShown f (if f.full then s else touchAll (0x18 + p) 2 (f.layers.flatMap fun l => layerRun l s) s)

/-- The layers of two frames are the same but for the records read for them. -/
def sameLayers (f g : OutFrame) : Bool :=
  let bare (l : LayerShown) : LayerShown := { l with record := [], recPoison := false }
  decide (f.full = g.full ∧ f.layers.map bare = g.layers.map bare)

/-- A frame that has begun on this very edge begins again: where its layers have changed, with all it reads. -/
def restart (p : Nat) (f : OutFrame) (s : State) : State :=
  let s := (startFrame p f.tick s).modPipe p fun x => { x with frame := x.frame.map fun g => { g with underrun := f.underrun } }
  if (s.pipe p).frame.any fun g => sameLayers f g then
    s.modPipe p fun x => { x with frame := x.frame.map fun g => { g with
      layers := (g.layers.zip f.layers).map fun y => { y.1 with record := y.2.record, recPoison := y.2.recPoison } } }
  else beginScan p s

/-- The frames that have begun on this very edge begin by what has changed on it: a declaration, the tables and the selection of a
tick edge, an owner that stops (05 R150, 07 R197, 08 R229); a pipe that has left ACTIVE begins none. -/
def redoStarts (s : State) : State :=
  (instant s).started.foldl (fun s e =>
    match e.2, (s.pipe e.1).frame with
    | some _, some f =>
      let s := undoStart e.1 s
      if (s.pipe e.1).st = .active then restart e.1 f s else s
    | _, _ => s) s

/-- SCANOUT_FRAME_START (02 R46, 08 R210, 18 R468): the pipe begins the frame that shows the renders of a tick, and reads its
layers. -/
def scanoutFrameStart (t : Time) (p : Nat) (s : State) : State :=
  let s := advance t s
  let x := s.pipe p
  match startTick p s with
  | none => s
  | some k =>
    if x.st ≠ .active ∨ (x.frame.any fun f => decide (f.tick = k)) then s
    else
      beginScan p (startFrame p k (keepStart p (feedLanes s)))

def execScanoutFrameStart (t : Time) (p : Fin 8) (s : State) : Host.Outcome State Fault Refusal :=
  done (scanoutFrameStart t p.val s)

/-- The selection of this very edge is made again, for an owner that has stopped on it (05 R148, R150). -/
def reselect (s : State) : State :=
  if s.tick.lastEdge = s.now ∧ s.tick.loose = false then
    redoStarts (refreshShown ((List.range 8).foldl (fun s p => evaluate p s) s))
  else s

/-! ### Invalid declarations (02 R50, R52) -/

/-- VIEW_INVALID (02 R50): the stale count has reached TICK_STALE_LIMIT. A recovery from probation that completes on the same edge
does not count: it restarts at 0 (02 R52). -/
def viewInvalid (t : Time) (v : Nat) (s : State) : State :=
  let s := advance t s
  let x := s.view v
  if x.invalid ∨ x.stale < reg s P.tickStaleLimit ∨ ctxEnabled x.ctx = false then s
  else
    let s := { s with inst := { instant s with declared := v :: (instant s).declared } }
    let s := fall [256 + v] (s.modView v fun x => { x with
      invalid := true, stale := reg s P.tickStaleLimit, recover := 0,
      probRun := if (instant s).recovered.contains v then 0 else x.probRun,
      witInvalid := x.witInvalid || (instant s).recovered.contains v })
    raiseEvent 20 2 [v, 1] (countReg (redoStarts s) P.tickInvalidEvents)

def execViewInvalid (t : Time) (v : Fin 256) (s : State) : Host.Outcome State Fault Refusal := done (viewInvalid t v.val s)

/-! ### The end of a frame (07 R201, R527) -/

/-- The last active line of the frame has ended, within the variation of the pixel clock (08 R210). -/
def activeOver (p : Nat) (f : OutFrame) (s : State) : Bool :=
  decide (10000 * vact p s * perRate ≤ (s.now - f.startAt) * vtotal p s * s.tick.rate * 10015)

/-- Fields of region `r` of a table (07 Table 7.3). -/
def regionField (t : Bytes) (r off : Nat) : Nat := u16 t (0x10 + 32 * r + off)

/-- Check value of the shown pixels of a region. -/
def regionCrc (p : Nat) (st : PipeSt) (f : OutFrame) (r : Nat) (s : State) : Nat :=
  let x0 := regionField st.region r 0
  let y0 := regionField st.region r 2
  let x1 := regionField st.region r 4
  let y1 := regionField st.region r 6
  crcStore ((List.range (y1 + 1 - y0)).flatMap fun j => (List.range (x1 + 1 - x0)).flatMap fun i =>
    let q := outputPixel p st f (x0 + i) (y0 + j) s; [b8 q.r, b8 q.g, b8 q.b])

/-- The lanes in service for the whole of a frame: at its first active line, and since then up to this edge (07 R190, R201, R204). -/
def frameLanes (f : OutFrame) (s : State) : BitVec 3 :=
  (List.range 3).foldl (fun m l =>
    if (s.lane l).leftAt.any fun t => decide (f.startAt ≤ t ∧ t < s.now ∨ t = f.startAt) then setBv m l false else m) f.lanes

/-- The enabled regions of the entry in force. -/
def checkedRegions (st : PipeSt) (f : OutFrame) : List Nat :=
  if st.region.isEmpty ∨ f.full then []
  else (List.range (u8 st.region 1)).filter fun r => bitAt (regionField st.region r 8) f.entry && bitAt (u8 st.region (0x10 + 32 * r + 0x0A)) 0

/-- Lanes that find a region matching, among those in service for the whole frame; `wrong` are lanes whose own result is
the opposite. -/
def lanesMatching (good : Bool) (lanes wrong : BitVec 3) : Nat :=
  ((List.range 3).filter fun l => lanes.getLsbD l && (good != wrong.getLsbD l)).length

/-- Regions that fail (07 R201). -/
def failingRegions (p : Nat) (st : PipeSt) (f : OutFrame) (wrong : BitVec 3) (s : State) : List Nat :=
  (checkedRegions st f).filter fun r =>
    decide (lanesMatching (decide (regionCrc p st f r s = u32 st.region (0x10 + 32 * r + 0x0C))) (frameLanes f s) wrong < 2)

/-- A static layer of the frame lies in a poisoned tile (04 Table 4.4). -/
def staticPoisoned (f : OutFrame) (s : State) : Bool :=
  !f.full && f.layers.any fun l => decide (l.mode = .static) &&
    (let a := 256 * l.addr + 256
     let n := l.h * u16 (obj s kLayer l.index) 6
     s.cru.poison.any fun k => decide (256 * k < a + n ∧ a < 256 * k + 256))

/-- The first lines of a relay frame: one RGB888 packet each (08 R225; the order of the bytes of a pixel is R, G, B, log 180). -/
def relayLines (p : Nat) (st : PipeSt) (f : OutFrame) (n : Nat) (s : State) : List CsiPacket :=
  (List.range n).map fun y => .long (relayVc p s) 0x24 ((List.range (hact p s)).flatMap fun x =>
    let q := outputPixel p st f x y s; [b8 q.r, b8 q.g, b8 q.b])

/-- PIPE_FRAME_COMPLETE (07 R201, R527): region results, and PIPE_HEALTHY. The region table in force at the completion judges the
whole frame (DESIGN CHOICE, log 199). -/
def pipeFrameComplete (t : Time) (p : Nat) (wrong : BitVec 3) (s : State) : State :=
  let s := advance t s
  let x := s.pipe p
  match x.frame with
  | none => s
  | some f =>
    if f.complete ∨ f.lostAt.isSome ∨ !activeOver p f s then s
    else
      let bad := failingRegions p x f wrong s
      let poison := staticPoisoned f s
      let ok := bad.isEmpty && !poison && f.underrun.isNone && decide (x.st = .active)
      let s := s.modPipe p fun x => { x with
        frame := some { f with complete := true }, healthy := ok, crcFail := !bad.isEmpty,
        sent := if x.sent.isEmpty then [] else x.sent ++ relayLines p x f (vact p s) s ++ [.frameEnd (relayVc p s)] }
      let s := fallIf (!ok) [800 + p] (riseIf (ok && !x.healthy) (800 + p) s)
      let s := if bad.isEmpty then s else countReg s P.witCrcEvents
      let s := bad.foldl (fun s r => detect 20 (locBlock s dieSoc (0x18 + p) r) s) s
      if poison then detect 26 (locBlock s dieSoc (0x18 + p)) s else s

def execPipeFrameComplete (t : Time) (p : Fin 8) (wrong : BitVec 3) (s : State) : Host.Outcome State Fault Refusal :=
  done (pipeFrameComplete t p.val wrong s)

/-- SCANOUT_UNDERRUN (08 R224): from a pixel of the frame in progress on. -/
def scanoutUnderrun (t : Time) (p x y : Nat) (s : State) : State :=
  let s := advance t s
  let st := s.pipe p
  match st.frame with
  | none => s
  | some f =>
    if st.st ≠ .active ∨ f.complete ∨ f.full ∨ f.underrun.isSome ∨ hact p s ≤ x ∨ vact p s ≤ y then s
    else
      let s := if st.fallback then s else satField s (P.soCount p) 23 16 1
      let s := (fall [800 + p] s).modPipe p fun q => { q with
        frame := some { f with underrun := some (y * hact p s + x) }, healthy := false, fallback := true }
      detect 24 (locBlock s dieSoc (0x18 + p)) (satField s (P.soCount p) 15 8 1)

def execScanoutUnderrun (t : Time) (p : Fin 8) (x y : Nat) (s : State) : Host.Outcome State Fault Refusal :=
  done (scanoutUnderrun t p.val x y s)

/-- ICON_PARITY_ERROR (08 R223): plain black until the icon has been reloaded. -/
def iconParityError (t : Time) (p : Nat) (s : State) : State :=
  let s := advance t s
  let s := s.modPipe p fun x => { x with iconBlack := true, iconReload := true }
  detect 25 (locBlock s dieSoc (0x18 + p)) (satField s (P.soCount p) 31 24 1)

def execIconParityError (t : Time) (p : Fin 8) (s : State) : Host.Outcome State Fault Refusal := done (iconParityError t p.val s)

/-- The icon copied into the pipe's SRAM at a tick edge or at start-up (08 R223); where SO_FB_ICON selects an entry that holds no icon,
the pipe draws the one in ROM (DESIGN CHOICE, log 200). -/
def reloadIcon (p : Nat) (s : State) : State :=
  let n := reg s (P.soFbIcon p)
  s.modPipe p fun x => { x with
    iconSel := n, icon := if n = 0 then [] else obj s kIcon n, iconBlack := false, iconReload := false,
    iconWas := if x.iconAt = some s.now then x.iconWas else (x.icon, x.iconBlack), iconAt := some s.now }

/-! ### Link loss (08 R215) -/

/-- A relay has sent the lines of the frame in progress as far as the pipe has come. -/
def cutRelay (p : Nat) (s : State) : State :=
  s.modPipe p fun x => { x with
    sent := match x.frame with
      | some f => if x.sent.isEmpty ∨ f.complete then x.sent else x.sent ++ relayLines p x f (scannedTo p f s / max 1 (hact p s)) s
      | none => x.sent }

/-- PIPE_LINK_LOSS (08 R215): the tap stops; a frame that starts on this edge has not started (R229). -/
def pipeLinkLoss (t : Time) (p : Nat) (s : State) : State :=
  let s := advance t s
  let x := s.pipe p
  if x.st = .active then
    let s := undoStart p s
    let s := (cutRelay p s).modPipe p fun x => { x with trained := false }
    let s := satField (leaveActive p .linkDown s) (P.soCount p) 7 0 1
    detect 22 (locBlock s dieSoc (0x18 + p)) s
  else s.modPipe p fun x => { x with trained := false, trainedNext := false }

def execPipeLinkLoss (t : Time) (p : Fin 8) (s : State) : Host.Outcome State Fault Refusal := done (pipeLinkLoss t p.val s)

/-! ### Layouts, regions, layers, icons (08 R216 to R222, 07 R200) -/

/-- LAYOUT_LOAD (08 R216, R217, R219). -/
def layoutLoadBody (t : Bytes) (s : State) : Answer :=
  if t.length ≠ 528 then reject Status.badParam s
  else if !crcEmbeddedOk t 4 then reject Status.checkFail s
  else
    let p := u8 t 0
    if 7 < p ∨ !allZero (sub t 1 3) ∨ !allZero (sub t 8 8) ∨ !placesOk s p (latestSel s p) t 256 [] ∨ !fetchOk s p (latestSel s p) t then
      reject Status.badParam s
    else (Status.ok, [], storeObj kLayout p t ((noteLoad (4 * p + 1) (s.pipe p).layoutNext s).modPipe p fun x => { x with layoutNext := some t }))

def execLayoutLoad (h : Hdr) (tbl : Bytes) (s : State) : Host.Outcome State Fault Refusal :=
  done (serve h 0x0401 tbl (.layoutLoad h tbl) (layoutLoadBody tbl) s)

/-- A region lies within the active area, with its fields in range (07 R200). -/
def regionOk (p : Nat) (t : Bytes) (r : Nat) (s : State) : Bool :=
  let o := 0x10 + 32 * r
  decide (regionField t r 0 ≤ regionField t r 4 ∧ regionField t r 4 < hact p s ∧ regionField t r 2 ≤ regionField t r 6 ∧
    regionField t r 6 < vact p s ∧ u8 t (o + 0x0A) ≤ 1 ∧ u8 t (o + 0x0B) = 0) && allZero (sub t (o + 0x10) 16)

/-- CRCREG_LOAD (07 R200). -/
def crcregLoadBody (t : Bytes) (s : State) : Answer :=
  if t.length < 16 then reject Status.badParam s
  else if !crcEmbeddedOk t 4 then reject Status.checkFail s
  else
    let p := u8 t 0
    let n := u8 t 1
    if 7 < p ∨ 16 < n ∨ t.length ≠ 16 + 32 * n ∨ u16 t 2 ≠ 0 ∨ !allZero (sub t 8 8) ∨ !(List.range n).all fun r => regionOk p t r s then
      reject Status.badParam s
    else (Status.ok, [], storeObj kRegion p t ((noteLoad (4 * p + 2) (s.pipe p).regionNext s).modPipe p fun x => { x with regionNext := some t }))

def execCrcregLoad (h : Hdr) (tbl : Bytes) (s : State) : Host.Outcome State Fault Refusal :=
  done (serve h 0x0402 tbl (.crcregLoad h tbl) (crcregLoadBody tbl) s)

/-- Bytes of MRAM held by static layer images (08 R220). -/
def layerStoreUsed (s : State) : Nat := storeUsed [kLayer] s

/-- LAYER_LOAD (08 R220, 04 R91). -/
def layerLoadObj (ix : Nat) (i : Bytes) (s : State) : Answer :=
  if 255 < ix ∨ i.length < 256 then reject Status.badParam s
  else if !crcEmbeddedOk i 0x0C then reject Status.checkFail s
  else if u8 i 0 ≠ ix ∨ u8 i 1 ≠ 0 ∨ u16 i 2 = 0 ∨ 2560 < u16 i 2 ∨ u16 i 4 = 0 ∨ 1600 < u16 i 4 ∨ u16 i 6 % 256 ≠ 0 ∨
      u16 i 6 < 4 * u16 i 2 ∨ u32 i 8 ≠ 256 + u16 i 4 * u16 i 6 ∨ i.length ≠ u32 i 8 ∨ !allZero (sub i 0x10 240) then
    reject Status.badParam s
  else if selNamesImage s ix then reject Status.wrongState s
  else if 8388608 < layerStoreUsed s - storedLength kLayer ix s + i.length then reject Status.denied s
  else match placeObject kLayer ix (storeObj kLayer ix i s) with
    | some s' => (Status.ok, [], s')
    | none => reject Status.denied s

def execLayerLoad (h : Hdr) (part : BulkPart) (s : State) : Host.Outcome State Fault Refusal :=
  done (serve h 0x0403 (bulkBytes part) (.layerLoad h part) (bulk 0x0403 part layerLoadObj) s)

def layerDeleteBody (ix : Nat) (s : State) : Answer := deleteObject kLayer 255 ix (selNamesImage s ix) s

def execLayerDelete (h : Hdr) (index : Nat) (s : State) : Host.Outcome State Fault Refusal :=
  done (serve h 0x0404 (be 1 index) (.layerDelete h index) (layerDeleteBody index) s)

/-- ICON_LOAD (08 R222, R223): the pipes that select the entry copy it at the next tick edge. -/
def iconLoadObj (ix : Nat) (i : Bytes) (s : State) : Answer :=
  if ix = 0 ∨ 7 < ix ∨ i.length ≠ 16416 then reject Status.badParam s
  else if !crcEmbeddedOk i 4 then reject Status.checkFail s
  else if u8 i 0 ≠ ix ∨ !allZero (sub i 1 3) ∨ !allZero (sub i 8 8) ∨ !allZero (sub i 0x10 4) ∨
      u8 i 0x17 ≠ 0 ∨ u8 i 0x1B ≠ 0 ∨ u8 i 0x1F ≠ 0 then reject Status.badParam s
  else
    let s := storeObj kIcon ix i s
    (Status.ok, [], (List.range 8).foldl (fun s p =>
      if reg s (P.soFbIcon p) = ix then s.modPipe p fun x => { x with iconReload := true } else s) s)

def execIconLoad (h : Hdr) (part : BulkPart) (s : State) : Host.Outcome State Fault Refusal :=
  done (serve h 0x0405 (bulkBytes part) (.iconLoad h part) (bulk 0x0405 part iconLoadObj) s)

end Sys2Proof.Machine
end

