-- ==== Sys2Proof/Machine/Operands.lean ====
section
/-! DEFINITION. The operand spaces of the interlock cores (10 R267 to R272), instruction words (10 R271), and the
instruction checks of 10 Table 10.11. -/

namespace Sys2Proof.Machine

/-! ### Instruction words (10 Table 10.5) -/

/-- How an opcode's operand part is read, and which operands it allows (10 Tables 10.6 to 10.8). -/
inductive OpClass where
  | plain | jump | readBit | writeBit | readBits | writeBits | edge | timer | timerNum | counter | word | wordMem | dword
  | imm | immBit
  deriving DecidableEq, Repr

/-- The class of an opcode, none where the opcode is undefined. -/
def opClass (code : Nat) : Option OpClass :=
  if code ∈ [0x00, 0x01, 0x06, 0x18, 0x19, 0x1A, 0x1B, 0x1C, 0x1D, 0x46, 0x56] then some .plain
  else if 0x02 ≤ code ∧ code ≤ 0x05 then some .jump
  else if 0x10 ≤ code ∧ code ≤ 0x16 then some .readBit
  else if 0x20 ≤ code ∧ code ≤ 0x23 then some .writeBit
  else if code = 0x24 ∨ code = 0x25 then some .edge
  else if 0x30 ≤ code ∧ code ≤ 0x33 then some .timer
  else if 0x34 ≤ code ∧ code ≤ 0x36 then some .timerNum
  else if 0x38 ≤ code ∧ code ≤ 0x3D then some .counter
  else if code = 0x41 ∨ code = 0x44 then some .wordMem
  else if code = 0x42 ∨ code = 0x45 then some .dword
  else if code = 0x43 then some .imm
  else if code = 0x66 then some .immBit
  else if code = 0x47 then some .readBits
  else if code = 0x48 then some .writeBits
  else if code = 0x40 ∨ (0x50 ≤ code ∧ code ≤ 0x55) ∨ (0x60 ≤ code ∧ code ≤ 0x65) ∨ (0x70 ≤ code ∧ code ≤ 0x75) then
    some .word
  else none

/-- The operand part of a word for a class; reserved bits are not looked at here. -/
def argOf (cl : OpClass) (w : Word) : TArg :=
  match cl with
  | .plain => .nil
  | .jump => .target (w.extractLsb' 0 16)
  | .edge => .edge (w.extractLsb' 0 12)
  | .timer => .timer { num := w.extractLsb' 16 8, pv := w.getLsbD 15, base := w.extractLsb' 13 2, count := w.extractLsb' 0 13 }
  | .timerNum | .counter => .num (w.extractLsb' 16 8)
  | _ => .opd { space := w.extractLsb' 20 4, ixf := w.getLsbD 19, addr := w.extractLsb' 0 16 }

/-- The bits [23:0] of an operand part (10 Table 10.5). -/
def argBits : TArg → Nat
  | .nil => 0
  | .target t => t.toNat
  | .edge e => e.toNat
  | .timer tm => tm.num.toNat * 65536 + b2n tm.pv * 32768 + tm.base.toNat * 8192 + tm.count.toNat
  | .num n => n.toNat * 65536
  | .opd o => o.space.toNat * 1048576 + b2n o.ixf * 524288 + o.addr.toNat

/-- The word of an instruction (10 R271). -/
def encodeTrio (i : TInstr) : Word := w32 (i.code.toNat * 16777216 + argBits i.arg)

/-- The instruction a word spells, none where its opcode is undefined or a bit that its format gives as 0 is 1. -/
def decodeTrio (w : Word) : Option TInstr :=
  match opClass (w.toNat / 16777216) with
  | none => none
  | some cl =>
    let i : TInstr := { code := w.extractLsb' 24 8, arg := argOf cl w }
    if encodeTrio i = w then some i else none

/-- The operand part has the form of the opcode's class. -/
def argFits (i : TInstr) : Bool :=
  match opClass i.code.toNat, i.arg with
  | some .plain, .nil => true
  | some .jump, .target _ => true
  | some .edge, .edge _ => true
  | some .timer, .timer _ => true
  | some .timerNum, .num _ => true
  | some .counter, .num _ => true
  | some .readBit, .opd _ | some .writeBit, .opd _ | some .readBits, .opd _ | some .writeBits, .opd _
  | some .word, .opd _ | some .wordMem, .opd _ | some .dword, .opd _ | some .imm, .opd _ | some .immBit, .opd _ => true
  | _, _ => false

/-! ### Spaces (10 Table 10.2) -/

/-- Space codes. -/
abbrev spI : Nat := 0
abbrev spQ : Nat := 1
abbrev spM : Nat := 2
abbrev spK : Nat := 3
abbrev spT : Nat := 4
abbrev spC : Nat := 5
abbrev spX : Nat := 6
abbrev spXQ : Nat := 7
abbrev spY : Nat := 8
abbrev spV : Nat := 9
abbrev spS : Nat := 10
abbrev spF : Nat := 11
abbrev spW : Nat := 12
abbrev spKW : Nat := 13
abbrev spIMM : Nat := 14

/-- Elements of a space; 0 for IMM and the reserved code. -/
def spaceSize (sp : Nat) : Nat :=
  [32, 16, 4096, 1024, 256, 256, 2048, 2048, 2048, 1024, 512, 64, 2048, 512].getD sp 0

/-- A bit space that instructions may read; one that they may write (10 Table 10.2). -/
def readable (sp : Nat) : Bool := decide (sp ≤ 11)
def writable (sp : Nat) : Bool := [spQ, spM, spK, spY, spS].contains sp

/-- The offset of a space's area in the data SRAM (10 Table 10.3); T and C lie in their records. -/
def spaceBase (sp : Nat) : Nat :=
  [0x0000, 0x0004, 0x0400, 0x0600, 0x1000, 0x3400, 0x0100, 0x0200, 0x0300, 0x0080, 0x0040, 0x0008, 0x2000, 0x3000].getD sp 0

/-- The byte that holds bit `i` of a space, and the bit's position in it (10 R269, R278, R281). -/
def bitHome (sp i : Nat) : Nat × Nat :=
  if sp = spT then (0x1000 + 16 * i + 0xC, 0)
  else if sp = spC then (0x3400 + 16 * i + 8, 0)
  else (spaceBase sp + i / 8, i % 8)

/-- A bit of a space. -/
def readBit (c : Core) (sp i : Nat) : Bool :=
  let (a, b) := bitHome sp i
  bitAt (Memory.read c.sram a).toNat b

/-- A bit of the data SRAM written. -/
def putBit (c : Core) (a b : Nat) (v : Bool) : Core :=
  { c with sram := Memory.write c.sram a (b8 (setBitN (Memory.read c.sram a).toNat b v)) }

/-- A bit of a space written. -/
def writeBit (c : Core) (sp i : Nat) (v : Bool) : Core :=
  let (a, b) := bitHome sp i
  putBit c a b v

/-- Sixteen bits of a space from a multiple of 16 on. -/
def readBits (c : Core) (sp i : Nat) : Nat := packBits ((List.range 16).map fun k => readBit c sp (i + k))

/-- Little-endian fields of the data SRAM. -/
def sramNat (c : Core) (a n : Nat) : Nat := leVal (Memory.bytes c.sram a n)
def putSram (c : Core) (a : Nat) (bs : Bytes) : Core := { c with sram := Memory.put c.sram a bs }

/-- The reserved bytes of the data SRAM, which read as 0 (10 Tables 10.3, 10.9, 10.10). -/
def sramReserved (a : Nat) : Bool :=
  decide (0x0006 ≤ a ∧ a < 0x0008 ∨ 0x0010 ≤ a ∧ a < 0x0040 ∨ 0x0680 ≤ a ∧ a < 0x0700 ∨ 0x0900 ≤ a ∧ a < 0x1000 ∨ 0x4400 ≤ a) ||
    decide (0x1000 ≤ a ∧ a < 0x2000 ∧ 13 ≤ a % 16) || decide (0x3400 ≤ a ∧ a < 0x4400 ∧ 9 ≤ a % 16)

/-- The bits of a byte of the F space that carry a flag of 10 Table 10.4 and may differ: F3 and F4 are constants, all bits not
listed read 0 (10 R270). -/
def flagByte (a : Nat) (b : Byte) : Byte :=
  if a = 0x0008 then (b &&& 0x67) ||| 0x10
  else if a = 0x000A then b &&& 0x0F
  else if 0x000B ≤ a ∧ a < 0x0010 then 0
  else if a % 16 = 12 ∧ 0x1000 ≤ a ∧ a < 0x2000 ∨ a % 16 = 8 ∧ 0x3400 ≤ a ∧ a < 0x4400 then b &&& 0x07
  else b

/-- Bytes as they come to lie at an offset: reserved bytes and bits stay 0 (10 R269, R270). -/
def laidBytes : Nat → Bytes → Bytes
  | _, [] => []
  | a, b :: r => (if sramReserved a then 0 else flagByte a b) :: laidBytes (a + 1) r

/-- The offset of word `i` of W or KW. -/
def wordHome (sp i : Nat) : Nat := spaceBase sp + 2 * i

/-- A word of W or KW. -/
def readWord (c : Core) (sp i : Nat) : Nat := sramNat c (wordHome sp i) 2
def writeWord (c : Core) (sp i v : Nat) : Core := putSram c (wordHome sp i) (le 2 (v % 65536))

/-- The effective index (10 R272): formed without wrap. -/
def effIndex (c : Core) (o : OpRef) : Nat := o.addr.toNat + (if o.ixf then c.ix.toNat else 0)

/-- The operand of a word instruction (10 R272): sign-extended; INDEX where an indexed operand lies beyond its space. -/
def wordOperand (c : Core) (o : OpRef) : Except Nat Word :=
  if o.space.toNat = spIMM then .ok (o.addr.signExtend 32)
  else
    let i := effIndex c o
    if i < spaceSize o.space.toNat then .ok ((BitVec.ofNat 16 (readWord c o.space.toNat i)).signExtend 32) else .error 5

/-! ### Instruction checks (10 Table 10.11) -/

/-- The checks of one operand reference: space, reserved bits, index, write. -/
def opdOk (cl : OpClass) (o : OpRef) : Bool :=
  let sp := o.space.toNat
  let a := o.addr.toNat
  let idx (n : Nat) : Bool := o.ixf || decide (a + n < spaceSize sp)
  match cl with
  | .readBit => readable sp && decide (a < 4096) && idx 0
  | .writeBit => writable sp && decide (a < 4096) && idx 0
  | .readBits => readable sp && decide (a < 4096) && (o.ixf || (decide (a % 16 = 0) && idx 15))
  | .writeBits => writable sp && decide (a < 4096) && (o.ixf || (decide (a % 16 = 0) && idx 15))
  | .word => (decide (sp = spIMM) && !o.ixf) || ((decide (sp = spW) || decide (sp = spKW)) && decide (a < 2048) && idx 0)
  | .wordMem => (decide (sp = spW) || decide (sp = spKW)) && decide (a < 2048) && idx 0
  | .dword => (decide (sp = spW) || decide (sp = spKW)) && decide (a < 2048) && idx 1
  | .imm => decide (sp = spIMM) && !o.ixf
  | .immBit => decide (sp = spIMM) && !o.ixf && decide (a < 32)
  | _ => true

/-- The checks of 10 Table 10.11 that one word takes by itself, in a program of `len` instructions. -/
def wordOk (len : Nat) (w : Word) : Bool :=
  match decodeTrio w with
  | none => false
  | some i =>
    match opClass i.code.toNat, i.arg with
    | some .jump, .target t => decide (t.toNat < len)
    | some .timer, .timer tm => !(tm.pv && (decide (tm.base ≠ 0) || decide (tm.count ≠ 0)))
    | some cl, .opd o => opdOk cl o
    | some _, _ => true
    | none, _ => false

/-- What a word drives, for the single-driver check: a timer, an edge bit, a counter's up or down input. -/
def driverOf (w : Word) : Option Nat :=
  match decodeTrio w with
  | none => none
  | some i =>
    match i.arg with
    | .timer tm => some tm.num.toNat
    | .edge e => some (10000 + e.toNat)
    | .num n => if i.code = 0x38 then some (1000 + n.toNat) else if i.code = 0x39 then some (2000 + n.toNat) else none
    | _ => none

/-- The index of the first failing instruction of a program, none where every check of 10 Table 10.11 passes. -/
def firstBad (len : Nat) (ws : List Word) (i : Nat) (seen : List Nat) : Option Nat :=
  match ws with
  | [] => none
  | w :: r =>
    let clash := match driverOf w with | some d => seen.contains d | none => false
    let badEnd := r.isEmpty && decide (w.toNat / 16777216 ≠ 1 ∧ w.toNat / 16777216 ≠ 2)
    if !wordOk len w || clash || badEnd then some i
    else firstBad len r (i + 1) (match driverOf w with | some d => d :: seen | none => seen)

end Sys2Proof.Machine
end

