-- ==== Sys2Proof/Machine/Flags.lean ====
section
/-! DEFINITION. The word flags of the interlock cores (10 R273, R276). -/

namespace Sys2Proof.Machine

/-- WACC written with Z and N of the result, and V and C as given; V also sets OVS (10 R273). -/
def setWacc (c : Core) (r : Word) (v : Bool := false) (cy : Bool := false) : Core :=
  { c with wacc := r, z := decide (r = 0), n := r.msb, v := v, c := cy, ovs := c.ovs || v }

/-- V written by a timer or counter instruction; Z, N and C unchanged (10 R275). -/
def setV (c : Core) (v : Bool) : Core := { c with v := v, ovs := c.ovs || v }

/-- V of a + b and of a - b in 32-bit two's complement. -/
def addV (a b : Word) : Bool := decide (a.toInt + b.toInt < -2 ^ 31 ∨ 2 ^ 31 ≤ a.toInt + b.toInt)
def subV (a b : Word) : Bool := decide (a.toInt - b.toInt < -2 ^ 31 ∨ 2 ^ 31 ≤ a.toInt - b.toInt)

/-- C of a + b: the carry out of bit 31; C of a - b: the borrow. -/
def addC (a b : Word) : Bool := decide (2 ^ 32 ≤ a.toNat + b.toNat)
def subC (a b : Word) : Bool := decide (a.toNat < b.toNat)

/-- The flags of WACC - op, WACC unchanged, and a comparison result in ACC (10 Table 10.8). -/
def setCompare (c : Core) (b : Word) (r : Bool) : Core :=
  let d := c.wacc - b
  { c with acc := r, z := decide (d = 0), n := d.msb, v := subV c.wacc b, c := subC c.wacc b, ovs := c.ovs || subV c.wacc b }

/-- F8 to F12 follow the flags: byte 1 of the F area (10 R269, R270). -/
def syncF (c : Core) : Core :=
  { c with sram := Memory.write c.sram 0x0009 (b8 (packBits [c.z, c.n, c.v, c.c, c.ovs])) }

/-- A debugger's write to the data SRAM (09 R260): reserved bytes and bits stay 0, and F8 to F12 go on following the flags
(10 R269, R270). -/
def putDebug (c : Core) (off : Nat) (bs : Bytes) : Core := syncF (putSram c off (laidBytes off bs))

end Sys2Proof.Machine
end

