-- ==== Sys2Proof/Machine/TrioSem.lean ====
section
/-! DEFINITION. What each trio instruction does to the core that executes it (10 R274 to R282, R308). A meaning answers
the core after the instruction, or the code of the program exception it raises (10 Table 10.12), in which case nothing
is written. -/

namespace Sys2Proof.Machine

/-- What an instruction does to a core. -/
abbrev CoreStep : Type := Core → Except Nat Core

/-- The PC moved to the next instruction, and the clocks of the instruction added (10 R277). -/
def next (clk : Nat) (c : Core) : Core := { c with pc := c.pc + 1, clocks := c.clocks + clk }

/-- One clock more for an indexed operand (10 R277). -/
def ixClk (o : OpRef) (clk : Nat) : Nat := if o.ixf then clk + 1 else clk

/-- The PC at a target. -/
def goto (t clk : Nat) (c : Core) : Core := { c with pc := t, clocks := c.clocks + clk }

/-! ### Shared forms -/

/-- An instruction that computes ACC from ACC and a bit. -/
def bitOp (o : OpRef) (f : Bool → Bool → Bool) : CoreStep := fun c =>
  let i := effIndex c o
  if i < spaceSize o.space.toNat then
    .ok (next (ixClk o 4) { c with acc := f c.acc (readBit c o.space.toNat i) })
  else .error 5

/-- An assignment: a bit takes a value computed from ACC and its own. -/
def bitStore (o : OpRef) (f : Bool → Bool → Bool) : CoreStep := fun c =>
  let i := effIndex c o
  if i < spaceSize o.space.toNat then
    .ok (next (ixClk o 4) (writeBit c o.space.toNat i (f c.acc (readBit c o.space.toNat i))))
  else .error 5

/-- An instruction that pops the logic stack into a new ACC. -/
def popOp (f : Bool → Bool → Bool) : CoreStep := fun c =>
  match c.ls with
  | [] => .error 2
  | x :: r => .ok (next 2 { c with acc := f c.acc x, ls := r })

/-- An arithmetic or logic instruction on WACC and a word operand. -/
def wordOp (o : OpRef) (clk : Nat) (f : Core → Word → Core) : CoreStep := fun c =>
  match wordOperand c o with
  | .ok b => .ok (next (ixClk o clk) (f c b))
  | .error e => .error e

/-- A comparison. -/
def compareOp (o : OpRef) (f : Int → Int → Bool) : CoreStep :=
  wordOp o 3 fun c b => setCompare c b (f c.wacc.toInt b.toInt)

/-! ### Control -/

def semNop : CoreStep := fun c => .ok (next 2 c)

/-- END: program execution ends for the cycle; LS and CS are discarded. -/
def semEnd : CoreStep := fun c => .ok (next 2 { c with ended := true, ls := [], cs := [] })

def semJmp (t : BitVec 16) : CoreStep := fun c => .ok (goto t.toNat 4 c)
def semJc (t : BitVec 16) : CoreStep := fun c => .ok (if c.acc then goto t.toNat 4 c else next 2 c)
def semJnc (t : BitVec 16) : CoreStep := fun c => .ok (if c.acc then next 2 c else goto t.toNat 4 c)

def semCall (t : BitVec 16) : CoreStep := fun c =>
  if 8 ≤ c.cs.length then .error 3 else .ok (goto t.toNat 5 { c with cs := (c.pc + 1) :: c.cs })

def semRet : CoreStep := fun c =>
  match c.cs with
  | [] => .error 4
  | p :: r => .ok (goto p 5 { c with cs := r })

/-! ### Bit logic, stack, assignment -/

def semLd (o : OpRef) : CoreStep := bitOp o fun _ x => x
def semLdn (o : OpRef) : CoreStep := bitOp o fun _ x => !x
def semAnd (o : OpRef) : CoreStep := bitOp o fun a x => a && x
def semAndn (o : OpRef) : CoreStep := bitOp o fun a x => a && !x
def semOr (o : OpRef) : CoreStep := bitOp o fun a x => a || x
def semOrn (o : OpRef) : CoreStep := bitOp o fun a x => a || !x
def semXor (o : OpRef) : CoreStep := bitOp o fun a x => a != x
def semNot : CoreStep := fun c => .ok (next 2 { c with acc := !c.acc })

def semPsh : CoreStep := fun c =>
  if 16 ≤ c.ls.length then .error 1 else .ok (next 2 { c with ls := c.acc :: c.ls })

def semPop : CoreStep := popOp fun _ x => x

def semTop : CoreStep := fun c =>
  match c.ls with
  | [] => .error 2
  | x :: _ => .ok (next 2 { c with acc := x })

def semAnds : CoreStep := popOp fun a x => a && x
def semOrs : CoreStep := popOp fun a x => a || x

def semSt (o : OpRef) : CoreStep := bitStore o fun a _ => a
def semStn (o : OpRef) : CoreStep := bitStore o fun a _ => !a
def semSet (o : OpRef) : CoreStep := bitStore o fun a x => a || x
def semRst (o : OpRef) : CoreStep := bitStore o fun a x => !a && x

/-! ### Edges (10 Table 10.6, 11 R308) -/

/-- Edge bit `e` of the data SRAM (10 R268, R269). -/
def edgeBit (c : Core) (e : Nat) : Bool := bitAt (Memory.read c.sram (0x0700 + e / 8)).toNat (e % 8)
def putEdge (c : Core) (e : Nat) (v : Bool) : Core := putBit c (0x0700 + e / 8) (e % 8) v

/-- An element stands in the exchange mask; its entry removed. -/
def masked (c : Core) (k : Nat) : Bool := c.mask.contains k
def unmask (c : Core) (k : Nat) : Core := { c with mask := c.mask.filter (· ≠ k) }

/-- An edge instruction; at the first execution after an exchange the previous state is the input itself. -/
def edgeOp (e : BitVec 12) (f : Bool → Bool → Bool) : CoreStep := fun c =>
  let k := 10000 + e.toNat
  if masked c k then .ok (next 5 { unmask (putEdge c e.toNat c.acc) k with acc := false })
  else .ok (next 5 { putEdge c e.toNat c.acc with acc := f c.acc (edgeBit c e.toNat) })

def semPe (e : BitVec 12) : CoreStep := edgeOp e fun a p => a && !p
def semNe (e : BitVec 12) : CoreStep := edgeOp e fun a p => !a && p

/-! ### Timers (10 R278, R279, 11 R308) -/

/-- A timer's record: PRESET, ELAPSED, LAST, Q, IN, RUN. -/
def timerAt (n : Nat) : Nat := 0x1000 + 16 * n
def tmPreset (c : Core) (n : Nat) : Nat := sramNat c (timerAt n) 4
def tmElapsed (c : Core) (n : Nat) : Nat := sramNat c (timerAt n + 4) 4
def tmLast (c : Core) (n : Nat) : Nat := sramNat c (timerAt n + 8) 4
def tmFlag (c : Core) (n b : Nat) : Bool := bitAt (Memory.read c.sram (timerAt n + 0xC)).toNat b

/-- A timer's record written. -/
def putTimer (c : Core) (n preset elapsed last : Nat) (q inp run : Bool) : Core :=
  putSram c (timerAt n) (le 4 preset ++ le 4 elapsed ++ le 4 last ++ [b8 (packBits [q, inp, run])])

/-- The unit of a BASE code in 10 µs (10 R271, R279). -/
def timerUnit (b : BitVec 2) : Nat := if b = 0 then 100 else if b = 1 then 1000 else if b = 2 then 10000 else 100000

/-- What a timer's evaluation computes: ELAPSED, Q, RUN from the input, its previous value, PRESET, ELAPSED, dt, and
the present Q and RUN. -/
abbrev TimerRule : Type := (acc inp : Bool) → (preset elapsed dt : Nat) → (q run : Bool) → Nat × Bool × Bool

def tonRule : TimerRule := fun acc inp preset elapsed dt _ _ =>
  if acc then
    let e := if inp then min (elapsed + dt) preset else 0
    (e, decide (preset ≤ e), !decide (preset ≤ e))
  else (0, false, false)

def tofRule : TimerRule := fun acc inp preset elapsed dt q _ =>
  if acc then (0, true, false)
  else if inp then (0, decide (0 < preset), decide (0 < preset))
  else if q then
    let e := min (elapsed + dt) preset
    (e, decide (e < preset), decide (e < preset))
  else (elapsed, false, false)

def tpRule : TimerRule := fun acc inp preset elapsed dt q run =>
  if run then
    let e := min (elapsed + dt) preset
    if preset ≤ e then (e, false, false) else (e, q, true)
  else if acc && !inp then (0, decide (0 < preset), decide (0 < preset))
  else (elapsed, q, run)

def trtRule : TimerRule := fun acc inp preset elapsed dt _ _ =>
  let e := if acc && inp then min (elapsed + dt) preset else elapsed
  (e, decide (preset ≤ e), acc && !decide (preset ≤ e))

/-- TON, TOF, TP and TRT (10 R279); at the first execution after an exchange IN and LAST are taken from the input
presented and T_NOW (11 R308). -/
def timerOp (rule : TimerRule) (tm : TimerRef) : CoreStep := fun c =>
  let n := tm.num.toNat
  let first := masked c n
  let preset := if tm.pv then tmPreset c n else tm.count.toNat * timerUnit tm.base
  let inp := if first then c.acc else tmFlag c n 1
  let last := if first then c.tnow.toNat else tmLast c n
  let dt := (c.tnow.toNat + 2 ^ 32 - last) % 2 ^ 32
  let (e, q, run) := rule c.acc inp preset (tmElapsed c n) dt (tmFlag c n 0) (tmFlag c n 2)
  let c' := putTimer c n preset e c.tnow.toNat q c.acc run
  .ok (next 12 { (if first then unmask c' n else c') with acc := q })

def semTon (tm : TimerRef) : CoreStep := timerOp tonRule tm
def semTof (tm : TimerRef) : CoreStep := timerOp tofRule tm
def semTp (tm : TimerRef) : CoreStep := timerOp tpRule tm
def semTrt (tm : TimerRef) : CoreStep := timerOp trtRule tm

def semTrs (n : BitVec 8) : CoreStep := fun c =>
  .ok (next 6 (if c.acc then
    putTimer c n.toNat (tmPreset c n.toNat) 0 c.tnow.toNat false (tmFlag c n.toNat 1) false else c))

def semTps (n : BitVec 8) : CoreStep := fun c =>
  .ok (next 6 (setV (putSram c (timerAt n.toNat) (le 4 (if c.wacc.msb then 0 else c.wacc.toNat))) c.wacc.msb))

def semTle (n : BitVec 8) : CoreStep := fun c => .ok (next 6 (setWacc c (w32 (tmElapsed c n.toNat))))

/-! ### Counters (10 R281, R282, 11 R308) -/

/-- A counter's record: VALUE, PRESET, C, UPE, DNE. -/
def counterAt (n : Nat) : Nat := 0x3400 + 16 * n
def ctValue (c : Core) (n : Nat) : Int := signed 32 (sramNat c (counterAt n) 4)
def ctPreset (c : Core) (n : Nat) : Int := signed 32 (sramNat c (counterAt n + 4) 4)
def ctFlag (c : Core) (n b : Nat) : Bool := bitAt (Memory.read c.sram (counterAt n + 8)).toNat b
def putValue (c : Core) (n : Nat) (v : Int) : Core := putSram c (counterAt n) (le 4 (wrapN 32 v))
def putCtFlag (c : Core) (n b : Nat) (v : Bool) : Core := putBit c (counterAt n + 8) b v

/-- CTU (10 R282). -/
def semCtu (k : BitVec 8) : CoreStep := fun c =>
  let n := k.toNat
  let upe := if masked c (1000 + n) then c.acc else ctFlag c n 1
  let rise := c.acc && !upe
  let full := decide (ctValue c n = 2 ^ 31 - 1)
  let v := if rise && !full then ctValue c n + 1 else ctValue c n
  let q := decide (ctPreset c n ≤ v)
  .ok (next 10 { setV (putCtFlag (putCtFlag (putValue (unmask c (1000 + n)) n v) n 1 c.acc) n 0 q) (rise && full) with acc := q })

/-- CTD (10 R282). -/
def semCtd (k : BitVec 8) : CoreStep := fun c =>
  let n := k.toNat
  let dne := if masked c (2000 + n) then c.acc else ctFlag c n 2
  let rise := c.acc && !dne
  let empty := decide (ctValue c n = -2 ^ 31)
  let v := if rise && !empty then ctValue c n - 1 else ctValue c n
  let q := decide (v ≤ 0)
  .ok (next 10 { setV (putCtFlag (putCtFlag (putValue (unmask c (2000 + n)) n v) n 2 c.acc) n 0 q) (rise && empty) with acc := q })

def semCrs (n : BitVec 8) : CoreStep := fun c =>
  .ok (next 6 (if c.acc then putCtFlag (putValue c n.toNat 0) n.toNat 0 false else c))

def semCld (n : BitVec 8) : CoreStep := fun c =>
  .ok (next 6 (if c.acc then putCtFlag (putValue c n.toNat (ctPreset c n.toNat)) n.toNat 0 false else c))

def semCps (n : BitVec 8) : CoreStep := fun c => .ok (next 6 (putSram c (counterAt n.toNat + 4) (le 4 c.wacc.toNat)))

def semClv (n : BitVec 8) : CoreStep := fun c => .ok (next 6 (setWacc c (w32i (ctValue c n.toNat))))

/-! ### Words (10 Table 10.8) -/

def semLdw (o : OpRef) : CoreStep := wordOp o 4 fun c b => setWacc c b

/-- LDWU: the word zero-extended. -/
def semLdwu (o : OpRef) : CoreStep := wordOp o 4 fun c b => setWacc c (b &&& 0xFFFF)

/-- LDD and STD need both words inside the space. -/
def semLdd (o : OpRef) : CoreStep := fun c =>
  let i := effIndex c o
  let sp := o.space.toNat
  if i + 1 < spaceSize sp then
    .ok (next (ixClk o 5) (setWacc c (w32 (readWord c sp (i + 1) * 65536 + readWord c sp i))))
  else .error 5

def semLdih (imm : BitVec 16) : CoreStep := fun c =>
  .ok (next 2 (setWacc c (w32 (imm.toNat * 65536 + c.wacc.toNat % 65536))))

def semStw (o : OpRef) : CoreStep := fun c =>
  let i := effIndex c o
  if i < spaceSize o.space.toNat then .ok (next (ixClk o 4) (writeWord c o.space.toNat i c.wacc.toNat)) else .error 5

def semStd (o : OpRef) : CoreStep := fun c =>
  let i := effIndex c o
  let sp := o.space.toNat
  if i + 1 < spaceSize sp then
    .ok (next (ixClk o 5) (writeWord (writeWord c sp i c.wacc.toNat) sp (i + 1) (c.wacc.toNat / 65536)))
  else .error 5

def semLdx : CoreStep := fun c => .ok (next 2 { c with ix := BitVec.ofNat 16 c.wacc.toNat })

/-- LDB and STB take an effective index that is a multiple of 16 with 16 bits inside the space (10 Table 10.12). -/
def semLdb (o : OpRef) : CoreStep := fun c =>
  let i := effIndex c o
  if i % 16 = 0 ∧ i + 15 < spaceSize o.space.toNat then
    .ok (next (ixClk o 4) (setWacc c (w32 (readBits c o.space.toNat i))))
  else .error 5

def semStb (o : OpRef) : CoreStep := fun c =>
  let i := effIndex c o
  if i % 16 = 0 ∧ i + 15 < spaceSize o.space.toNat then
    .ok (next (ixClk o 6) (putSram c (spaceBase o.space.toNat + i / 8) (le 2 (c.wacc.toNat % 65536))))
  else .error 5

def semAdd (o : OpRef) : CoreStep := wordOp o 3 fun c b => setWacc c (c.wacc + b) (addV c.wacc b) (addC c.wacc b)
def semSub (o : OpRef) : CoreStep := wordOp o 3 fun c b => setWacc c (c.wacc - b) (subV c.wacc b) (subC c.wacc b)

def semMul (o : OpRef) : CoreStep := wordOp o 6 fun c b =>
  let p := c.wacc.toInt * b.toInt
  setWacc c (w32i p) (decide (p < -2 ^ 31 ∨ 2 ^ 31 ≤ p))

/-- DIV: by 0 leaves WACC unchanged and sets V; 0x8000_0000 by -1 gives 0x8000_0000 and sets V. -/
def semDiv (o : OpRef) : CoreStep := wordOp o 34 fun c b =>
  if b = 0 then setWacc c c.wacc true
  else setWacc c (w32i (c.wacc.toInt.tdiv b.toInt)) (decide (c.wacc.toInt = -2 ^ 31 ∧ b.toInt = -1))

def semMin (o : OpRef) : CoreStep := wordOp o 3 fun c b => setWacc c (if b.toInt < c.wacc.toInt then b else c.wacc)
def semMax (o : OpRef) : CoreStep := wordOp o 3 fun c b => setWacc c (if c.wacc.toInt < b.toInt then b else c.wacc)
def semNeg : CoreStep := fun c => .ok (next 2 (setWacc c (0 - c.wacc) (decide (c.wacc = 0x80000000))))
def semAndw (o : OpRef) : CoreStep := wordOp o 3 fun c b => setWacc c (c.wacc &&& b)
def semOrw (o : OpRef) : CoreStep := wordOp o 3 fun c b => setWacc c (c.wacc ||| b)
def semXorw (o : OpRef) : CoreStep := wordOp o 3 fun c b => setWacc c (c.wacc ^^^ b)

/-- The shift count: op [4:0] (10 R276). -/
def shCount (b : Word) : Nat := b.toNat % 32

def semShl (o : OpRef) : CoreStep := wordOp o 3 fun c b =>
  let n := shCount b
  setWacc c (c.wacc <<< n) false (decide (0 < n) && c.wacc.getLsbD (32 - n))

def semShr (o : OpRef) : CoreStep := wordOp o 3 fun c b =>
  let n := shCount b
  setWacc c (c.wacc >>> n) false (decide (0 < n) && c.wacc.getLsbD (n - 1))

def semSar (o : OpRef) : CoreStep := wordOp o 3 fun c b =>
  let n := shCount b
  setWacc c (c.wacc.sshiftRight n) false (decide (0 < n) && c.wacc.getLsbD (n - 1))

def semBtst (b : BitVec 5) : CoreStep := fun c => .ok (next 2 { c with acc := c.wacc.getLsbD b.toNat })

def semCeq (o : OpRef) : CoreStep := compareOp o fun a b => decide (a = b)
def semCne (o : OpRef) : CoreStep := compareOp o fun a b => decide (a ≠ b)
def semClt (o : OpRef) : CoreStep := compareOp o fun a b => decide (a < b)
def semCle (o : OpRef) : CoreStep := compareOp o fun a b => decide (a ≤ b)
def semCgt (o : OpRef) : CoreStep := compareOp o fun a b => decide (b < a)
def semCge (o : OpRef) : CoreStep := compareOp o fun a b => decide (b ≤ a)

/-! ### By opcode -/

/-- The meaning of a format N instruction. -/
def semPlain (code : Nat) : Option CoreStep :=
  if code = 0x00 then some semNop else if code = 0x01 then some semEnd else if code = 0x06 then some semRet
  else if code = 0x18 then some semNot else if code = 0x19 then some semPsh else if code = 0x1A then some semPop
  else if code = 0x1B then some semTop else if code = 0x1C then some semAnds else if code = 0x1D then some semOrs
  else if code = 0x46 then some semLdx else if code = 0x56 then some semNeg else none

/-- The meaning of a format O instruction. -/
def semOpd (code : Nat) (o : OpRef) : Option CoreStep :=
  (([(0x10, semLd), (0x11, semLdn), (0x12, semAnd), (0x13, semAndn), (0x14, semOr), (0x15, semOrn), (0x16, semXor),
    (0x20, semSt), (0x21, semStn), (0x22, semSet), (0x23, semRst), (0x40, semLdw), (0x41, semLdwu), (0x42, semLdd),
    (0x44, semStw), (0x45, semStd), (0x47, semLdb), (0x48, semStb), (0x50, semAdd), (0x51, semSub), (0x52, semMul)] ++
   [(0x53, semDiv), (0x54, semMin), (0x55, semMax), (0x60, semAndw), (0x61, semOrw), (0x62, semXorw), (0x63, semShl),
    (0x64, semShr), (0x65, semSar), (0x70, semCeq), (0x71, semCne), (0x72, semClt), (0x73, semCle), (0x74, semCgt),
    (0x75, semCge), (0x43, fun o => semLdih o.addr), (0x66, fun o => semBtst (o.addr.setWidth 5))]
    : List (Nat × (OpRef → CoreStep))).find? fun e => e.1 = code).map fun e => e.2 o

/-- The meaning of an instruction by its opcode, for a step of the debugger. -/
def semOf (i : TInstr) : Option CoreStep :=
  let code := i.code.toNat
  match i.arg with
  | .nil => semPlain code
  | .opd o => semOpd code o
  | .edge e => if code = 0x24 then some (semPe e) else if code = 0x25 then some (semNe e) else none
  | .timer tm =>
    if code = 0x30 then some (semTon tm) else if code = 0x31 then some (semTof tm)
    else if code = 0x32 then some (semTp tm) else if code = 0x33 then some (semTrt tm) else none
  | .num n =>
    if code = 0x34 then some (semTrs n) else if code = 0x35 then some (semTps n) else if code = 0x36 then some (semTle n)
    else if code = 0x38 then some (semCtu n) else if code = 0x39 then some (semCtd n) else if code = 0x3A then some (semCrs n)
    else if code = 0x3B then some (semCld n) else if code = 0x3C then some (semCps n) else if code = 0x3D then some (semClv n)
    else none
  | .target t =>
    if code = 0x02 then some (semJmp t) else if code = 0x03 then some (semJc t) else if code = 0x04 then some (semJnc t)
    else if code = 0x05 then some (semCall t) else none

end Sys2Proof.Machine
end

