-- ==== Sys2Proof/Machine/Trio.lean ====
section
/-! DEFINITION. The trios (chapter 09) and their cycle (11 R286 to R290): blame, halting, the phases of a cycle, and the
execution of one instruction by one core. -/

namespace Sys2Proof.Machine

/-! ### Names -/

/-- The run unit a core belongs to: the voted trio, or itself in split mode. -/
def unitOfCore (s : State) (ci : Nat) : Nat :=
  if (s.trio (ci / 3)).split then 4 * (ci / 3) + 1 + ci % 3 else 4 * (ci / 3)

/-- The cores of a run unit. -/
def unitCores (u : Nat) : List Nat :=
  if u % 4 = 0 then [coreIx (u / 4) 0, coreIx (u / 4) 1, coreIx (u / 4) 2] else [coreIx (u / 4) (u % 4 - 1)]

/-- The cores of a voted trio that are IN, lowest letter first (09 R233). -/
def inCores (s : State) (t : Nat) : List Nat := (List.range 3).filter fun k => (s.core (coreIx t k)).st = .inn

/-- The cores of a voted trio whose offers stand in the vote: the IN cores, and one that the voter test alongside this vote has taken
OUT (09 R251, R263). -/
def voters (s : State) (t : Nat) : List Nat :=
  (List.range 3).filter fun k => decide ((s.core (coreIx t k)).st = .inn) || (s.trio t).leaving.getLsbD k

/-- The cores of a unit that execute: those that offer to the vote, or the split core itself. -/
def running (s : State) (u : Nat) : List Nat :=
  if u % 4 = 0 then (voters s (u / 4)).map (coreIx (u / 4)) else unitCores u

/-- The number of the cycle in progress, or of the last one (09 R242; the first is 0, log 16). -/
def cycleNo (x : RunUnit) : Nat := x.cycle - 1

/-- The unit executes: RUN or a debugger step, and no voter-suspect halt due. -/
def alive (s : State) (u : Nat) : Bool :=
  (decide ((s.unit u).st = .run) || (s.unit u).stepping) && !(u % 4 = 0 && suspectDue s (u / 4))

/-- A start of a unit is entered in TRIO_RESTART: its kind, a warm request performed cold, the count (11 Table 11.7). -/
def startMark (u kind : Nat) (fell : Bool) (s : State) : State :=
  let id := P.trioRestart (u / 4)
  setReg s id (kind + 4 * b2n fell + 65536 * min 65535 (reg s id / 65536 + 1))

/-! ### Halting (09 R248, R254) -/

/-- A staged exchange is abandoned when the unit leaves RUN: the reply carries WRONG_STATE (11 R306, R309). -/
def abandonExchange (u : Nat) (s : State) : State :=
  match (s.unit u).stage with
  | none => s
  | some (_, _, _, h) =>
    let s := s.modUnit u fun x => { x with stage := none }
    let s := setReg s P.trioExchLast (u / 4 + 8 * (u % 4) + 32 * 2)
    finishHeld h 0x0506 Status.wrongState [] s

/-- A unit leaves RUN: an owner that stops on a tick edge puts its pipes on entry 0 at that edge (05 R148, R150). -/
def leaveRun (u : Nat) (st : RunState) (s : State) : State := reselect (setRunState u st s)

/-- A unit enters HALTED with a cause of TRIO_HALT_CAUSE, and the trio-halt fault with its DETAIL (09 R248, R254, 10 R284,
15 Table 15.5). A trio that has met its third blame halts as voter-suspect, whatever else halts it (09 R250, log 182). -/
def haltUnit (u cause : Nat) (s : State) (exc core : Nat := 0) : State :=
  if (s.unit u).st ≠ .run ∧ (s.unit u).st ≠ .debug then s
  else
    let third := decide (u % 4 = 0) && suspectDue s (u / 4)
    let cause := if third then 5 else cause
    let c := s.core (coreIx (u / 4) core)
    let s := s.modUnit u fun x => { x with
      cause := cause, excCode := exc, excCore := core, excPc := c.pc, excCycle := cycleNo x, excTnow := c.tnow, haltAt := s.now,
      inCycle := false, wdtOn := false, stopReq := false, dbgWrites := [], resumeAt := none, stepping := false }
    let s := setReg s (P.trioHaltCause (u / 4)) cause
    let s := leaveRun u .halted s
    let s := detect 29 (locBlock s dieSoc (0x40 + u / 4)) s (cause + 256 * exc + 65536 * core)
    let s := if third then detect 30 (locBlock s dieSoc (0x40 + u / 4)) (s.modTrio (u / 4) fun x => { x with suspect := true }) else s
    abandonExchange u s

/-- A trio with fewer than two cores IN does not run: it halts (09 R235, R248, R251). -/
def haltBelowTwo (t : Nat) (s : State) : State := if (inCores s t).length < 2 then haltUnit (4 * t) 1 s else s

/-- A core leaves for OUT (09 R233, R235, R241): FS-028 when the trio ran 2oo3; with fewer than two cores IN the trio halts. -/
def coreOut (t k : Nat) (s : State) : State :=
  let was := (inCores s t).length
  let s := s.modCore (coreIx t k) fun c => { c with st := .out, failed := true }
  haltBelowTwo t (if was = 3 then detect 28 (locBlock s dieSoc (0x40 + t)) s else s)

/-- One core is blamed (09 R245, R247): it leaves IN for REJOINING; FS-027. A core that is OUT stays so (Table 9.1). -/
def blame (t k : Nat) (s : State) : State :=
  let ci := coreIx t k
  let s := s.modCore ci fun c => { c with
    st := if c.st = .inn then .rejoining else c.st, blames := (cycleNo (s.unit (4 * t)) :: c.blames).take 3 }
  let s := satField s (P.trioBlame t) (8 * k + 7) (8 * k) 1
  let again := (s.trio t).readmitted.any fun j => decide (j.val = k)
  let s := if again then satField s (P.trioReint t) 31 16 1 else s
  let s := s.modTrio t fun x => { x with readmitted := x.readmitted.filter fun j => decide (j.val ≠ k) }
  let s := { s with inst := { instant s with blamed := insertNat ci (instant s).blamed } }
  detect 27 (locBlock s dieSoc (coreBlock t k)) s

/-- The cores found wrong in one step are blamed; two different cores blamed in one step halt the trio (09 R245), and so does a
blame that leaves fewer than two cores IN (09 R235). -/
def blameAll (t : Nat) (ks : List Nat) (s : State) : State :=
  let s := ks.foldl (fun s k => blame t k s) s
  if 2 ≤ ks.length then haltUnit (4 * t) 3 s else if ks.isEmpty then s else haltBelowTwo t s

/-! ### The cycle watchdog (11 R289, R290) -/

/-- Its period: 2 ms longer for the cycle that carries an exchange pause. -/
def wdtPeriod (u : Nat) (s : State) : Time :=
  let x := s.unit u
  1000 * reg s (P.trioWdt (u / 4)) + (if x.exchCycle || (x.stage.isSome && x.inCycle) then ms 2 else 0)

/-- The watchdog of a unit has run out. -/
def wdtOver (u : Nat) (s : State) : Bool := (s.unit u).wdtOn && decide ((s.unit u).wdtAt + wdtPeriod u s ≤ s.now)

/-- The expiry: counted, and the unit halts with cause 6. -/
def wdtExpire (u : Nat) (s : State) : State := haltUnit u 6 (satField s P.trioWdtExpiries 15 0 1)

/-- A program exception halts the unit; on the edge of the watchdog's expiry the expiry is recorded (10 R284, R285). -/
def raiseExc (u exc core : Nat) (s : State) : State := if wdtOver u s then wdtExpire u s else haltUnit u 7 s exc core

/-! ### Majority (09 R237) -/

/-- Bitwise majority of three words. -/
def maj3 (a b c : Nat) : Nat := (a &&& b) ||| (a &&& c) ||| (b &&& c)

/-- The value most of the offers have, and the cores whose offer differs; with two cores, none is right where they
differ. Answers none where two cores differ (2oo2) or three differ pairwise. -/
def agreeOn {α : Type} [DecidableEq α] (offers : List (Nat × α)) : Option (α × List Nat) :=
  match offers with
  | [(_, a), (_, b)] => if a = b then some (a, []) else none
  | [(i, a), (j, b), (k, c)] =>
    if a = b then some (a, if b = c then [] else [k])
    else if a = c then some (a, [j])
    else if b = c then some (b, [i]) else none
  | _ => none

/-! ### Errors of a core's data SRAM (09 R244) -/

/-- Location of a place in a core's SRAM, macro 0 the data and macro 1 the instruction SRAM: the 64-bit word, and the bit in it
(DESIGN CHOICE of the numbering, log 17). -/
def sramLoc (s : State) (ci macroNo off bit : Nat) : BitVec 64 :=
  locBlock s dieSoc (coreBlock (ci / 3) (ci % 3)) macroNo (off / 8) (8 * (off % 8) + bit)

/-- A corrected error is counted and reported; the word is written back (09 R244). -/
def correctedAt (ci b : Nat) (s : State) : State :=
  let s := s.modCore ci fun c => { c with ceAt := c.ceAt.filter (· ≠ b) }
  detect 33 (sramLoc s ci 0 (b / 8) (b % 8)) (satField s (P.trioSram (ci / 3)) 15 0 1)

/-- An uncorrectable error of the data SRAM is counted and reported, located to the word (09 R244, R262). -/
def reportUncorrectable (ci off : Nat) (s : State) : State :=
  detect 34 (sramLoc s ci 0 (8 * (off / 8)) 0) (satField s (P.trioSram (ci / 3)) 23 16 1)

/-- An uncorrectable error of the data SRAM: the core of a voted trio is blamed, a split core halts (09 R244, R254). -/
def uncorrectableAt (ci off : Nat) (s : State) : State :=
  let t := ci / 3
  let s := reportUncorrectable ci off s
  if (s.trio t).split then
    haltUnit (unitOfCore s ci) 8 (s.modUnit (unitOfCore s ci) fun x => { x with dataErr := true }) 0 (ci % 3)
  else blameAll t [ci % 3] s

/-- The bytes of the data SRAM that an instruction touches. -/
def touches (i : TInstr) (c : Core) : List Nat :=
  let run (a n : Nat) := (List.range n).map (a + ·)
  match i.arg with
  | .opd o =>
    let sp := o.space.toNat
    let k := effIndex c o
    if sp = spIMM ∨ spaceSize sp ≤ k then []
    else if sp = spW ∨ sp = spKW then run (wordHome sp k) (if i.code = 0x42 ∨ i.code = 0x45 then 4 else 2)
    else if i.code = 0x47 ∨ i.code = 0x48 then (run 0 16).map fun j => (bitHome sp (k + j)).1
    else [(bitHome sp k).1]
  | .edge e => [0x700 + e.toNat / 8]
  | .timer tm => run (timerAt tm.num.toNat) 13
  | .num n => if i.code.toNat < 0x38 then run (timerAt n.toNat) 13 else run (counterAt n.toNat) 9
  | _ => []

/-! ### The phases of a cycle (11 Table 11.1) -/

/-- A byte area from a number. -/
def area (n v : Nat) : Bytes := le n v

/-- The F area at a cycle start (10 Table 10.4). -/
def fArea (tnow : Nat) (first warm cold exch degraded : Bool) : Bytes :=
  let blink (n : Nat) := decide (tnow % (2 * n) < n)
  [b8 (packBits [first, warm, cold, false, true, exch, degraded]), 0,
   b8 (packBits [blink 5000, blink 25000, blink 50000, blink 100000]), 0, 0, 0, 0, 0]

/-- Phase 3: the agreed image, the V snapshot and F written into a core's data SRAM; the registers set as 10 Table 10.1
states. -/
def imageWrite (i x xq v tnow : Nat) (f : Bytes) (clk : Nat) (c : Core) : Core :=
  let m := Memory.put c.sram 0x0000 (area 4 i)
  let m := Memory.put m 0x0008 f
  let m := Memory.put m 0x0080 (area 128 v)
  let m := Memory.put m 0x0100 (area 256 x)
  let m := Memory.put m 0x0200 (area 256 xq)
  { c with
    sram := m, pc := 0, acc := false, ls := [], wacc := 0, ix := 0, z := false, n := false, v := false, c := false,
    ovs := false, cs := [], tnow := w32 tnow, ended := false, clocks := clk, steps := 0 }

/-- What the input registers of a voted trio's core give a cycle that starts now: what arrives on this edge is held (09 R236,
R263). -/
def frozenInputs (now : Time) (c : Core) : Nat × Nat × Nat :=
  if c.inAt = some now then (c.inWas.1.toNat, c.inWas.2.1.toNat, c.inWas.2.2.toNat) else (c.inI.toNat, c.inX.toNat, c.inXQ.toNat)

/-- A core's sample with its disturbances: I, X values, X qualities (09 R237). -/
def sampleOf (now : Time) (c : Core) (k : Nat) (strays : List Stray) : Nat × Nat × Nat :=
  strays.foldl (fun (a : Nat × Nat × Nat) e =>
    if e.core.val = k then
      let w := e.word.val
      if w = 0 then (a.1 ^^^ e.flip.toNat, a.2.1, a.2.2)
      else if w ≤ 64 then (a.1, a.2.1 ^^^ (e.flip.toNat <<< (32 * (w - 1))), a.2.2)
      else (a.1, a.2.1, a.2.2 ^^^ (e.flip.toNat <<< (32 * (w - 65))))
    else a) (frozenInputs now c)

/-- What a core offers to the vote: its Q, Y and S images masked to the bits the unit owns (09 R238). -/
def offerOf (s : State) (u ci : Nat) : Nat × Nat × Nat :=
  let c := s.core ci
  (sramNat c 0x0004 2 &&& ownedMask s.owners 0 u 16, sramNat c 0x0300 256 &&& ownedMask s.owners 1 u 2048,
   sramNat c 0x0040 64 &&& ownedMask s.owners 2 u 512)

/-- The voted Y and S bits reach the Erg Link unit and the S space (09 R239, 01 R24). -/
def publish (u y sb : Nat) (s : State) : State :=
  let t := u / 4
  let my := ownedMask s.owners 1 u 2048
  let msk := ownedMask s.owners 2 u 512
  let s := s.modTrio t fun x => { x with y := (x.y &&& ~~~(BitVec.ofNat 2048 my)) ||| BitVec.ofNat 2048 y }
  writeS ((s.sNow &&& ~~~(BitVec.ofNat 512 msk)) ||| BitVec.ofNat 512 sb) s

/-- A voter copy disagrees with the other two (09 R241): counted, FS-032, the core on its side OUT, its field forced 0. -/
def voterMismatch (t k : Nat) (s : State) : State :=
  let s := satField s (P.trioSram t) 31 24 1
  let s := detect 32 (locBlock s dieSoc (0x40 + t)) s
  let s := s.modTrio t fun x => { x with forced := setBv x.forced k true }
  coreOut t k s

/-- Phase 5: the output vote of a voted trio (09 R238 to R241). -/
def votePhase (t : Nat) (s : State) : State :=
  let u := 4 * t
  let ks := voters s t
  match agreeOn (ks.map fun k => (k, offerOf s u (coreIx t k))) with
  | none =>
    if ks.length = 3 then
      -- bitwise majority, every core that differs from it blamed (09 R238, R245)
      let o (k : Nat) := offerOf s u (coreIx t k)
      let m := (maj3 (o 0).1 (o 1).1 (o 2).1, maj3 (o 0).2.1 (o 1).2.1 (o 2).2.1, maj3 (o 0).2.2 (o 1).2.2 (o 2).2.2)
      blameAll t (ks.filter fun k => decide (o k ≠ m)) s
    else haltUnit u 2 s
  | some ((q, y, sb), wrong) =>
    let res (k : Nat) : Nat × Nat × Nat :=
      (s.trio t).flips.foldl (fun (a : Nat × Nat × Nat) f =>
        if f.copy.val = k then (a.1 ^^^ f.q.toNat, a.2.1 ^^^ f.y.toNat, a.2.2 ^^^ f.sb.toNat) else a) (q, y, sb)
    let s := s.modTrio t fun x => { x with
      qA := BitVec.ofNat 16 (res 0).1, qB := BitVec.ofNat 16 (res 1).1, qC := BitVec.ofNat 16 (res 2).1, flips := [] }
    let s := match agreeOn [(0, res 0), (1, res 1), (2, res 2)] with
      | none => haltUnit u 4 s
      | some ((_, y', sb'), []) => publish u y' sb' s
      | some ((_, y', sb'), k :: _) => voterMismatch t k (publish u y' sb' s)
    if (s.unit u).st = .run ∨ (s.unit u).stepping = true then blameAll t wrong s else s

/-- Errors that a core meets as it reads a part of its data SRAM: corrected ones, and the first uncorrectable one (09 R244). -/
def meetPart (hit : Nat → Bool) (ci : Nat) (s : State) : State :=
  let s := ((s.core ci).ceAt.filter fun b => hit (b / 8)).foldl (fun s b => correctedAt ci b s) s
  match (s.core ci).ueAt.find? hit with
  | some o => reportUncorrectable ci o s
  | none => s

/-- A part of the data SRAM of the IN cores is compared by its CRCs, as in the agreement: a core off the bitwise majority, or with an
uncorrectable error in the part, is blamed; a difference in 2oo2 halts the trio (09 R242, R244, R245, 11 R296). -/
def comparePart (t : Nat) (hit : Nat → Bool) (f : Core → Bytes) (s : State) : State :=
  let ks := inCores s t
  let s := ks.foldl (fun s k => meetPart hit (coreIx t k) s) s
  let bad (k : Nat) : Bool := (s.core (coreIx t k)).ueAt.any hit
  let part (k : Nat) : Bytes := f (s.core (coreIx t k))
  match ks with
  | [i, j] => if part i ≠ part j ∧ crcStore (part i) ≠ crcStore (part j) then haltUnit (4 * t) 2 s else blameAll t (ks.filter bad) s
  | [i, j, k] =>
    let wrong :=
      if part i = part j ∧ part j = part k then []
      else
        let m := maj3 (crcStore (part i)) (crcStore (part j)) (crcStore (part k))
        ks.filter fun n => decide (crcStore (part n) ≠ m)
    let s := if wrong.isEmpty then s else satField s (P.trioLatent t) 15 0 wrong.length
    blameAll t (ks.filter fun n => bad n || wrong.contains n) s
  | _ => s

/-- Phase 6: the background compare of slice (cycle number mod 256) (09 R242). -/
def comparePhase (t : Nat) (s : State) : State :=
  let lo := 128 * (cycleNo (s.unit (4 * t)) % 256)
  comparePart t (fun o => decide (lo ≤ o ∧ o < lo + 128)) (fun c => Memory.bytes c.sram lo 128) s

/-- Offsets of K and KW. -/
def inK (o : Nat) : Bool := decide (0x0600 ≤ o ∧ o < 0x0680 ∨ 0x3000 ≤ o ∧ o < 0x3400)

/-- K and KW of a core's data SRAM. -/
def kImage (c : Core) : Bytes := Memory.bytes c.sram 0x0600 128 ++ Memory.bytes c.sram 0x3000 1024

/-- Phase 7: K and KW captured when a commit is due and no write is in progress (11 R296, R297). -/
def capturePhase (u : Nat) (s : State) : State :=
  let x := s.unit u
  if !x.kDue || x.kStage.isSome then s
  else
    let s :=
      if u % 4 = 0 then comparePart (u / 4) inK kImage s
      else (unitCores u).foldl (fun s ci =>
        let s := ((s.core ci).ceAt.filter fun b => inK (b / 8)).foldl (fun s b => correctedAt ci b s) s
        match (s.core ci).ueAt.find? inK with
        | some o => uncorrectableAt ci o s
        | none => s) s
    match (running s u).head? with
    | none => s
    | some ci =>
      if !alive s u then s
      else
        let img := kImage (s.core ci)
        if x.kLast = some img then
          countReg (s.modUnit u fun x => { x with kDue := false, kAt := s.now }) P.trioKcoalesced
        else s.modUnit u fun x => { x with kDue := false, kAt := s.now, kStage := some ((s.core ci).tnow, img) }

/-- Phase 8: the reintegration pause: the lowest IN core's state is copied into every REJOINING core (09 R246). -/
def reintegrate (t : Nat) (s : State) : State :=
  match (inCores s t).head? with
  | none => s
  | some k0 =>
    let src := s.core (coreIx t k0)
    ((List.range 3).filter fun k => (s.core (coreIx t k)).st = .rejoining).foldl (fun s k =>
      let s := s.modCore (coreIx t k) fun c => { src with
        st := .inn, blames := c.blames, inI := c.inI, inX := c.inX, inXQ := c.inXQ, inPar := c.inPar, inAt := c.inAt,
        inWas := c.inWas, ceAt := [], ueAt := [] }
      let s := s.modTrio t fun x => { x with readmitted := x.readmitted ++ [⟨k % 3, by omega⟩] }
      satField s (P.trioReint t) 15 0 1) s

/-- Symbol tables of a container (11 R304): timers, counters, edge bits. -/
def containerLen (ct : Bytes) : Nat := u32 ct 4
def symTimer (ct : Bytes) (n : Nat) : Nat := u16 ct (0x40 + 4 * containerLen ct + 2 * n)
def symCounter (ct : Bytes) (n : Nat) : Nat := u16 ct (0x40 + 4 * containerLen ct + 512 + 2 * n)
def symEdge (ct : Bytes) (n : Nat) : Nat := u16 ct (0x40 + 4 * containerLen ct + 1024 + 2 * n)

/-- The instruction words of a container. -/
def containerWords (ct : Bytes) : List Word :=
  (List.range (containerLen ct)).map fun i => w32 (u32 ct (0x40 + 4 * i))

/-- The elements of a table that carry a symbol: number and symbol. -/
def symbols (n : Nat) (f : Nat → Nat) : List (Nat × Nat) :=
  (List.range n).filterMap fun i => if f i = 0 then none else some (i, f i)

/-- Timers, counters and edge bits mapped by symbol from the old program's numbers to the new ones; every other element
the new program uses is cleared and entered in the exchange mask (11 R307). An element of an earlier exchange that has not been
executed yet and is kept by its symbol stays masked under its new number (R308). -/
def mapSymbols (old new : Bytes) (c : Core) : Core :=
  let one (n : Nat) (so sn : Nat → Nat) (copy clear : Nat → Nat → Core → Core) (marks : Nat → List Nat) (c : Core) : Core :=
    (symbols n sn).foldl (fun (acc : Core) (e : Nat × Nat) =>
      match (symbols n so).find? fun o => o.2 = e.2 with
      | some o =>
        let kept := ((marks o.1).zip (marks e.1)).filterMap fun m => if c.mask.contains m.1 then some m.2 else none
        let acc := copy o.1 e.1 acc
        { acc with mask := acc.mask ++ kept }
      | none => let acc := clear 0 e.1 acc; { acc with mask := acc.mask ++ marks e.1 }) c
  let c0 := { c with mask := [] }
  let c1 := one 256 (symTimer old) (symTimer new)
    (fun o n a => { a with sram := Memory.put a.sram (timerAt n) (Memory.bytes c.sram (timerAt o) 16) })
    (fun _ n a => { a with sram := Memory.put a.sram (timerAt n) (zeros 16) }) (fun n => [n]) c0
  let c2 := one 256 (symCounter old) (symCounter new)
    (fun o n a => { a with sram := Memory.put a.sram (counterAt n) (Memory.bytes c.sram (counterAt o) 16) })
    (fun _ n a => { a with sram := Memory.put a.sram (counterAt n) (zeros 16) }) (fun n => [1000 + n, 2000 + n]) c1
  one 4096 (symEdge old) (symEdge new) (fun o n a => putEdge a n (edgeBit c o)) (fun _ n a => putEdge a n false)
    (fun n => [10000 + n]) c2

/-- Phase 9: the exchange pause (11 R307, R309). Its length in µs is 20 plus 0.01 for each instruction, the typical
figure (DESIGN CHOICE, log 18). -/
def exchangePhase (u : Nat) (s : State) : State :=
  match (s.unit u).stage with
  | none => s
  | some (ct, map, chk, h) =>
    let words := containerWords ct
    let old := (s.unit u).container
    let s := (unitCores u).foldl (fun s ci =>
      if (s.core ci).st = .out ∧ u % 4 = 0 then s else s.modCore ci (mapSymbols old ct)) s
    let s := s.modUnit u fun x => { x with code := words, container := ct, exch := true, exchCycle := true, stage := none }
    let s := storeObj kProgram u ct s
    let s := if map.isEmpty then s else setOwners map (storeObj kOwner 0 map s)
    let s := setConfirmed chk s
    let s := recheck s
    let s := setReg s P.trioExchLast (u / 4 + 8 * (u % 4) + 32 + 65536 * (20 + words.length / 100))
    let s := startMark u 3 false s
    finishHeld h 0x0506 Status.ok (be 4 (reg s P.trioExchLast)) s

/-- The debugger writes that wait are applied to the cores that have not taken them at an instruction boundary of their own (09 R260):
at the end of a cycle, or where the unit stops between two. -/
def flushWrites (u : Nat) (s : State) : State :=
  ((s.unit u).dbgWrites.foldl (fun s (n, _, off, bs) =>
    (unitCores u).foldl (fun s ci => s.modCore ci fun c => if c.steps < n then putDebug c off bs else c) s) s).modUnit u
      fun x => { x with dbgWrites := [] }

/-- The boundary at the end of a cycle: pauses, then the stop asked for (11 Table 11.1, R291). -/
def boundary (u : Nat) (s : State) : State :=
  let s := s.modUnit u fun x => { x with inCycle := false, exchCycle := false }
  let s := flushWrites u s
  let s := if u % 4 = 0 then reintegrate (u / 4) s else s
  if (s.unit u).stopReq then
    let s := abandonExchange u (s.modUnit u fun x => { x with stopReq := false, wdtOn := false, unchanged := true })
    leaveRun u .stop s
  else exchangePhase u s

/-- The phases after END: vote, compare, capture, pauses (11 Table 11.1); a split core writes its outputs itself
(09 R253, 11 R288). -/
def endPhases (u : Nat) (s : State) : State :=
  let t := u / 4
  let s :=
    if u % 4 = 0 then
      let s := (votePhase t s).modTrio t fun x => { x with leaving := 0 }
      if alive s u && !(s.unit u).stepping then comparePhase t s else s
    else
      let ci := coreIx t (u % 4 - 1)
      let (q, y, sb) := offerOf s u ci
      let s := s.modTrio t fun x =>
        if u % 4 = 1 then { x with qA := BitVec.ofNat 16 q } else if u % 4 = 2 then { x with qB := BitVec.ofNat 16 q }
        else { x with qC := BitVec.ofNat 16 q }
      publish u y sb s
  let s := if alive s u then capturePhase u s else s
  if alive s u then boundary u s else s

/-- After a core ends or leaves, the cycle ends once every executing core has executed END. -/
def settleCycle (u : Nat) (s : State) : State :=
  if alive s u && (s.unit u).inCycle && (running s u).all fun ci => (s.core ci).ended then endPhases u s else s

/-! ### One instruction of one core -/

/-- A core may execute: its unit is in RUN inside a cycle, the core takes part, and has not ended. -/
def mayExecute (s : State) (ci : Nat) : Bool :=
  let u := unitOfCore s ci
  alive s u && (s.unit u).inCycle && (running s u).contains ci && !(s.core ci).ended

/-- Debugger writes due at the boundary a core has reached (09 R260). -/
def applyWrites (u ci : Nat) (s : State) : State :=
  (s.unit u).dbgWrites.foldl (fun s (n, _, off, bs) =>
    if (s.core ci).steps = n then s.modCore ci fun c => putDebug c off bs else s) s

/-- The instruction at a core's PC is executed with a given meaning: run-off and decode exceptions first, then errors of
the data SRAM it touches, then its effect (10 R284, 09 R244). -/
def runInstr (ci : Nat) (i : TInstr) (sem : CoreStep) (s : State) : State :=
  let u := unitOfCore s ci
  let c := s.core ci
  let hits := if c.ceAt.isEmpty && c.ueAt.isEmpty then [] else touches i c
  match hits.find? c.ueAt.contains with
  | some o => settleCycle u (uncorrectableAt ci o s)
  | none =>
    let ces := c.ceAt.filter fun b => hits.contains (b / 8)
    match sem c with
    | .error e => raiseExc u e (ci % 3) s
    | .ok c' =>
      let s := s.modCore ci fun _ => syncF { c' with steps := c'.steps + 1, clocks := c'.clocks + 4 * ces.length }
      let s := ces.foldl (fun s o => correctedAt ci o s) s
      settleCycle u (applyWrites u ci s)

/-- A breakpoint stands at the PC of a core, and has not just been passed (09 R259). -/
def atBreak (s : State) (ci : Nat) : Bool :=
  let x := s.unit (unitOfCore s ci)
  (x.breaks.any fun (_, b) => decide (b = some (s.core ci).pc)) && decide (x.resumeAt ≠ some (s.core ci).steps)

/-- The instruction at a core's PC, whatever it is (a step of the debugger, and the catching up of the other cores). -/
def stepCore (ci : Nat) (s : State) : State :=
  if !mayExecute s ci then s
  else
    let u := unitOfCore s ci
    let c := s.core ci
    let code := (s.unit u).code
    match code[c.pc]? with
    | none => raiseExc u 6 (ci % 3) s
    | some w =>
      if !wordOk code.length w then raiseExc u 7 (ci % 3) s
      else
        match decodeTrio w with
        | none => raiseExc u 7 (ci % 3) s
        | some i => match semOf i with | some sem => runInstr ci i sem s | none => raiseExc u 7 (ci % 3) s

/-- A core runs until it has executed `n` instructions of the cycle. -/
def catchUp : Nat → Nat → Nat → State → State
  | 0, _, _, s => s
  | fuel + 1, ci, n, s => if (s.core ci).steps < n ∧ mayExecute s ci then catchUp fuel ci n (stepCore ci s) else s

/-- The executing cores of a unit stand at one instruction boundary, that of the one furthest on (09 R260). -/
def alignCores (u : Nat) (s : State) : State :=
  let n := (running s u).foldl (fun a ci => max a (s.core ci).steps) 0
  (running s u).foldl (fun s ci => catchUp n ci n s) s

/-- A unit enters DEBUG at an instruction boundary (09 R259, 11 R291): writes that wait for it are applied, and the watchdog is
suspended; one that expires on this very edge wins (09 R263). -/
def enterDebug (u : Nat) (s : State) : State :=
  let s := alignCores u s
  if (s.unit u).st = .run then
    if wdtOver u s then wdtExpire u s
    else
      let s := flushWrites u s
      abandonExchange u (leaveRun u .debug (s.modUnit u fun x => { x with wdtOn := false, debugAt := s.now }))
  else s

/-- On the edge on which a core's exception has halted a voted trio, another core of it can still meet an uncorrectable error: the
blame is recorded (10 R285). -/
def lateBlame (ci : Nat) (i : TInstr) (s : State) : State :=
  let u := unitOfCore s ci
  let x := s.unit u
  let c := s.core ci
  if u % 4 = 0 ∧ x.st = .halted ∧ x.cause = 7 ∧ x.haltAt = s.now ∧ c.st = .inn ∧ c.ended = false ∧ x.excCore ≠ ci % 3 ∧
      x.code[c.pc]? = some (encodeTrio i) then
    match (touches i c).find? c.ueAt.contains with
    | some o => blame (u / 4) (ci % 3) (reportUncorrectable ci o s)
    | none => s
  else s

/-- A core fetches the word at its PC; where it is the command's instruction, it executes with the meaning given. A PC
at the program length raises RUN_OFF, a word that fails its checks DECODE; a breakpoint enters DEBUG; any other word at
the PC means that the command does not occur (log 2). -/
def fetchRun (ci : Nat) (i : TInstr) (sem : CoreStep) (s : State) : State :=
  if !mayExecute s ci then lateBlame ci i s
  else
    let u := unitOfCore s ci
    let c := s.core ci
    let code := (s.unit u).code
    match code[c.pc]? with
    | none => raiseExc u 6 (ci % 3) s
    | some w =>
      if atBreak s ci then enterDebug u s
      else if !wordOk code.length w then raiseExc u 7 (ci % 3) s
      else if w = encodeTrio i then runInstr ci i sem s
      else s

/-! ### The instruction commands -/

/-- A command that executes an instruction without operand on a core. -/
def runPlain (ci : Fin 24) (code : BitVec 8) (sem : CoreStep) (s : State) : Host.Outcome State Fault Refusal :=
  done (fetchRun ci.val { code := code, arg := .nil } sem s)
/-- With an operand of format O. -/
def runOpd (ci : Fin 24) (code : BitVec 8) (o : OpRef) (sem : CoreStep) (s : State) : Host.Outcome State Fault Refusal :=
  done (fetchRun ci.val { code := code, arg := .opd o } sem s)
/-- With a timer, a number, an edge bit, or a target. -/
def runTimer (ci : Fin 24) (code : BitVec 8) (tm : TimerRef) (sem : CoreStep) (s : State) : Host.Outcome State Fault Refusal :=
  done (fetchRun ci.val { code := code, arg := .timer tm } sem s)
def runNum (ci : Fin 24) (code : BitVec 8) (n : BitVec 8) (sem : CoreStep) (s : State) : Host.Outcome State Fault Refusal :=
  done (fetchRun ci.val { code := code, arg := .num n } sem s)
def runEdge (ci : Fin 24) (code : BitVec 8) (e : BitVec 12) (sem : CoreStep) (s : State) : Host.Outcome State Fault Refusal :=
  done (fetchRun ci.val { code := code, arg := .edge e } sem s)
def runJump (ci : Fin 24) (code : BitVec 8) (t : BitVec 16) (sem : CoreStep) (s : State) : Host.Outcome State Fault Refusal :=
  done (fetchRun ci.val { code := code, arg := .target t } sem s)

/-- An immediate operand (SPACE IMM). -/
def immRef (a : BitVec 16) : OpRef := { space := 0xE, ixf := false, addr := a }

/-- NOP (opcode 0x00; 10 R274, R276). -/
def execNop (ci : Fin 24) (s : State) : Host.Outcome State Fault Refusal := runPlain ci 0x00 semNop s

/-- END (opcode 0x01; 10 R274, R276). -/
def execEndProg (ci : Fin 24) (s : State) : Host.Outcome State Fault Refusal := runPlain ci 0x01 semEnd s

/-- JMP (opcode 0x02; 10 R274). -/
def execJmp (ci : Fin 24) (t : BitVec 16) (s : State) : Host.Outcome State Fault Refusal := runJump ci 0x02 t (semJmp t) s

/-- JC (opcode 0x03; 10 R274). -/
def execJc (ci : Fin 24) (t : BitVec 16) (s : State) : Host.Outcome State Fault Refusal := runJump ci 0x03 t (semJc t) s

/-- JNC (opcode 0x04; 10 R274). -/
def execJnc (ci : Fin 24) (t : BitVec 16) (s : State) : Host.Outcome State Fault Refusal := runJump ci 0x04 t (semJnc t) s

/-- CALL (opcode 0x05; 10 R274). -/
def execCall (ci : Fin 24) (t : BitVec 16) (s : State) : Host.Outcome State Fault Refusal := runJump ci 0x05 t (semCall t) s

/-- RET (opcode 0x06; 10 R274, R276). -/
def execRet (ci : Fin 24) (s : State) : Host.Outcome State Fault Refusal := runPlain ci 0x06 semRet s

/-- LD (opcode 0x10; 10 R274). -/
def execLd (ci : Fin 24) (o : OpRef) (s : State) : Host.Outcome State Fault Refusal := runOpd ci 0x10 o (semLd o) s

/-- LDN (opcode 0x11; 10 R274). -/
def execLdn (ci : Fin 24) (o : OpRef) (s : State) : Host.Outcome State Fault Refusal := runOpd ci 0x11 o (semLdn o) s

/-- AND (opcode 0x12; 10 R274). -/
def execAnd (ci : Fin 24) (o : OpRef) (s : State) : Host.Outcome State Fault Refusal := runOpd ci 0x12 o (semAnd o) s

/-- ANDN (opcode 0x13; 10 R274). -/
def execAndn (ci : Fin 24) (o : OpRef) (s : State) : Host.Outcome State Fault Refusal := runOpd ci 0x13 o (semAndn o) s

/-- OR (opcode 0x14; 10 R274). -/
def execOr (ci : Fin 24) (o : OpRef) (s : State) : Host.Outcome State Fault Refusal := runOpd ci 0x14 o (semOr o) s

/-- ORN (opcode 0x15; 10 R274). -/
def execOrn (ci : Fin 24) (o : OpRef) (s : State) : Host.Outcome State Fault Refusal := runOpd ci 0x15 o (semOrn o) s

/-- XOR (opcode 0x16; 10 R274). -/
def execXor (ci : Fin 24) (o : OpRef) (s : State) : Host.Outcome State Fault Refusal := runOpd ci 0x16 o (semXor o) s

/-- NOT (opcode 0x18; 10 R274, R276). -/
def execNot (ci : Fin 24) (s : State) : Host.Outcome State Fault Refusal := runPlain ci 0x18 semNot s

/-- PSH (opcode 0x19; 10 R274, R276). -/
def execPsh (ci : Fin 24) (s : State) : Host.Outcome State Fault Refusal := runPlain ci 0x19 semPsh s

/-- POP (opcode 0x1A; 10 R274, R276). -/
def execPop (ci : Fin 24) (s : State) : Host.Outcome State Fault Refusal := runPlain ci 0x1A semPop s

/-- TOP (opcode 0x1B; 10 R274, R276). -/
def execTop (ci : Fin 24) (s : State) : Host.Outcome State Fault Refusal := runPlain ci 0x1B semTop s

/-- ANDS (opcode 0x1C; 10 R274, R276). -/
def execAnds (ci : Fin 24) (s : State) : Host.Outcome State Fault Refusal := runPlain ci 0x1C semAnds s

/-- ORS (opcode 0x1D; 10 R274, R276). -/
def execOrs (ci : Fin 24) (s : State) : Host.Outcome State Fault Refusal := runPlain ci 0x1D semOrs s

/-- ST (opcode 0x20; 10 R274). -/
def execSt (ci : Fin 24) (o : OpRef) (s : State) : Host.Outcome State Fault Refusal := runOpd ci 0x20 o (semSt o) s

/-- STN (opcode 0x21; 10 R274). -/
def execStn (ci : Fin 24) (o : OpRef) (s : State) : Host.Outcome State Fault Refusal := runOpd ci 0x21 o (semStn o) s

/-- SET (opcode 0x22; 10 R274). -/
def execSet (ci : Fin 24) (o : OpRef) (s : State) : Host.Outcome State Fault Refusal := runOpd ci 0x22 o (semSet o) s

/-- RST (opcode 0x23; 10 R274). -/
def execRst (ci : Fin 24) (o : OpRef) (s : State) : Host.Outcome State Fault Refusal := runOpd ci 0x23 o (semRst o) s

/-- PE (opcode 0x24; 10 R274). -/
def execPe (ci : Fin 24) (e : BitVec 12) (s : State) : Host.Outcome State Fault Refusal := runEdge ci 0x24 e (semPe e) s

/-- NE (opcode 0x25; 10 R274). -/
def execNe (ci : Fin 24) (e : BitVec 12) (s : State) : Host.Outcome State Fault Refusal := runEdge ci 0x25 e (semNe e) s

/-- TON (opcode 0x30; 10 R275, R279). -/
def execTon (ci : Fin 24) (tm : TimerRef) (s : State) : Host.Outcome State Fault Refusal := runTimer ci 0x30 tm (semTon tm) s

/-- TOF (opcode 0x31; 10 R275, R279). -/
def execTof (ci : Fin 24) (tm : TimerRef) (s : State) : Host.Outcome State Fault Refusal := runTimer ci 0x31 tm (semTof tm) s

/-- TP (opcode 0x32; 10 R275, R279). -/
def execTp (ci : Fin 24) (tm : TimerRef) (s : State) : Host.Outcome State Fault Refusal := runTimer ci 0x32 tm (semTp tm) s

/-- TRT (opcode 0x33; 10 R275, R279). -/
def execTrt (ci : Fin 24) (tm : TimerRef) (s : State) : Host.Outcome State Fault Refusal := runTimer ci 0x33 tm (semTrt tm) s

/-- TRS (opcode 0x34; 10 R275, R279). -/
def execTrs (ci : Fin 24) (n : BitVec 8) (s : State) : Host.Outcome State Fault Refusal := runNum ci 0x34 n (semTrs n) s

/-- TPS (opcode 0x35; 10 R275). -/
def execTps (ci : Fin 24) (n : BitVec 8) (s : State) : Host.Outcome State Fault Refusal := runNum ci 0x35 n (semTps n) s

/-- TLE (opcode 0x36; 10 R275). -/
def execTle (ci : Fin 24) (n : BitVec 8) (s : State) : Host.Outcome State Fault Refusal := runNum ci 0x36 n (semTle n) s

/-- CTU (opcode 0x38; 10 R275, R282). -/
def execCtu (ci : Fin 24) (n : BitVec 8) (s : State) : Host.Outcome State Fault Refusal := runNum ci 0x38 n (semCtu n) s

/-- CTD (opcode 0x39; 10 R275, R282). -/
def execCtd (ci : Fin 24) (n : BitVec 8) (s : State) : Host.Outcome State Fault Refusal := runNum ci 0x39 n (semCtd n) s

/-- CRS (opcode 0x3A; 10 R275). -/
def execCrs (ci : Fin 24) (n : BitVec 8) (s : State) : Host.Outcome State Fault Refusal := runNum ci 0x3A n (semCrs n) s

/-- CLD (opcode 0x3B; 10 R275). -/
def execCld (ci : Fin 24) (n : BitVec 8) (s : State) : Host.Outcome State Fault Refusal := runNum ci 0x3B n (semCld n) s

/-- CPS (opcode 0x3C; 10 R275). -/
def execCps (ci : Fin 24) (n : BitVec 8) (s : State) : Host.Outcome State Fault Refusal := runNum ci 0x3C n (semCps n) s

/-- CLV (opcode 0x3D; 10 R275). -/
def execClv (ci : Fin 24) (n : BitVec 8) (s : State) : Host.Outcome State Fault Refusal := runNum ci 0x3D n (semClv n) s

/-- LDW (opcode 0x40; 10 R276). -/
def execLdw (ci : Fin 24) (o : OpRef) (s : State) : Host.Outcome State Fault Refusal := runOpd ci 0x40 o (semLdw o) s

/-- LDWU (opcode 0x41; 10 R276). -/
def execLdwu (ci : Fin 24) (o : OpRef) (s : State) : Host.Outcome State Fault Refusal := runOpd ci 0x41 o (semLdwu o) s

/-- LDD (opcode 0x42; 10 R276). -/
def execLdd (ci : Fin 24) (o : OpRef) (s : State) : Host.Outcome State Fault Refusal := runOpd ci 0x42 o (semLdd o) s

/-- LDIH (opcode 0x43; 10 R276). -/
def execLdih (ci : Fin 24) (imm : BitVec 16) (s : State) : Host.Outcome State Fault Refusal := runOpd ci 0x43 (immRef imm) (semLdih imm) s

/-- STW (opcode 0x44; 10 R276). -/
def execStw (ci : Fin 24) (o : OpRef) (s : State) : Host.Outcome State Fault Refusal := runOpd ci 0x44 o (semStw o) s

/-- STD (opcode 0x45; 10 R276). -/
def execStd (ci : Fin 24) (o : OpRef) (s : State) : Host.Outcome State Fault Refusal := runOpd ci 0x45 o (semStd o) s

/-- LDX (opcode 0x46; 10 R274, R276). -/
def execLdx (ci : Fin 24) (s : State) : Host.Outcome State Fault Refusal := runPlain ci 0x46 semLdx s

/-- LDB (opcode 0x47; 10 R276). -/
def execLdb (ci : Fin 24) (o : OpRef) (s : State) : Host.Outcome State Fault Refusal := runOpd ci 0x47 o (semLdb o) s

/-- STB (opcode 0x48; 10 R276). -/
def execStb (ci : Fin 24) (o : OpRef) (s : State) : Host.Outcome State Fault Refusal := runOpd ci 0x48 o (semStb o) s

/-- ADD (opcode 0x50; 10 R276). -/
def execAdd (ci : Fin 24) (o : OpRef) (s : State) : Host.Outcome State Fault Refusal := runOpd ci 0x50 o (semAdd o) s

/-- SUB (opcode 0x51; 10 R276). -/
def execSub (ci : Fin 24) (o : OpRef) (s : State) : Host.Outcome State Fault Refusal := runOpd ci 0x51 o (semSub o) s

/-- MUL (opcode 0x52; 10 R276). -/
def execMul (ci : Fin 24) (o : OpRef) (s : State) : Host.Outcome State Fault Refusal := runOpd ci 0x52 o (semMul o) s

/-- DIV (opcode 0x53; 10 R276). -/
def execDiv (ci : Fin 24) (o : OpRef) (s : State) : Host.Outcome State Fault Refusal := runOpd ci 0x53 o (semDiv o) s

/-- MIN (opcode 0x54; 10 R276). -/
def execMin (ci : Fin 24) (o : OpRef) (s : State) : Host.Outcome State Fault Refusal := runOpd ci 0x54 o (semMin o) s

/-- MAX (opcode 0x55; 10 R276). -/
def execMax (ci : Fin 24) (o : OpRef) (s : State) : Host.Outcome State Fault Refusal := runOpd ci 0x55 o (semMax o) s

/-- NEG (opcode 0x56; 10 R274, R276). -/
def execNeg (ci : Fin 24) (s : State) : Host.Outcome State Fault Refusal := runPlain ci 0x56 semNeg s

/-- ANDW (opcode 0x60; 10 R276). -/
def execAndw (ci : Fin 24) (o : OpRef) (s : State) : Host.Outcome State Fault Refusal := runOpd ci 0x60 o (semAndw o) s

/-- ORW (opcode 0x61; 10 R276). -/
def execOrw (ci : Fin 24) (o : OpRef) (s : State) : Host.Outcome State Fault Refusal := runOpd ci 0x61 o (semOrw o) s

/-- XORW (opcode 0x62; 10 R276). -/
def execXorw (ci : Fin 24) (o : OpRef) (s : State) : Host.Outcome State Fault Refusal := runOpd ci 0x62 o (semXorw o) s

/-- SHL (opcode 0x63; 10 R276). -/
def execShl (ci : Fin 24) (o : OpRef) (s : State) : Host.Outcome State Fault Refusal := runOpd ci 0x63 o (semShl o) s

/-- SHR (opcode 0x64; 10 R276). -/
def execShr (ci : Fin 24) (o : OpRef) (s : State) : Host.Outcome State Fault Refusal := runOpd ci 0x64 o (semShr o) s

/-- SAR (opcode 0x65; 10 R276). -/
def execSar (ci : Fin 24) (o : OpRef) (s : State) : Host.Outcome State Fault Refusal := runOpd ci 0x65 o (semSar o) s

/-- BTST (opcode 0x66; 10 R276). -/
def execBtst (ci : Fin 24) (b : BitVec 5) (s : State) : Host.Outcome State Fault Refusal := runOpd ci 0x66 (immRef (b.setWidth 16)) (semBtst b) s

/-- CEQ (opcode 0x70; 10 R276). -/
def execCeq (ci : Fin 24) (o : OpRef) (s : State) : Host.Outcome State Fault Refusal := runOpd ci 0x70 o (semCeq o) s

/-- CNE (opcode 0x71; 10 R276). -/
def execCne (ci : Fin 24) (o : OpRef) (s : State) : Host.Outcome State Fault Refusal := runOpd ci 0x71 o (semCne o) s

/-- CLT (opcode 0x72; 10 R276). -/
def execClt (ci : Fin 24) (o : OpRef) (s : State) : Host.Outcome State Fault Refusal := runOpd ci 0x72 o (semClt o) s

/-- CLE (opcode 0x73; 10 R276). -/
def execCle (ci : Fin 24) (o : OpRef) (s : State) : Host.Outcome State Fault Refusal := runOpd ci 0x73 o (semCle o) s

/-- CGT (opcode 0x74; 10 R276). -/
def execCgt (ci : Fin 24) (o : OpRef) (s : State) : Host.Outcome State Fault Refusal := runOpd ci 0x74 o (semCgt o) s

/-- CGE (opcode 0x75; 10 R276). -/
def execCge (ci : Fin 24) (o : OpRef) (s : State) : Host.Outcome State Fault Refusal := runOpd ci 0x75 o (semCge o) s

end Sys2Proof.Machine
end

