-- ==== Sys2Proof/Machine/TrioCycle.lean ====
section
/-! DEFINITION. The events of the trio cycle: cycle start, voter-suspect, voter test, watchdog expiry, retentive commits
(09 R236, R237, R250, R251; 11 R286 to R298). -/

namespace Sys2Proof.Machine

/-! ### Cycle start (11 Table 11.1 phases 1 to 3) -/

/-- One upset of a core's SRAM takes place (09 R243, R244). -/
def applyUpset (t : Nat) (x : Upset) (s : State) : State :=
  let k := x.core.val
  let ci := coreIx t k
  let off := x.offset % 32768
  if sramReserved off then s
  else if x.kind = 0 then s.modCore ci fun c => { c with ceAt := insertNat (8 * off + x.bit.val) c.ceAt }
  else if x.kind = 1 then s.modCore ci fun c => { c with ueAt := insertNat off c.ueAt }
  else if x.kind = 2 then
    s.modCore ci fun c => { c with sram := Memory.write c.sram off (Memory.read c.sram off ^^^ x.flip) }
  else if x.kind = 3 then
    let s := detect 34 (sramLoc s ci 1 (8 * (x.offset / 8)) 0) s
    if (s.trio t).split then haltUnit (unitOfCore s ci) 8 s 0 k else coreOut t k s
  else detect 33 (sramLoc s ci 1 x.offset x.bit.val) (satField s (P.trioSram t) 15 0 1)

/-- The agreement round (09 R237): the agreed sample, and the trio's state after blames. None where the trio halts. -/
def agreeRound (t : Nat) (strays : List Stray) (s : State) : Option (Nat × Nat × Nat) × State :=
  let ks := inCores s t
  let smp (k : Nat) := sampleOf s.now (s.core (coreIx t k)) k strays
  match ks with
  | [i, j] => if smp i = smp j then (some (smp i), s) else (none, haltUnit (4 * t) 2 s)
  | [i, j, k] =>
    let m := (maj3 (smp i).1 (smp j).1 (smp k).1, maj3 (smp i).2.1 (smp j).2.1 (smp k).2.1,
      maj3 (smp i).2.2 (smp j).2.2 (smp k).2.2)
    let wrong := ks.filter fun x => decide (smp x ≠ m)
    if wrong.isEmpty then (some m, s)
    else (some m, blameAll t wrong (satField s (P.trioAgreeMiss t) 15 0 1))
  | _ => (none, haltUnit (4 * t) 1 s)

/-- The debugger writes that a cycle start finds: those that arrived before its edge are applied at this cycle boundary, one that
arrives on it at the boundary that follows, after the first instruction (09 R260, R263). -/
def startWrites (u : Nat) (s : State) : State :=
  let ws := (s.unit u).dbgWrites
  let late := ws.filter fun w => decide (w.2.1 = s.now)
  (flushWrites u (s.modUnit u fun x => { x with dbgWrites := ws.filter fun w => decide (w.2.1 ≠ s.now) })).modUnit u fun x => { x with
    dbgWrites := late.map fun w => (1, w.2) }

/-- The registers of a unit at its cycle start: T_NOW latched, watchdog restarted, cycle counted (11 R286, R289). -/
def startCycle (u : Nat) (strays : List Stray) (s : State) : State :=
  let t := u / 4
  let s := (startWrites u s).modTrio t fun x => { x with leaving := if u % 4 = 0 then 0 else x.leaving }
  let x := s.unit u
  let degraded := decide (u % 4 = 0 ∧ (inCores s t).length = 2)
  let s := s.modUnit u fun x => { x with
    cycle := x.cycle + 1, cycleAt := s.now, inCycle := true, wdtOn := !x.stepping, wdtAt := s.now, exchCycle := false,
    first := false, warm := false, cold := false, exch := false, unchanged := true, resumeAt := none }
  let f := fArea (tNow s).toNat x.first x.warm x.cold x.exch degraded
  let image (i xv xq clk : Nat) (ci : Nat) (s : State) : State :=
    s.modCore ci (imageWrite i xv xq s.vsnap.toNat (tNow s).toNat f clk)
  if u % 4 = 0 then
    match agreeRound t strays s with
    | (none, s) => s
    | (some (i, xv, xq), s) => if alive s u then (running s u).foldl (fun s ci => image i xv xq 213 ci s) s else s
  else
    let ci := coreIx t (u % 4 - 1)
    let c := s.core ci
    image c.inI.toNat c.inX.toNat c.inXQ.toNat 68 ci s

/-- The clocks from one cycle start to the next are reported (11 R287, R288): of the trio, or of the longest of its three
cores. -/
def reportCycle (u clocks : Nat) (s : State) : State :=
  let t := u / 4
  let s := s.modUnit u fun x => { x with lastClocks := clocks }
  let longest := if u % 4 = 0 then clocks
    else max (s.unit (4 * t + 1)).lastClocks (max (s.unit (4 * t + 2)).lastClocks (s.unit (4 * t + 3)).lastClocks)
  let s := setWide s (P.trioCycleLast t) longest
  let s := noteUpdate (P.trioCycleMax t) (max clocks) s
  setWide s (P.trioCycleMax t) (max clocks (reg s (P.trioCycleMax t)))

/-- The unit a trio and a core code name, where the code matches the mode in force (14 Table 14.9). -/
def unitIx (t code : Nat) (s : State) : Option Nat :=
  if t < 8 ∧ code < 4 ∧ ((code = 0) ↔ (s.trio t).split = false) then some (4 * t + code) else none

/-- A unit is kept as it stands before a cycle start (11 R291). -/
def keepCycle (u : Nat) (s : State) : State :=
  let k : CycleUndo := {
    unit := s.unit u, cores := (unitCores u).map s.core, last := reg s (P.trioCycleLast (u / 4)), longest := reg s (P.trioCycleMax (u / 4)) }
  { s with inst := { instant s with cycles := tset none (instant s).cycles u (some k) } }

/-- A maximum as it stood before the updates of this edge: as kept, or 0 where it has been read on the edge (00 R10). -/
def unmax (id kept : Nat) (s : State) : State :=
  match tget none (instant s).counted id with
  | none => setReg s id kept
  | some x => setReg { s with inst := { instant s with counted := tset none (instant s).counted id (some (x.1, 0)) } } id x.1

/-- A cycle that has started on this very edge has not started: core states and blames stay (11 R291, 09 R263). -/
def undoCycle (u : Nat) (s : State) : State :=
  match tget none (instant s).cycles u with
  | none => s
  | some k =>
    if (s.unit u).inCycle = false ∨ (s.unit u).cycleAt ≠ s.now then s
    else
      let s := (((unitCores u).zip k.cores).foldl (fun s e =>
        s.modCore e.1 fun c => { e.2 with st := c.st, failed := c.failed, blames := c.blames }) s).modUnit u fun _ => k.unit
      unmax (P.trioCycleMax (u / 4)) k.longest (setReg s (P.trioCycleLast (u / 4)) k.last)

/-- TRIO_CYCLE_START (11 R286 to R289): at the earliest TRIO_CYCLE_MIN after the start of the cycle before; on or after
the watchdog's expiry edge the expiry wins. -/
def trioCycleStart (at' : Time) (t code : Nat) (upsets : List Upset) (strays : List Stray) (flips : List VoterFlip)
    (s : State) : State :=
  let s := advance at' s
  match unitIx t code s with
  | none => s
  | some u =>
    let x := s.unit u
    if x.st ≠ .run ∨ alive s u = false ∨ x.inCycle then s
    else if wdtOver u s then wdtExpire u s
    else if x.wdtOn ∧ s.now < x.cycleAt + 1000 * reg s (P.trioCycleMin t) then s
    else
      let s := keepCycle u s
      let s := if x.wdtOn then reportCycle u (4 * (s.now - x.cycleAt)) s else s
      let s := upsets.foldl (fun s e => if code = 0 ∨ e.core.val + 1 = code then applyUpset t e s else s) s
      if !alive s u then s
      else startCycle u strays (if code = 0 then s.modTrio t fun y => { y with flips := flips } else s)

def execTrioCycleStart (at' : Time) (trio : Fin 8) (code : Fin 4) (upsets : List Upset) (strays : List Stray)
    (flips : List VoterFlip) (s : State) : Host.Outcome State Fault Refusal :=
  done (trioCycleStart at' trio.val code.val upsets strays flips s)

/-! ### Voter-suspect and voter test -/

/-- A trio that has met its third blame halts as voter-suspect (09 R250). -/
def settleSuspect (t : Nat) (s : State) : State := if suspectDue s t then haltUnit (4 * t) 5 s else s

/-- VOTER_SUSPECT (09 R247, R250): the trio halts at the edge of the third blame. -/
def voterSuspect (at' : Time) (t : Nat) (s : State) : State := settleSuspect t (advance at' s)

def execVoterSuspect (at' : Time) (trio : Fin 8) (s : State) : Host.Outcome State Fault Refusal :=
  done (voterSuspect at' trio.val s)

/-- The minority core of test `n`: the tests rotate through A, B and C (09 R251; the first one takes A, log 183). -/
def testMinority (n : Nat) : Nat := n % 3

/-- The triple of words that test `n` feeds: the minority core's word, of alternating polarity, differs from the other two in every
bit (09 R251). -/
def testTriple (n : Nat) : Nat × Nat × Nat :=
  let odd := if n / 3 % 2 = 0 then 0 else 0xFFFFFFFF
  let word (k : Nat) := if k = testMinority n then odd else 0xFFFFFFFF - odd
  (word 0, word 1, word 2)

/-- What a copy without a fault answers to a triple: the majority word and the core that differs from it. -/
def testAnswer (x : Nat × Nat × Nat) : Nat × Nat :=
  let m := maj3 x.1 x.2.1 x.2.2
  (m, if x.1 ≠ m then 0 else if x.2.1 ≠ m then 1 else 2)

/-- A copy passes a test when it outputs the majority word and names the minority core (09 R251). -/
def testPasses (n : Nat) (answer : Nat × Nat) : Bool :=
  let x := testTriple n
  decide (answer.1 = (if testMinority n = 0 then x.2.1 else x.1) ∧ answer.2 = testMinority n)

/-- The copies that fail test `n`: those of `wrong` answer otherwise than they should. -/
def testFailed (n : Nat) (wrong : BitVec 3) : BitVec 3 :=
  (List.range 3).foldl (fun m k => setBv m k (wrong.getLsbD k || !testPasses n (testAnswer (testTriple n)))) 0

/-- Cores blamed on the present edge that the pause after their cycle has already readmitted are REJOINING on it (09 R263). -/
def unreadmit (t : Nat) (s : State) : State :=
  ((s.trio t).readmitted.filter fun k => (instant s).blamed.contains (coreIx t k.val)).foldl (fun s k =>
    takeBack (P.trioReint t) 15 0 1 false
      ((s.modCore (coreIx t k.val) fun c => { c with st := if c.st = .inn then .rejoining else c.st }).modTrio t fun y => { y with
        readmitted := y.readmitted.filter (· ≠ k) })) s

/-- A core of a voted trio has been blamed on the present edge. -/
def blamedHere (t : Nat) (s : State) : Bool := (instant s).blamed.any fun c => decide (c / 3 = t)

/-- VOTER_TEST (09 R251): in a cycle whose number mod 10,000 is 0, alongside its vote; a copy that fails takes its side's core OUT and
has its Q field forced to 0. A blame of another core on the edge stands beside it (09 R263), whichever is handled first: the offer of
the core that goes OUT stands in the vote, and a test on the edge of a vote that has blamed a core still counts. -/
def voterTest (at' : Time) (t : Nat) (wrong : BitVec 3) (s : State) : State :=
  let s := advance at' s
  let x := s.unit (4 * t)
  if (s.trio t).split ∨ (blamedHere t s = false ∧ (x.inCycle = false ∨ alive s (4 * t) = false)) ∨ cycleNo x % 10000 ≠ 0 ∨
      (s.trio t).testedAt = some (cycleNo x) then s
  else
    let bad := testFailed (s.trio t).vtests.toNat wrong
    let s := s.modTrio t fun y => { y with
      vtests := y.vtests + 1, vtestOk := bad = 0, failed := y.failed ||| bad, forced := y.forced ||| bad,
      testedAt := some (cycleNo x), leaving := if x.inCycle then bad else 0 }
    let s := if bad = 0 then s else unreadmit t s
    settleCycle (4 * t) (((List.range 3).filter bad.getLsbD).foldl (fun s k =>
      coreOut t k (detect 31 (locBlock s dieSoc (0x40 + t)) s)) s)

def execVoterTest (at' : Time) (trio : Fin 8) (wrong : BitVec 3) (s : State) : Host.Outcome State Fault Refusal :=
  done (voterTest at' trio.val wrong s)

/-! ### Cycle watchdog -/

/-- A debug halt has suspended the watchdog on the very edge on which it runs out (09 R263). -/
def wdtLate (u : Nat) (s : State) : Bool :=
  let x := s.unit u
  decide (x.st = .debug ∧ x.debugAt = s.now ∧ x.wdtAt + wdtPeriod u s ≤ s.now) && !x.first

/-- TRIO_WDT_EXPIRY (11 R289). -/
def trioWdtExpiry (at' : Time) (t code : Nat) (s : State) : State :=
  let s := advance at' s
  match unitIx t code s with
  | none => s
  | some u => if ((s.unit u).st = .run ∧ alive s u ∧ wdtOver u s) ∨ wdtLate u s then wdtExpire u s else s

def execTrioWdtExpiry (at' : Time) (trio : Fin 8) (code : Fin 4) (s : State) : Host.Outcome State Fault Refusal :=
  done (trioWdtExpiry at' trio.val code.val s)

/-! ### Retentive data (11 R295 to R300) -/

/-- A journal record (11 Table 11.4). -/
def journalRecord (u : Nat) (seq tnow : Word) (img : Bytes) : Bytes :=
  let b := le 2 1 ++ [b8 (u / 4), b8 (u % 4)] ++ le 4 seq.toNat ++ le 4 tnow.toNat ++ zeros 4 ++ pad 1152 img ++ zeros 12
  b ++ le 4 (crcStore b)

/-- A journal copy as MRAM holds it; empty where none was written. -/
def journalCopy (s : State) (u copy : Nat) : Bytes := tget [] s.mram.journals (2 * u + copy)

/-- A copy meets the conditions of R300: JCRC, FORMAT, TRIO, CORE. -/
def journalOk (u : Nat) (b : Bytes) : Bool :=
  decide (b.length = 1184) && crcTrailerOk b 0x49C && decide (u16 b 0 = 1 ∧ u8 b 2 = u / 4 ∧ u8 b 3 = u % 4)

/-- The copy that a restore uses: valid, and the later SEQ (11 R300). -/
def journalBest (s : State) (u : Nat) : Option Nat :=
  let a := journalCopy s u 0
  let b := journalCopy s u 1
  if journalOk u a then
    if journalOk u b ∧ precedes (w32 (u32 a 4)) (w32 (u32 b 4)) then some 1 else some 0
  else if journalOk u b then some 1 else none

/-- K and KW of a record. -/
def journalImage (b : Bytes) : Bytes := sub b 0x10 1152

def putJournal (u copy : Nat) (b : Bytes) (s : State) : State :=
  (useChannel 0x6A 0 1 s).writeMram fun m => { m with journals := tset [] m.journals (2 * u + copy) b }

/-- K and KW in the data SRAM of a unit's cores. -/
def loadK (u : Nat) (img : Bytes) (s : State) : State :=
  (unitCores u).foldl (fun s ci => s.modCore ci fun c =>
    { c with sram := Memory.put (Memory.put c.sram 0x0600 (img.take 128)) 0x3000 (img.drop 128) }) s

/-- K and KW loaded from the journal; cleared to 0 where no copy serves (11 R293, R300). -/
def restoreK (u : Nat) (s : State) : State :=
  match journalBest s u with
  | some c =>
    let b := journalCopy s u c
    (loadK u (journalImage b) s).modUnit u fun x => { x with
      kLast := some (journalImage b), kSeq := w32 (u32 b 4), kCopy := c = 0 }
  | none => (loadK u (zeros 1152) s).modUnit u fun x => { x with kLast := none }

/-- Both copies written with K and KW zero and SEQ 0 and 1, for a journal never written; a journal that holds a valid copy stays as it
is, and its bit is set (11 R300). -/
def initJournal (u : Nat) (s : State) : State :=
  if (journalBest s u).isSome then s.modUnit u fun x => { x with kOk := true }
  else
    let s := putJournal u 0 (journalRecord u 0 0 (zeros 1152)) s
    let s := putJournal u 1 (journalRecord u 1 0 (zeros 1152)) s
    s.modUnit u fun x => { x with kOk := true, kSeq := 1, kCopy := false, kLast := some (zeros 1152) }

/-- KCOMMIT_DUE (11 R296): TRIO_KCOMMIT after the previous commit, or after the start (log 22). -/
def kcommitDue (at' : Time) (t code : Nat) (s : State) : State :=
  let s := advance at' s
  match unitIx t code s with
  | none => s
  | some u =>
    if (s.unit u).code ≠ [] ∧ (s.unit u).kAt + ms (10 * reg s (P.trioKcommit t)) ≤ s.now then
      s.modUnit u fun x => { x with kDue := true }
    else s

def execKcommitDue (at' : Time) (trio : Fin 8) (code : Fin 4) (s : State) : Host.Outcome State Fault Refusal :=
  done (kcommitDue at' trio.val code.val s)

/-- What a journal copy holds after a write or read-back that failed: nothing the spec states (log 19), but for a check field that is no
result of its bytes (16 R439). -/
def spoiled (k : Nat) : Bytes :=
  let b := (List.range 1180).map fun i => Config.freeByte (k + i)
  b ++ le 4 (0xFFFFFFFF - crcStore b)

/-- JOURNAL_WRITE (11 R296 to R298): the older copy has been written and read back, or the write failed. -/
def journalWrite (at' : Time) (t code : Nat) (ok : Bool) (s : State) : State :=
  let s := advance at' s
  match unitIx t code s with
  | none => s
  | some u =>
    let x := s.unit u
    match x.kStage with
    | none => s
    | some (tn, img) =>
      let copy := b2n x.kCopy
      let s := s.modUnit u fun x => { x with kStage := none }
      if ok then
        let s := putJournal u copy (journalRecord u (x.kSeq + 1) tn img) s
        countReg (s.modUnit u fun x => { x with kSeq := x.kSeq + 1, kCopy := !x.kCopy, kLast := some img }) P.trioKcommits
      else
        let s := { putJournal u copy (spoiled s.free) s with free := s.free + 1184 }
        detect 35 (locAddr s dieMram (journalAddr u copy)) (satField s P.trioKjFaults 15 0 1)

def execJournalWrite (at' : Time) (trio : Fin 8) (code : Fin 4) (ok : Bool) (s : State) : Host.Outcome State Fault Refusal :=
  done (journalWrite at' trio.val code.val ok s)

end Sys2Proof.Machine
end

