-- ==== Sys2Proof/Machine/TrioHost.lean ====
section
/-! DEFINITION. The interlock commands of 14 Table 14.9: programs, starts and stops, exchange, ownership, commissioning,
debug, snapshot read-out. -/

namespace Sys2Proof.Machine

/-! ### Program containers (11 R304, R305; 10 R283) -/

/-- The number of nonzero IDs of a symbol table that occur twice is zero. -/
def symbolsOk : List Nat → Bool
  | [] => true
  | i :: r => (decide (i = 0) || !r.contains i) && symbolsOk r

/-- A container's fields, reserved bits, size and symbol tables (11 R305, step 2). -/
def containerFieldsOk (ct : Bytes) : Bool :=
  let len := containerLen ct
  decide (u16 ct 0 = 1 ∧ u8 ct 2 < 8 ∧ u8 ct 3 < 4 ∧ 1 ≤ len ∧ len ≤ 65536 ∧ u16 ct 8 < 2 ∧ u16 ct 0xA = 0) &&
  allZero (sub ct 0x14 44) && decide (ct.length = 64 + 4 * len + 9216) &&
  symbolsOk ((List.range 256).map (symTimer ct)) && symbolsOk ((List.range 256).map (symCounter ct)) &&
  symbolsOk ((List.range 4096).map (symEdge ct))

/-- The checks of a container for a unit by its INDEX, in order: none where it passes, else the status and the index of
the first failing instruction, if one fails. -/
def containerCheck (ix : Nat) (ct : Bytes) (s : State) : Option (Nat × Bytes) :=
  if !crcEmbeddedOk ct 0xC then some (Status.checkFail, [])
  else if !containerFieldsOk ct then some (Status.badParam, [])
  else if ix ≠ 4 * u8 ct 2 + u8 ct 3 ∨ (unitIx (u8 ct 2) (u8 ct 3) s).isNone then some (Status.badParam, [])
  else match firstBad (containerLen ct) (containerWords ct) 0 [] with
    | some i => some (Status.badParam, be 4 i)
    | none => none

/-- The trio is halted as voter-suspect, which only a restart of the module ends (09 R250). -/
def held250 (u : Nat) (s : State) : Bool := decide (u % 4 = 0) && (s.trio (u / 4)).suspect

/-- A byte range of the data SRAM cleared to 0. -/
def wipe (lo n : Nat) (m : List Host.Cell) : List Host.Cell := m.filter fun c => !(decide (lo ≤ c.1 ∧ c.1 < lo + n))

/-- Q, Y and S images cleared (11 Table 11.3). -/
def wipeImages (c : Core) : Core := { c with sram := wipe 0x0300 256 (wipe 0x0040 64 (wipe 0x0004 2 c.sram)) }

/-- Working data cleared as for a cold restart: M, W, T, C, E and the images; the exchange mask ends (11 Table 11.3). -/
def wipeWork (c : Core) : Core :=
  let m := wipe 0x2000 4096 (wipe 0x1000 4096 (wipe 0x3400 4096 (wipe 0x0700 512 (wipe 0x0400 512 c.sram))))
  wipeImages { c with sram := m, mask := [], ceAt := [], ueAt := [] }

/-- Every core of a unit passed through a function. -/
def modUnitCores (u : Nat) (f : Core → Core) (s : State) : State :=
  (unitCores u).foldl (fun s ci => s.modCore ci f) s

/-- The data of a unit as a cold restart leaves it (11 Table 11.3). -/
def coldData (u : Nat) (s : State) : State := restoreK u (modUnitCores u wipeWork s)

/-- A program placed in the instruction SRAMs of a unit, which enters STOP (11 Tables 9.1, 11.2; log 20). -/
def placeProgram (u : Nat) (ct : Bytes) (s : State) : State :=
  let s := s.modUnit u fun x => { x with
    code := containerWords ct, container := ct, unchanged := false, inCycle := false, wdtOn := false, dataErr := false,
    resumeAt := none, kDue := false, kStage := none }
  let s := (unitCores u).foldl (fun s ci => useChannel (0x28 + ci) 0 2 s) s
  let s := modUnitCores u (fun c => if c.failed || decide (c.st = .underTest) then c else { c with st := .inn }) s
  setRunState u .stop (coldData u s)

/-- PROG_LOAD (11 R305, R291, R300). -/
def progLoadObj (ix : Nat) (ct : Bytes) (s : State) : Answer :=
  match containerCheck ix ct s with
  | some (st, out) => (st, out, s)
  | none =>
    let st := (s.unit ix).st
    if (st ≠ .empty ∧ st ≠ .stop ∧ st ≠ .halted) ∨ held250 ix s then reject Status.wrongState s
    else (Status.ok, [], recheck (placeProgram ix ct (initJournal ix (storeObj kProgram ix ct s))))

def execProgLoad (h : Hdr) (part : BulkPart) (s : State) : Host.Outcome State Fault Refusal :=
  done (serve h 0x0501 (bulkBytes part) (.progLoad h part) (bulk 0x0501 part progLoadObj) s)

/-- PROG_DELETE: STOP only (11 Table 11.2). -/
def progDeleteBody (t code : Nat) (s : State) : Answer :=
  match unitIx t code s with
  | none => reject Status.badParam s
  | some u =>
    if (s.unit u).st ≠ .stop then reject Status.wrongState s
    else
      let s := s.modUnit u fun x => { x with code := [], container := [], unchanged := false, kOk := false, kDue := false }
      (Status.ok, [], recheck (setRunState u .empty (storeObj kProgram u [] s)))

def execProgDelete (h : Hdr) (trio core : Nat) (s : State) : Host.Outcome State Fault Refusal :=
  done (serve h 0x0502 (be 1 trio ++ be 1 core) (.progDelete h trio core) (progDeleteBody trio core) s)

/-! ### Starts (11 R293, R294, R302) -/

/-- The configuration's check value is confirmed (11 R302). -/
def confirmed (s : State) : Bool := decide (confirmedValue s = some s.chk)

/-- A unit may enter RUN: the trio's clock runs; a split core has not failed its test (log 184); a voted trio has two cores that are not OUT, its value is confirmed, and
it is not voter-suspect (11 R291, R302, R303; 09 R250). -/
def mayStart (u : Nat) (s : State) : Bool :=
  decide (tget .running s.clk.doms 0 = .running) && !(s.unit u).code.isEmpty &&
  (if u % 4 ≠ 0 then !(s.core (coreIx (u / 4) (u % 4 - 1))).failed else confirmed s && !held250 u s &&
    decide (2 ≤ ((unitCores u).filter fun ci => decide ((s.core ci).st ≠ .out)).length))

/-- The data SRAMs of two cores have the same CRC (11 R294). -/
def sameSram (a b : Core) : Bool :=
  decide (a.sram = b.sram) || decide (crcStore (Memory.bytes a.sram 0 32768) = crcStore (Memory.bytes b.sram 0 32768))

/-- The lowest core of a majority of equal data SRAMs among the cores that are not OUT (11 R294). -/
def majoritySram (u : Nat) (s : State) : Option Nat :=
  let ks := (unitCores u).filter fun ci => decide ((s.core ci).st ≠ .out)
  ks.find? fun ci => ks.any fun cj => decide (ci ≠ cj) && sameSram (s.core ci) (s.core cj)

/-- A unit enters RUN, cold or warm (11 R293, R294). A warm start that its conditions do not allow proceeds cold. -/
def startUnit (u kind : Nat) (s : State) : State :=
  let x := s.unit u
  let src := majoritySram u s
  let warm := decide (kind = 1) && x.unchanged && !x.dataErr && (decide (u % 4 ≠ 0) || src.isSome)
  let s :=
    if warm then
      let s := match (if u % 4 = 0 then src else none) with
        | some ci =>
          let m := (s.core ci).sram
          modUnitCores u (fun c => if c.st = .out then c else { c with sram := m, mask := (s.core ci).mask }) s
        | none => s
      modUnitCores u (fun c => { wipeImages c with ceAt := [], ueAt := if u % 4 = 0 then [] else c.ueAt }) s
    else coldData u s
  let s := modUnitCores u (fun c => if c.failed || decide (c.st = .underTest) then c else { c with st := .inn }) s
  let s := s.modUnit u fun x => { x with
    code := containerWords x.container, first := true, warm := warm, cold := !warm, exch := false, inCycle := false,
    wdtOn := false, stopReq := false, dataErr := false, kAt := s.now, resumeAt := none, dbgWrites := [] }
  let s := startMark u (if warm then 2 else 1) (decide (kind = 1) && !warm) s
  settle 29 (setRunState u .run (latchSafe u s))

/-- TRIO_START (11 R291): from STOP. -/
def trioStartBody (t code kind : Nat) (s : State) : Answer :=
  match unitIx t code s with
  | none => reject Status.badParam s
  | some u =>
    if 1 < kind then reject Status.badParam s
    else if (s.unit u).st ≠ .stop ∨ mayStart u s = false then reject Status.wrongState s
    else (Status.ok, [], startUnit u kind s)

def execTrioStart (h : Hdr) (trio core kind : Nat) (s : State) : Host.Outcome State Fault Refusal :=
  done (serve h 0x0503 (be 1 trio ++ be 1 core ++ be 1 kind) (.trioStart h trio core kind) (trioStartBody trio core kind) s)

/-- TRIO_STOP (11 R291): from RUN at the next cycle boundary; between two cycles, on the edge on which a cycle has started, which
then does not start, and from DEBUG, at once. -/
def trioStopBody (t code : Nat) (s : State) : Answer :=
  match unitIx t code s with
  | none => reject Status.badParam s
  | some u =>
    let s := undoCycle u (if code = 0 then settleSuspect t s else s)
    let x := s.unit u
    if x.st = .debug ∨ (x.st = .run ∧ x.inCycle = false) then
      let s := abandonExchange u ((flushWrites u s).modUnit u fun x => { x with
        inCycle := false, wdtOn := false, stopReq := false, resumeAt := none })
      (Status.ok, [], leaveRun u .stop s)
    else if x.st = .run then (Status.ok, [], s.modUnit u fun x => { x with stopReq := true })
    else reject Status.wrongState s

def execTrioStop (h : Hdr) (trio core : Nat) (s : State) : Host.Outcome State Fault Refusal :=
  done (serve h 0x0504 (be 1 trio ++ be 1 core) (.trioStop h trio core) (trioStopBody trio core) s)

/-- TRIO_RESTART (11 R291, R294): from HALTED; the reply carries TRIO_RESTART. -/
def trioRestartBody (t code kind : Nat) (s : State) : Answer :=
  match unitIx t code s with
  | none => reject Status.badParam s
  | some u =>
    if 1 < kind then reject Status.badParam s
    else if (s.unit u).st ≠ .halted ∨ mayStart u s = false then reject Status.wrongState s
    else
      let s := startUnit u kind s
      (Status.ok, be 4 (reg s (P.trioRestart t)), s)

def execTrioRestart (h : Hdr) (trio core kind : Nat) (s : State) : Host.Outcome State Fault Refusal :=
  done (serve h 0x0505 (be 1 trio ++ be 1 core ++ be 1 kind) (.trioRestart h trio core kind)
    (trioRestartBody trio core kind) s)

/-! ### On-line exchange (11 R306) -/

/-- A unit is in RUN or DEBUG. -/
def active (s : State) (u : Nat) : Bool := decide ((s.unit u).st = .run ∨ (s.unit u).st = .debug)

/-- The checks of an ownership map without its rule on running trios (09 R256). -/
def ownerCheck (m : Bytes) (s : State) : Option Nat :=
  if m.length ≠ 2592 then some Status.badParam
  else if !crcEmbeddedOk m 4 then some Status.checkFail
  else if !ownerMapOk s m then some Status.badParam else none

/-- PROG_EXCHANGE (11 R306): checked and staged; the reply follows at the boundary. -/
def progExchangeObj (h : Hdr) (ix : Nat) (bs : Bytes) (s : State) : Answer :=
  let chk := w32 (beAt 4 bs 0)
  let mapLen := beAt 4 bs 4
  if bs.length < 8 + mapLen ∨ (mapLen ≠ 0 ∧ mapLen ≠ 2592) then reject Status.badParam s
  else
    let ct := sub bs 8 (bs.length - 8 - mapLen)
    let map := bs.drop (bs.length - mapLen)
    match containerCheck ix ct s with
    | some (st, out) => (st, out, s)
    | none =>
      match (if mapLen = 0 then none else ownerCheck map s) with
      | some st => reject st s
      | none =>
        if (s.unit ix).st ≠ .run then reject Status.wrongState s
        else if mapLen ≠ 0 ∧ ((mapChanges s.owners map).any fun v => decide (v ≠ ix) && active s v) then
          reject Status.wrongState s
        else
          let owners := if mapLen = 0 then obj s kOwner 0 else map
          let would := w32 (crcStore (chkBytes (fun u => if u = ix then ct else obj s kProgram u) owners s))
          if would ≠ chk then reject Status.checkFail s
          else
            let s := initJournal ix (s.modUnit ix fun x => { x with stage := some (ct, map, chk, h) })
            (Status.held, [], s.modHost fun x => { x with held := some { h := h, opcode := 0x0506, arg := ix } })

def execProgExchange (h : Hdr) (part : BulkPart) (s : State) : Host.Outcome State Fault Refusal :=
  done (serve h 0x0506 (bulkBytes part) (.progExchange h part) (bulk 0x0506 part (progExchangeObj h)) s)

/-! ### Ownership and commissioning -/

/-- OWNER_LOAD (09 R256): no changed bit belongs to a unit in RUN or DEBUG, so it takes effect at once for every other. -/
def ownerLoadObj (ix : Nat) (m : Bytes) (s : State) : Answer :=
  if ix ≠ 0 then reject Status.badParam s
  else match ownerCheck m s with
    | some st => reject st s
    | none =>
      if (mapChanges s.owners m).any (active s) then reject Status.wrongState s
      else (Status.ok, [], recheck (setOwners m (storeObj kOwner 0 m s)))

def execOwnerLoad (h : Hdr) (part : BulkPart) (s : State) : Host.Outcome State Fault Refusal :=
  done (serve h 0x0507 (bulkBytes part) (.ownerLoad h part) (bulk 0x0507 part ownerLoadObj) s)

/-- COMMISSION (11 R302). -/
def commissionBody (v : Word) (s : State) : Answer :=
  if v = s.chk then
    (Status.ok, [], setChkState 1 (setConfirmed v s))
  else reject Status.checkFail s

def execCommission (h : Hdr) (value : Word) (s : State) : Host.Outcome State Fault Refusal :=
  done (serve h 0x0508 (be 4 value.toNat) (.commission h value) (commissionBody value) s)

/-- HALT_INFO (14 Table 14.9). -/
def haltInfoBody (t code : Nat) (s : State) : Answer :=
  match unitIx t code s with
  | none => reject Status.badParam s
  | some u =>
    let x := s.unit u
    (Status.ok, [b8 x.cause, b8 x.excCode, b8 x.excCore, 0] ++ be 4 x.excPc ++ be 4 x.excCycle ++ be 4 x.excTnow.toNat, s)

def execHaltInfo (h : Hdr) (trio core : Nat) (s : State) : Host.Outcome State Fault Refusal :=
  done (serve h 0x0509 (be 1 trio ++ be 1 core) (.haltInfo h trio core) (haltInfoBody trio core) s)

/-! ### Debug (09 R259 to R261) -/

/-- The core whose registers the debug commands read: core A, or the split core named. -/
def dbgCore (u : Nat) : Nat := if u % 4 = 0 then coreIx (u / 4) 0 else coreIx (u / 4) (u % 4 - 1)

/-- DBG_HALT (09 R259, R260; 11 Table 11.2): from RUN, at an instruction boundary; a halt of the unit on that edge wins (09 R263). -/
def dbgHaltBody (t code : Nat) (s : State) : Answer :=
  match unitIx t code s with
  | none => reject Status.badParam s
  | some u =>
    let s := if code = 0 then settleSuspect t s else s
    if (s.unit u).st ≠ .run then reject Status.wrongState s
    else
      let s := enterDebug u s
      if (s.unit u).st = .debug then (Status.ok, be 4 (s.core (dbgCore u)).pc, s) else reject Status.wrongState s

def execDbgHalt (h : Hdr) (trio core : Nat) (s : State) : Host.Outcome State Fault Refusal :=
  done (serve h 0x050A (be 1 trio ++ be 1 core) (.dbgHalt h trio core) (dbgHaltBody trio core) s)

/-- One step of the debugger: the executing cores execute one instruction each; at a cycle boundary the next cycle
starts first (log 23). -/
def dbgStepOne (u : Nat) (s : State) : State :=
  let s := if (s.unit u).inCycle then s else
    startCycle u [] (s.modUnit u fun x => { x with debugAt := s.now })
  (running s u).foldl (fun s ci => stepCore ci s) s

def dbgSteps : Nat → Nat → State → State
  | 0, _, s => s
  | n + 1, u, s => if (s.unit u).stepping then dbgSteps n u (dbgStepOne u s) else s

/-- DBG_STEP (09 R260): COUNT instructions in DEBUG; what the voter copies, Y and S give outside stays (09 R249, R259). -/
def dbgStepBody (t code count : Nat) (s : State) : Answer :=
  match unitIx t code s with
  | none => reject Status.badParam s
  | some u =>
    if count = 0 ∨ 65535 < count then reject Status.badParam s
    else if (s.unit u).st ≠ .debug then reject Status.wrongState s
    else
      let was := s.trio t
      let s' := dbgSteps count u (s.modUnit u fun x => { x with stepping := true })
      let s' := (s'.modUnit u fun x => { x with stepping := false }).modTrio t fun y =>
        { y with qA := was.qA, qB := was.qB, qC := was.qC, y := was.y }
      let s' := { s' with sNow := s.sNow, inst := s.inst }
      (Status.ok, be 4 (s'.core (dbgCore u)).pc, s')

def execDbgStep (h : Hdr) (trio core count : Nat) (s : State) : Host.Outcome State Fault Refusal :=
  done (serve h 0x050B (be 1 trio ++ be 1 core ++ be 2 count) (.dbgStep h trio core count) (dbgStepBody trio core count) s)

/-- DBG_BREAK: a breakpoint set or cleared; its target lies below the program length (10 R284). -/
def dbgBreakBody (t code slot set pc : Nat) (s : State) : Answer :=
  match unitIx t code s with
  | none => reject Status.badParam s
  | some u =>
    if 3 < slot ∨ 1 < set ∨ (set = 1 ∧ (s.unit u).code.length ≤ pc) then reject Status.badParam s
    else (Status.ok, [], s.modUnit u fun x => { x with breaks := tset none x.breaks slot (if set = 1 then some pc else none) })

def execDbgBreak (h : Hdr) (trio core slot set pc : Nat) (s : State) : Host.Outcome State Fault Refusal :=
  done (serve h 0x050C (be 1 trio ++ be 1 core ++ be 1 slot ++ be 1 set ++ be 2 pc) (.dbgBreak h trio core slot set pc)
    (dbgBreakBody trio core slot set pc) s)

/-- DBG_RESUME (11 Table 11.2): from DEBUG to RUN where it stopped, a voted trio only while the check value is confirmed (11 R302); the
watchdog goes on from where it was suspended. -/
def dbgResumeBody (t code : Nat) (s : State) : Answer :=
  match unitIx t code s with
  | none => reject Status.badParam s
  | some u =>
    if (s.unit u).st ≠ .debug ∨ (code = 0 ∧ confirmed s = false) then reject Status.wrongState s
    else
      let n := (s.core (dbgCore u)).steps
      let s := s.modUnit u fun x => { x with
        wdtOn := !x.first, wdtAt := x.wdtAt + (s.now - x.debugAt), resumeAt := some n }
      (Status.ok, [], setRunState u .run (latchSafe u s))

def execDbgResume (h : Hdr) (trio core : Nat) (s : State) : Host.Outcome State Fault Refusal :=
  done (serve h 0x050D (be 1 trio ++ be 1 core) (.dbgResume h trio core) (dbgResumeBody trio core) s)

/-- The registers of a core as DBG_READ returns them: 52 bytes; bit 0 of the LS bits and the first CS entry are the
tops (log 24). -/
def regsBytes (c : Core) : Bytes :=
  be 4 c.pc ++ be 1 (b2n c.acc) ++ be 1 c.ls.length ++ be 2 (packBits c.ls) ++ be 4 c.wacc.toNat ++ be 2 c.ix.toNat ++
    be 1 (packBits [c.z, c.n, c.v, c.c, c.ovs]) ++ be 1 c.cs.length ++
    ((List.range 8).flatMap fun i => be 4 (c.cs.getD i 0)) ++ be 4 c.tnow.toNat

/-- DBG_READ (09 R259). -/
def dbgReadBody (t code area rsvd off len : Nat) (s : State) : Answer :=
  match unitIx t code s with
  | none => reject Status.badParam s
  | some u =>
    if 1 < area ∨ rsvd ≠ 0 ∨ len = 0 ∨ 1024 < len ∨ (area = 1 ∧ 32768 < off + len) then reject Status.badParam s
    else
      let c := s.core (dbgCore u)
      (Status.ok, if area = 0 then regsBytes c else Memory.bytes c.sram off len, s)

def execDbgRead (h : Hdr) (trio core area rsvd offset len : Nat) (s : State) : Host.Outcome State Fault Refusal :=
  done (serve h 0x050E (be 1 trio ++ be 1 core ++ be 1 area ++ be 1 rsvd ++ be 2 offset ++ be 2 len)
    (.dbgRead h trio core area rsvd offset len) (dbgReadBody trio core area rsvd offset len) s)

/-- DBG_WRITE (09 R260): a unit in RUN takes it at the next instruction boundary of A, between two cycles at the next cycle's start
(log 201); a unit that does not execute takes it at once. -/
def dbgWriteBody (t code off len : Nat) (bs : Bytes) (s : State) : Answer :=
  match unitIx t code s with
  | none => reject Status.badParam s
  | some u =>
    if len = 0 ∨ 1024 < len ∨ bs.length ≠ len ∨ 32768 < off + len then reject Status.badParam s
    else
      if (s.unit u).st = .run then
        let n := (running s u).foldl (fun a ci => max a (s.core ci).steps) 0
        (Status.ok, [], s.modUnit u fun x => { x with dbgWrites := x.dbgWrites ++ [(n + 1, s.now, off, bs)] })
      else (Status.ok, [], modUnitCores u (fun c => putDebug c off bs) s)

def execDbgWrite (h : Hdr) (trio core offset len : Nat) (data : Bytes) (s : State) : Host.Outcome State Fault Refusal :=
  done (serve h 0x050F (be 1 trio ++ be 1 core ++ be 2 offset ++ be 2 len ++ data) (.dbgWrite h trio core offset len data)
    (dbgWriteBody trio core offset len data) s)

/-! ### Snapshot read-out -/

/-- Base of a trio's snapshot of a tick: two buffers of 2,048 bytes used in turn (04 Table 4.1; log 11). -/
def snapshotBase (t : Nat) (k : Word) : Nat := 0x6C140000 + 4096 * t + 2048 * (k.toNat % 2)

/-- SNAPSHOT_READ (14 Table 14.9, 04 R99): bytes of the latest complete snapshot, whose layout the spec leaves open. -/
def snapshotReadBody (t rsvd off len : Nat) (s : State) : Answer :=
  if 7 < t ∨ rsvd ≠ 0 ∨ len = 0 ∨ 1024 < len ∨ 2048 < off + len then reject Status.badParam s
  else match s.cru.snapTick with
    | none => reject Status.notPresent s
    | some k =>
      let s := touch 0x60 6 (snapshotBase t k + off) len s
      if (cruRead s (snapshotBase t k + off) len).2 then reject Status.checkFail s
      else (Status.ok, (List.range len).map fun i => Config.snapshotByte k.toNat t (off + i), s)

def execSnapshotRead (h : Hdr) (trio rsvd offset len : Nat) (s : State) : Host.Outcome State Fault Refusal :=
  done (serve h 0x0510 (be 1 trio ++ be 1 rsvd ++ be 2 offset ++ be 2 len) (.snapshotRead h trio rsvd offset len)
    (snapshotReadBody trio rsvd offset len) s)

end Sys2Proof.Machine
end

