-- ==== Sys2Proof/Machine/Witness.lean ====
section
/-! DEFINITION. Witness verification (chapter 07): which pixels are checked, the reference, lane verdicts, the vote, reports,
invalid views and probation. -/

namespace Sys2Proof.Machine

/-! ### Lanes (07 R178, R193) -/

/-- WIT_MAJORITY (V space bit 819): at least two lanes are IN_SERVICE. -/
def witMajority (s : State) : Bool := decide (2 ≤ ((List.range 3).filter fun l => decide ((s.lane l).st = .inService)).length)

/-- A lane changes state; when it leaves service is held for the frames in progress (07 R190, R201), and one that enters service
begins with an empty queue. The loss of the majority raises FS-021 (07 R203). -/
def setLane (l : Nat) (st : LaneState) (s : State) : State :=
  let before := witMajority s
  let was := decide ((s.lane l).st = .inService)
  let s := fallIf (decide (st ≠ .inService)) [816 + l] (s.modLane l fun x => { x with
    st := st, ok := x.ok && decide (st = .inService), leftAt := if was && st ≠ .inService then some s.now else x.leftAt,
    tapTo := if was then x.tapTo else 10 * s.now })
  if before && !witMajority s then detect 21 (locBlock s dieSoc 0x20) (fall [819] s) (persists := true)
  else if !before && witMajority s then causeGone 21 (rise 819 s) else s

/-- A lane is taken OUT with its fault, that of its PLL located to the clock generation (15 Table 15.1); one that was about to return does
not (07 R193, R194). -/
def removeLane (l fs : Nat) (s : State) : State :=
  detect fs (if 66 ≤ fs ∧ fs ≤ 68 then locBlock s dieSoc 0x69 (fs - 63) else locBlock s dieSoc (0x20 + l)) ((setLane l .out s).modLane l fun x => { x with returning := false })

/-- A removed lane's domain is held in reset until the lane returns (18 Table 18.3), which counts as a reset of it (log 164). -/
def holdLane (l : Nat) (s : State) : State := satField (s.modLane l fun x => { x with removed := true }) P.sysDomainResets 15 8 1

/-- A slice of a lane whose blame limit has been reached on the very edge at which the slice has started has not started (07 R204). -/
def cancelSlice (l : Nat) (s : State) : State :=
  match tget none s.st.running 1 with
  | some r =>
    if r.unit = l ∧ r.startAt = s.now ∧ (s.lane l).st = .underTest ∧ reg s P.witBlameTicks ≤ (s.lane l).blame then
      let s := setTesting (0x20 + l) false (s.modSt fun x => { x with running := tset none x.running 1 none })
      s.modLane l fun x => { x with st := .inService }
    else s
  | none => s

/-- LANE_REMOVAL (07 R193): after WIT_BLAME_TICKS ticks of disagreement in a row. -/
def laneRemoval (t : Time) (l : Nat) (s : State) : State :=
  let s := cancelSlice l (advance t s)
  let x := s.lane l
  if x.st ≠ .inService ∨ x.blame < reg s P.witBlameTicks then s
  else (removeLane l 17 (holdLane l s)).modLane l fun x => { x with blame := 0, removals := min (x.removals + 1) 2, testDue := decide (x.removals = 0) }

def execLaneRemoval (t : Time) (lane : Fin 3) (s : State) : Host.Outcome State Fault Refusal := done (laneRemoval t lane.val s)

/-- WIT_VOTER_TEST (07 R194): every 1,024 ticks; `wrong` are the copies with a wrong output. -/
def witVoterTest (t : Time) (wrong : BitVec 3) (s : State) : State :=
  let s := advance t s
  if s.tick.count.toNat % 1024 ≠ 0 then s
  else (List.range 3).foldl (fun s l => if wrong.getLsbD l && (s.lane l).st ≠ .out then removeLane l 19 s else s) s

def execWitVoterTest (t : Time) (wrong : BitVec 3) (s : State) : Host.Outcome State Fault Refusal := done (witVoterTest t wrong s)

/-! ### The record and the source frames (07 R186, R187) -/

/-- Reason bits of a lane's report (07 Table 7.4). -/
structure Reasons where
  mismatch : Bool := false
  poisoned : Bool := false
  stamp : Bool := false
  stale : Bool := false
  record : Bool := false
  overflow : Bool := false
  repeated : Bool := false
  none' : Bool := false
  test : Bool := false
  probation : Bool := false
  deriving DecidableEq, Repr

def reasonBits (r : Reasons) : Nat :=
  packBits [r.mismatch, r.poisoned, r.stamp, r.stale, r.record, r.overflow, r.repeated, r.none', r.test, r.probation]

/-- Where a lane reads MCRC, and OCRC where the record names a list (07 R186). -/
def checkRuns (rcd : Bytes) (s : State) : List (Nat × Nat) :=
  (placedAddr s kMesh (u16 rcd 0x14) + 0xFC, 4) ::
    (if u16 rcd 0x16 = 0xFFFF then [] else [(placedAddr s kOverlay (u16 rcd 0x16) + 0x0C, 4)])

/-- The commit record fails its checks (07 R186); a check field read with poison differs (16 R438). `addrs` are the buffer addresses the tap delivered. -/
def recordFails (rcd : Bytes) (poison : Bool) (v : Nat) (k : Word) (addrs : List Nat) (s : State) : Bool :=
  let c := sub rcd 0x80 128
  let ovl := u16 rcd 0x16
  poison || (checkRuns rcd s).any (fun a => runPoisoned s a.1 a.2) || !crcTrailerOk rcd 0x1FC || decide (u32 rcd 0 ≠ k.toNat ∨ u16 rcd 4 ≠ v ∨ u8 rcd 6 = 4) || !crcTrailerOk c 0x7C ||
    addrs.any (fun a => decide (u32 rcd 0x10 ≠ a)) ||
    decide (u32 (placedBytes s kMesh (u16 rcd 0x14)) 0xFC ≠ u32 rcd 0x18) ||
    (decide (ovl ≠ 0xFFFF) && decide (u32 (placedBytes s kOverlay ovl) 0x0C ≠ u32 rcd 0x1C))

/-- The addresses of a camera's three buffers: those its frames lie in, and those of its run (07 R187, 03 R74). -/
def camBufs (c : Nat) (s : State) : List Nat :=
  let p := s.cam c
  ([p.settled, p.held, p.older].filterMap fun b => b.map (·.addr)) ++ (p.frame.map (·.addr)).toList ++
    (List.range 3).map fun b => camBufAddr c b s

/-- Header of the frame at an address. -/
def headerAt (a : Nat) (s : State) : Bytes := Memory.bytes s.cru.mem a 64

/-- The buffer of a camera that holds a generation, by its address. -/
def genBuf (c gen : Nat) (s : State) : Option Nat := (camBufs c s).find? fun a => u32 (headerAt a s) 0x20 = gen

/-- What a source frame's header shows: STAMP, SOURCE_STALE, poison (07 R187). A header read with poison does not match its HCRC
(16 R438); where a GEN cannot be found and a header of the camera's buffers reads poisoned, that poison has been met (04 R99). -/
def sourceCheck (c gen : Nat) (k : Word) (s : State) : Bool × Bool × Bool :=
  match genBuf c gen s with
  | none => (true, false, (camBufs c s).any fun a => tilePoisoned s a)
  | some a =>
    let h := headerAt a s
    let fl := u16 h 0x0E
    let stamp := tilePoisoned s a || !crcTrailerOk h 0x3C || decide (u32 h 0 ≠ k.toNat) || !bitAt fl 0
    (stamp, !stamp && (!bitAt fl 1 || bitAt fl 6 || bitAt fl 5), tilePoisoned s a)

/-- The source frame of a generation, by its own header (07 R186, R188; 03 R76). -/
def headerSource (c gen : Nat) (s : State) : Source :=
  match genBuf c gen s with
  | some a => sourceAt a (u16 (headerAt a s) 8) (u16 (headerAt a s) 0x0A) (u8 (headerAt a s) 0x0C)
  | none => sourceAt 0 0 0 0

/-- The header and the records of the overlay list that a record names: a lane reads them all. -/
def listRuns (rcd : Bytes) (s : State) : List (Nat × Nat) :=
  if u16 rcd 0x16 = 0xFFFF then []
  else [(placedAddr s kOverlay (u16 rcd 0x16), 16 + 32 * ovlCount (placedBytes s kOverlay (u16 rcd 0x16)))]

/-- What the lanes read to judge a frame, beside its witnesses: the checks of the record's objects, the overlay list's records and the
source headers. -/
def judgeRuns (rcd : Bytes) (s : State) : List (Nat × Nat) :=
  let c := sub rcd 0x80 128
  checkRuns rcd s ++ listRuns rcd s ++ ((genBuf (cxSrcA c) (u32 rcd 0x20) s).map fun a => (a, 64)).toList ++
    (if cxTwo c then ((genBuf (cxSrcB c) (u32 rcd 0x24) s).map fun a => (a, 64)).toList else [])

/-! ### Counting (07 R188 to R190) -/

/-- What a lane counts over a view's frame. -/
structure Counts where
  selected : Nat := 0
  nw : Nat := 0
  miss : Nat := 0
  skip : Nat := 0
  flags : Nat := 0
  dr : Nat := 0
  dg : Nat := 0
  db : Nat := 0
  poison : Bool := false
  log : List Bytes := []
  deriving DecidableEq, Repr

/-- Distance of two codes. -/
def codeDiff (a b : Nat) : Nat := (a - b) + (b - a)

/-- One witness compared with its reference (07 R189); `bad'` says that the pixel itself was read from a poisoned tile (R198). -/
def compareOne (tol pipe xb yb : Nat) (tap : Px) (f : Nat) (bad' : Bool) (ref : Px × PxFlags) (c : Counts) : Counts :=
  let dr := codeDiff tap.r ref.1.r
  let dg := codeDiff tap.g ref.1.g
  let db := codeDiff tap.b ref.1.b
  let colours := decide (dr ≤ tol ∧ dg ≤ tol ∧ db ≤ tol)
  let fl := decide (bitAt f 0 = ref.2.ovl ∧ bitAt f 1 = ref.2.fill)
  let tapped := bitAt f 2 || bad'
  let bad := !tapped && !(colours && fl)
  let ent : Bytes := le 2 xb ++ le 2 yb ++ [b8 pipe, b8 f, b8 (flagsByte ref.2), 0, b8 tap.r, b8 tap.g, b8 tap.b, 0,
    b8 ref.1.r, b8 ref.1.g, b8 ref.1.b, 0]
  { c with
    nw := c.nw + 1, miss := c.miss + b2n bad, flags := c.flags + b2n (bad && colours),
    dr := max c.dr dr, dg := max c.dg dg, db := max c.db db,
    poison := c.poison || tapped || ref.2.poison,
    log := if bad && decide (c.log.length < 59) then c.log ++ [ent] else c.log }

/-- A stored view pixel of a buffer: colour and F. -/
def storedPixel (addr w xb yb : Nat) (s : State) : Px × Nat :=
  let a := 256 * addr + 4 * (yb * w + xb)
  ({ r := memByte s a, g := memByte s (a + 1), b := memByte s (a + 2) }, memByte s (a + 3))

/-- A pipe that shows the view in the frame: its number, state, frame and layer. -/
abbrev Tap : Type := Nat × PipeSt × OutFrame × LayerShown

/-- The scene of a frame by its record and by the headers of the source frames it names (07 R186, R188; 06 R173). -/
def recordScene (k : Word) (rcd : Bytes) (s : State) : Scene :=
  let c := sub rcd 0x80 128
  { ctx := c, pan := signed 16 (u16 rcd 0x0E),
    mesh := placedBytes s kMesh (u16 rcd 0x14), meshBase := placedAddr s kMesh (u16 rcd 0x14),
    ovl := if u16 rcd 0x16 = 0xFFFF then [] else placedBytes s kOverlay (u16 rcd 0x16), ovlBase := placedAddr s kOverlay (u16 rcd 0x16),
    srcA := headerSource (cxSrcA c) (u32 rcd 0x20) s,
    srcB := if cxTwo c then headerSource (cxSrcB c) (u32 rcd 0x24) s else headerSource (cxSrcA c) (u32 rcd 0x20) s,
    sS := ((s.sHist.find? fun x => x.1 = k).map (·.2)).getD 0 }

/-- The source bytes of one bilinear sample (07 R188). -/
def sampleRuns (f : Source) (px py : Int) : List (Nat × Nat) :=
  if px < 0 ∨ 256 * ((f.w : Int) - 1) < px ∨ py < 0 ∨ 256 * ((f.h : Int) - 1) < py then []
  else
    (taps false py).flatMap fun yw => (taps false px).flatMap fun xw =>
      let x := (clampI 0 (f.w - 1) xw.1).toNat
      let row := f.base + 256 + (clampI 0 (f.h - 1) yw.1).toNat * f.pitch
      let sz := if f.fmt = 0 then 4 else 8
      if f.fmt = 2 then [(row + 4 * x, 4)]
      else [(row + sz * (x / 2), sz), (row + sz * min (x / 2 + 1) ((f.w - 1) / 2), sz)]

/-- What a lane reads of the Crucible for the reference of one view-buffer position: mesh cells, source neighbourhoods, and the data of
the overlay primitives that cover it (07 R188). -/
def referenceRuns (k : Scene) (xb yb : Nat) : List (Nat × Nat) :=
  let x := mirrorX k.ctx xb
  let y := mirrorY k.ctx yb
  let plane (b : Bool) : List (Nat × Nat) :=
    let c := x / meshCellW k.mesh
    let r := y / meshCellH k.mesh
    let (u, v) := meshPos k.mesh b x y
    ([(c, r), (c + 1, r), (c, r + 1), (c + 1, r + 1)].flatMap fun (c, r) =>
      let i := r * meshCols k.mesh + c
      (k.meshBase + meshOff k.mesh b + 4 * i, 4) :: (if u8 k.mesh 2 = 2 then [(k.meshBase + u32 k.mesh 0x1C + i, 1)] else [])) ++
      sampleRuns (if b then k.srcB else k.srcA) (u / 256 + 32 * k.pan) (v / 256)
  let prims := (List.range (ovlCount k.ovl)).filter fun i =>
    primDrawn k.ovl i k.sS && decide (ovlCoord k.ovl i 4 ≤ xb ∧ (xb : Int) ≤ ovlCoord k.ovl i 8 ∧ ovlCoord k.ovl i 6 ≤ yb ∧
      (yb : Int) ≤ ovlCoord k.ovl i 0x0A)
  plane false ++ (if cxTwo k.ctx then plane true else []) ++ prims.flatMap (primRun k.ovlBase k.ovl)

/-- The positions of a view that its lanes compare: those selected that a tap delivers uncovered, and every selected one in probation
(07 R184, R198). -/
def comparedAt (v : Nat) (k : Word) (seed : Nat) (rcd : Bytes) (taps : List Tap) (probe : Option LayerShown) (s : State) : List Nat :=
  let c := sub rcd 0x80 128
  let w := cxWidth c
  (witnessPositions seed v (cxDens c) k.toNat (w * cxHeight c)).filter fun q =>
    probe.isSome || taps.any fun (p, st, f, l) =>
      tapped p f (l.x + q % w) (l.y + q / w) s && coverAt st f l.layer (l.x + q % w) (l.y + q / w) s

/-- The lanes read what their references need, and in probation the view's buffer: the reads meet the errors that lie there (04 R93);
how many bursts they take is not stated (log 30). -/
def readReferences (v : Nat) (k : Word) (seed : Nat) (rcd : Bytes) (taps : List Tap) (probe : Option LayerShown) (s : State) : State :=
  let w := cxWidth (sub rcd 0x80 128)
  let scene := recordScene k rcd s
  (comparedAt v k seed rcd taps probe s).foldl (fun s q =>
    let own := match probe with | some l => [(256 * l.addr + 4 * q, 4)] | none => []
    (referenceRuns scene (q % w) (q / w) ++ own).foldl (fun s a => meetErrors a.1 a.2 s) s) s

/-- Counts over all taps of a view (07 R184, R185), or, with none, over the shown buffer in probation (07 R198); where the record or a
source frame fails its check no reference exists, and the selection alone is counted (DESIGN CHOICE, log 196). `gone` are the witnesses that the lane has dropped (07 R179). -/
def countView (v : Nat) (k : Word) (seed : Nat) (rcd : Bytes) (taps : List Tap) (probe : Option LayerShown) (open' : Bool)
    (gone : List (Nat × Word × Nat × Nat)) (s : State) : Counts :=
  let c := sub rcd 0x80 128
  let w := cxWidth c
  let pos := witnessPositions seed v (cxDens c) k.toNat (w * cxHeight c)
  let scene := recordScene k rcd s
  let one (pipe : Nat) (addr p : Nat) (cover : Bool) (a : Counts) : Counts :=
    let xb := p % w
    let yb := p / w
    if !cover then { a with skip := a.skip + 1 }
    else if open' || gone.contains (v, k, pipe, p) then a
    else
      let (tap, f) := storedPixel addr w xb yb s
      let bad := probe.isSome && tilePoisoned s (256 * addr + 4 * p)
      compareOne (cxTol c) pipe xb yb tap f bad (viewPixel s scene false xb yb (0, 0, 0, 0)) a
  let z : Counts := { selected := pos.length }
  match probe with
  | some l => pos.foldl (fun a p => one 0xFF l.addr p true a) z
  | none => taps.foldl (fun a (p, st, f, l) =>
      pos.foldl (fun a q =>
        let x := l.x + q % w
        let y := l.y + q / w
        if tapped p f x y s then one p l.addr q (coverAt st f l.layer x y s) a else a) a) z

/-! ### Verdicts and reports (07 R190, R191, R202) -/

/-- A lane verdict. -/
inductive Verdict where
  | pass | fail | notChecked
  deriving DecidableEq, Repr

def verdictCode : Verdict → Nat
  | .pass => 0 | .fail => 1 | .notChecked => 2

/-- What one lane reports. -/
structure LanePart where
  lane : Nat
  verdict : Verdict
  reason : Nat
  counts : Counts := {}
  /-- The record gave no context to select witnesses by, or a fault of the lane makes its counts differ: they are free. -/
  noSelection : Bool := false
  faulty : Bool := false
  deriving DecidableEq, Repr

/-- Bits of REASON that make a verdict FAIL beside POISONED (07 R190, R191). -/
def failBits (reason : Nat) : Bool := reason &&& 0xBD ≠ 0

/-- The part of a lane that computes as 07 R186 to R190 state. -/
def lanePart (l : Nat) (c : Bytes) (noSel : Bool) (r : Reasons) (n : Counts) : LanePart :=
  let allow := n.nw * cxFail c / 10000
  let bits := reasonBits { r with mismatch := decide (allow < n.miss), none' := decide (n.nw = 0), poisoned := r.poisoned || n.poison }
  { lane := l, verdict := if bits &&& 0x1FF = 0 then .pass else .fail, reason := bits, counts := n, noSelection := noSel }

/-- The part of a lane that a fault makes differ. -/
def faultyPart (c : Bytes) (r : LaneReport) : LanePart :=
  let bits := (r.reason.toNat % 1024) ||| (if r.nw * cxFail c / 10000 < r.miss then 1 else 0) ||| (if r.nw = 0 then 128 else 0)
  { lane := r.lane.val, verdict := if bits &&& 0x1FF = 0 then .pass else .fail, reason := bits,
    counts := { nw := r.nw, miss := r.miss }, noSelection := true, faulty := true }

/-- The part of a lane that was not in service for the whole frame: it compares no witness (log 181). -/
def absentPart (l : Nat) (n : Counts) (probation : Bool) : LanePart :=
  { lane := l, verdict := .notChecked, reason := reasonBits { test := true, probation := probation, none' := true },
    counts := { selected := n.selected, skip := n.skip } }

/-- A log entry of a faulty lane: free but for its reserved bytes. -/
def freeEntry (free i : Nat) : Bytes :=
  let f (k : Nat) := Config.freeByte (free + 16 * i + k)
  [f 0, f 1, f 2, f 3, f 4, f 5, f 6, 0, f 7, f 8, f 9, 0, f 10, f 11, f 12, 0]

/-- A lane part of a witness report (07 Table 7.4). Fields for which the spec gives no value are free. -/
def reportBytes (v : Nat) (k : Word) (c rcd : Bytes) (pipes : Nat) (vote : Nat) (tDone : Nat) (p : LanePart) (free : Nat) : Bytes :=
  let f (i : Nat) := (Config.freeWord (free + i)).toNat
  let n := p.counts
  let log := if p.faulty then (List.range (min 59 n.miss)).map (freeEntry (free + 4)) else n.log
  let b := le 4 k.toNat ++ le 2 v ++ [b8 p.lane, b8 (verdictCode p.verdict)] ++ le 2 p.reason ++ [b8 (cxDens c), b8 (cxTol c)] ++
    le 2 (cxFail c) ++ [b8 pipes, 0] ++ le 4 (if p.noSelection then f 0 else n.selected) ++ le 4 n.nw ++ le 4 n.miss ++
    le 4 (n.nw * cxFail c / 10000) ++ le 4 (if p.noSelection then f 1 else n.skip) ++ le 4 (if p.faulty then f 2 else n.flags) ++
    le 3 (if p.faulty then f 3 else n.dr + 256 * n.dg + 65536 * n.db) ++ [0, b8 vote, 0] ++
    le 2 log.length ++ le 2 tDone ++ le 2 0 ++ le 4 (u32 rcd 0x1FC) ++ le 4 (u32 rcd 0x20) ++ le 4 (u32 rcd 0x24) ++
    pad (0x3F0 - 0x40) log.flatten ++ zeros 12
  b ++ le 4 (crcStore b)

/-- Free values one report may draw. -/
abbrev reportFree : Nat := 1024

/-- Time after the edge of tick k in 0.001 tick. -/
def milliAfter (k : Word) (s : State) : Nat :=
  (s.now - s.tick.lastEdge) * s.tick.rate * 1000 / perRate + 1000 * (s.tick.count - k).toNat

def writeReport (v : Nat) (k : Word) (c rcd : Bytes) (pipes vote : Nat) (p : LanePart) (s : State) : State :=
  let bs := reportBytes v k c rcd pipes vote (milliAfter k s % 65536) p s.free
  cruWrite (.lane p.lane) (0x20 + p.lane) 3 (reportAddr v (k.toNat % 2) p.lane) bs { s with free := s.free + reportFree }

/-- The result of the vote (07 R191). -/
structure Vote where
  verified : Bool
  failed : Bool
  /-- Lanes in the vote, lanes that passed, the rule's result, and the results of the copies in the vote. -/
  ins : List Nat
  passes : List Nat
  base : Bool
  copies : List (Nat × Bool)
  deriving DecidableEq, Repr

/-- A copy of lane `l` forms the rule's result, or the opposite where a fault flips it. -/
def castVote (parts : List LanePart) (flip : BitVec 3) : Vote :=
  let ins := parts.filter fun p => p.verdict ≠ .notChecked
  let passes := ins.filter fun p => p.verdict = .pass
  let base := if ins.length = 3 then decide (2 ≤ passes.length) else decide (ins.length = 2 ∧ passes.length = 2)
  let copies := ins.map fun p => (p.lane, base != flip.getLsbD p.lane)
  let yes := (copies.filter (·.2)).length
  let verified := if ins.length = 3 then decide (2 ≤ yes) else decide (ins.length = 2 ∧ yes = 2)
  let bad := ins.filter fun p => p.verdict = .fail && failBits p.reason
  { verified := verified, failed := !verified && decide (ins.length < 2 * bad.length),
    ins := ins.map (·.lane), passes := passes.map (·.lane), base := base, copies := copies }

/-- The VOTE byte of a lane's report, as its voter copy forms it. -/
def voteByte (x : Vote) (flip : BitVec 3) (l : Nat) : Nat :=
  packBits ((List.range 3).map fun i => x.passes.contains i) + 8 * b2n (x.base != flip.getLsbD l) + 16 * b2n (decide (x.ins.length = 2))

/-! ### The verdict of a view's frame -/

/-- The layers that hold a view in frames whose verdict is not given yet. -/
def openTaps (v : Nat) (s : State) : List Tap :=
  s.pipes.flatMap fun (p, st) => (st.prev.toList ++ st.frame.toList).flatMap fun f =>
    f.layers.filterMap fun l => if isOpen l then some (p, st, f, l) else none
where
  isOpen (l : LayerShown) : Bool := !l.judged && decide (l.index = v) && (isView l.mode || decide (l.mode = .repeated))

/-- The oldest tick among frames (02 R40). -/
def oldestTick (ts : List Tap) (s : State) : Option Word :=
  (ts.foldl (fun (a : Option Word) t =>
    match a with
    | some k => if (s.tick.count - k).toNat < (s.tick.count - t.2.2.1.tick).toNat then some t.2.2.1.tick else some k
    | none => some t.2.2.1.tick) none)

/-- The verdict of a view on a frame has been given. -/
def markJudged (v : Nat) (k : Word) (s : State) : State :=
  let g (f : OutFrame) : OutFrame :=
    if f.tick = k then { f with layers := f.layers.map fun l => if l.index = v ∧ l.mode ≠ .static then { l with judged := true } else l } else f
  { s with pipes := tmodAll {} (s.pipes.map (·.1)) (fun _ x => { x with frame := x.frame.map g, prev := x.prev.map g }) s.pipes }

/-- A tile of the buffer that pipes read for the view is poisoned (04 Table 4.4). -/
def bufferPoisoned (l : LayerShown) (s : State) : Bool := runPoisoned s (256 * l.addr) (4 * l.w * l.h)

/-- A pipe still has to begin the frame of a tick that shows the view (07 R185, R192). -/
def stillToShow (v : Nat) (k : Word) (p : Nat) (x : PipeSt) (s : State) : Bool :=
  decide (x.st = .active ∧ s.tick.count = k + 1) && (pipeViews p s).contains v &&
    !([x.frame, x.prev].any fun f => f.any fun f => decide (f.tick = k)) &&
    ((startTick p s).isSome || !reached (reg s (P.soPhase p)) s)

/-- A voted verdict that is neither verified nor failed (07 R191, R23). -/
def notVerified (v : Nat) (s : State) : State :=
  countReg (fall [v] (s.modView v fun x => { x with verified := false })) P.witNotcheckedCnt

/-- What a voted verdict does to the view (07 R191, R197, R199; 02 R47); a declaration of R197 on the same edge stands (R204). -/
def applyVerdict (v p : Nat) (k : Word) (probation verified failed : Bool) (l : LayerShown) (s : State) : State :=
  if verified then
    let s := countReg s P.witVerifiedCnt
    let now := (instant s).witDeclared.contains v
    if probation then s.modView v fun x => { x with probRun := if now then 0 else min (x.probRun + 1) 8, verified := false }
    else (riseIf ((s.view v).shownSel && !(s.view v).freezeDue && !now && !(s.view v).verified) v s).modView v fun x => { x with
      failRun := 0, verified := x.shownSel && !x.freezeDue && !now,
      lastVer := if l.mode = .live then
          (match x.frames.find? fun f => f.tick = k with
           | some f => some f
           | none => some { buf := (l.addr - cxBufBase x.ctx) / cxBufUnits x.ctx, tick := k, addr := l.addr, shown := true })
        else x.lastVer }
  else if failed then
    let s := fall [v] (s.modView v fun x => { x with
      verified := false, failRun := if probation then x.failRun else min (x.failRun + 1) 8, probRun := if probation then 0 else x.probRun })
    detect 14 (locBlock s dieSoc (0x18 + p) 0 v) (countReg s P.witFailedCnt)
  else notVerified v s

/-- A lane's disagreement with the voted verdict, the first in a tick (07 R193, R203). -/
def laneDisagrees (l : Nat) (s : State) : State :=
  if (s.lane l).disagreed then s
  else
    let s := satField (fall [816 + l] (s.modLane l fun x => { x with disagreed := true, ok := false })) P.witDisagree (8 * l + 7) (8 * l) 1
    detect 16 (locBlock s dieSoc (0x20 + l)) s

/-- Counters and faults that a lane part brings with it (07 R179, R187): `cams` are the cameras whose frames fail the stamp check, or
the first source of the view where a fault of the lane alone reports STAMP. -/
def partEffects (cams : List Nat) (p : LanePart) (s : State) : State :=
  let s := if bitAt p.reason 2 && p.verdict ≠ .notChecked then
      cams.foldl (fun s c => detect 15 (locBlock s dieSoc c) s) (countReg s P.witStampEvents) else s
  if p.faulty && bitAt p.reason 5 && !(s.lane p.lane).overflow then
    detect 18 (locBlock s dieSoc (0x20 + p.lane)) (satField (s.modLane p.lane fun x => { x with overflow := true })
      P.witOverflow (8 * p.lane + 7) (8 * p.lane) 1)
  else s

/-- The selection seed of the frames of a tick (07 R183). -/
def groupSeed (group : List Tap) : Nat := (group.head?.map fun t => t.2.2.1.seed.toNat).getD 0

/-- The lane parts of a frame: of lanes that were in service for the whole of it, and of those that were not (07 R190). -/
def laneParts (v : Nat) (k : Word) (rcd : Bytes) (group taps : List Tap) (probe : Option LayerShown) (r : Reasons) (open' : Bool)
    (faulty : List LaneReport) (s : State) : List LanePart :=
  let c := sub rcd 0x80 128
  let seed := groupSeed group
  let noSel := !crcTrailerOk c 0x7C
  let lanes := group.foldl (fun (m : BitVec 3) t => m &&& frameLanes t.2.2.1 s) 7
  let count (gone : List (Nat × Word × Nat × Nat)) := if noSel then {} else countView v k seed rcd taps probe open' gone s
  (List.range 3).filterMap fun l =>
    if lanes.getLsbD l then
      match faulty.find? fun f => f.lane.val = l with
      | some f => some (faultyPart c f)
      | none =>
        let gone := (s.lane l).dropped.filter fun d => decide (d.1 = v ∧ d.2.1 = k)
        some (lanePart l c noSel { r with overflow := !gone.isEmpty } (count gone))
    else if (s.lane l).st = .out then none
    else some { absentPart l (count []) r.probation with noSelection := noSel }

/-- A frame that lanes check, or a probation frame: lane parts, vote, reports, and the verdict (07 R186 to R193, R198). -/
def judgeFrameOf (v : Nat) (k : Word) (group taps : List Tap) (probe : Option LayerShown) (forced : Bool)
    (faulty : List LaneReport) (flip : BitVec 3) (s : State) : State :=
  let first := (group.head?.map fun t => t.2.2.2)
  let rcd := (first.map (·.record)).getD []
  let recPoison := first.any (·.recPoison)
  let c := sub rcd 0x80 128
  let s := (List.range 3).foldl (fun s l => if (s.lane l).st = .inService then touchAll (0x20 + l) 3 (judgeRuns rcd s) s else s) s
  let addrs := match probe with | some l => [l.addr] | none => taps.map fun t => t.2.2.2.addr
  let badRec := recordFails rcd recPoison v k addrs s
  let srcs : List (Nat × Nat) := (cxSrcA c, u32 rcd 0x20) :: (if cxTwo c then [(cxSrcB c, u32 rcd 0x24)] else [])
  let checks := srcs.map fun (cam, gen) => (cam, sourceCheck cam gen k s)
  let stampCams := if badRec then [] else (checks.filter fun x => x.2.1).map (·.1)
  let open' := badRec || !stampCams.isEmpty
  let s := if open' then s else readReferences v k (groupSeed group) rcd taps probe s
  let r : Reasons := {
    record := badRec, stamp := !stampCams.isEmpty, stale := !badRec && checks.any fun x => x.2.2.1,
    poisoned := recPoison || bitAt (u8 rcd 7) 0 || bitAt (u8 rcd 7) 1 || (checkRuns rcd s ++ listRuns rcd s).any (fun a => runPoisoned s a.1 a.2) ||
      (!badRec && checks.any fun x => x.2.2.2),
    probation := probe.isSome }
  let parts := laneParts v k rcd group taps probe r open' faulty s
  let x := castVote parts flip
  let pipes := packBits ((List.range 8).map fun p => taps.any fun t => decide (t.1 = p))
  let s := parts.foldl (fun s p =>
    partEffects (if stampCams.isEmpty then [cxSrcA c] else stampCams) p
      (writeReport v k c rcd pipes (voteByte x flip p.lane) p s)) s
  let wrong := x.copies.filter fun y => y.2 ≠ x.verified
  let s := wrong.foldl (fun s y => removeLane y.1 19 s) s
  let s := if forced then s else
    parts.foldl (fun s p =>
      if p.verdict = .notChecked ∨ bitAt p.reason 1 ∨ (decide (p.verdict = .pass) = x.verified) then s else laneDisagrees p.lane s) s
  match group with
  | t :: _ => applyVerdict v t.1 k probe.isSome (x.verified && !forced) (x.failed && !forced)
      ((taps.head?.map fun t => t.2.2.2).getD t.2.2.2) s
  | [] => s

/-- The report of a repeated frame (07 R202): no witness is compared; VERDICT is NOT_CHECKED with NONE_ELIGIBLE, and TSTAMP and the slot
are those of the frame shown (DESIGN CHOICE, log 197). -/
def repeatReports (v : Nat) (k : Word) (s : State) : State :=
  let c := (s.view v).ctx
  (List.range 3).foldl (fun s l =>
    if (s.lane l).st = .out then s
    else
      let rcd := (List.range 512).map fun i => Config.freeByte (s.free + reportFree + i)
      let s' := writeReport v k c rcd 0 0 { lane := l, verdict := .notChecked, reason := reasonBits { repeated := true, none' := true } } s
      { s' with free := s'.free + 512 }) s

/-- A frame of a camera is still to be judged in a view (02 R47). -/
def awaitsVerdict (c : Nat) (k : Word) (s : State) : Bool :=
  (viewIxs s).any fun v => (cxCameras (s.view v).ctx).contains c &&
    ((openTaps v s).any (fun t => decide (t.2.2.1.tick = k)) || s.pipes.any fun e => stillToShow v k e.1 e.2 s)

/-- With the last verdict of a held camera frame its held role ends (07 R192, 02 R47). -/
def endHeld (v : Nat) (k : Word) (s : State) : State :=
  (cxCameras (s.view v).ctx).foldl (fun s c =>
    if awaitsVerdict c k s then s
    else
      let keep (b : Option CamBuf) : Option CamBuf := b.filter fun b => decide (b.tick ≠ k)
      s.modCam c fun p => { p with held := keep p.held, older := keep p.older }) s

/-- Witnesses of a frame that has been judged are no longer held as dropped. -/
def forgetDropped (v : Nat) (k : Word) (s : State) : State :=
  (List.range 3).foldl (fun s l => s.modLane l fun x => { x with dropped := x.dropped.filter fun d => !decide (d.1 = v ∧ d.2.1 = k) }) s

/-- The verdict on the frames of a tick that show a view; a frame shown as fallback outside probation, or in probation without a
completed render, is neither verified nor failed (DESIGN CHOICE, log 198). -/
def judgeGroup (v : Nat) (k : Word) (group : List Tap) (faulty : List LaneReport) (flip : BitVec 3) (s : State) : State :=
  let live := group.filter fun t => (t.2.2.2.mode matches .live | .envelope) && !t.2.2.1.full
  let repeated := group.any fun t => t.2.2.2.mode matches .repeated
  let probe := group.find? fun t => t.2.2.2.mode matches .fallback && t.2.2.2.present
  let broken := group.any fun t => t.2.2.1.lostAt.isSome || t.2.2.1.underrun.isSome || t.2.2.1.full
  let mixed := decide (live.length ≠ group.length) || live.any fun t => bufferPoisoned t.2.2.2 s
  if !live.isEmpty then judgeFrameOf v k group live none (broken || mixed) faulty flip s
  else if repeated then notVerified v (repeatReports v k s)
  else match probe with
    | some p => if (s.view v).witInvalid then judgeFrameOf v k (p :: group) [] (some p.2.2.2) false faulty flip s else notVerified v s
    | none => notVerified v s

/-- VERDICT_COMPLETE (07 R191, R192): the oldest frame of the view whose verdict is due, once the last pipe that shows it has scanned
it out. -/
def verdictComplete (t : Time) (v : Nat) (faulty : List LaneReport) (flip : BitVec 3) (s : State) : State :=
  let s := advance t s
  let ts := openTaps v s
  match oldestTick ts s with
  | none => s
  | some k =>
    let group := ts.filter fun t => t.2.2.1.tick = k
    let pastAll := group.all fun t => t.2.2.1.lostAt.isSome || activeOver t.1 t.2.2.1 s
    if !pastAll || !cruOk s || s.pipes.any fun e => stillToShow v k e.1 e.2 s then s
    else endHeld v k (forgetDropped v k (judgeGroup v k group faulty flip (markJudged v k (feedLanes s))))

def execVerdictComplete (t : Time) (v : Fin 256) (faulty : List LaneReport) (copyFlip : BitVec 3) (s : State) :
    Host.Outcome State Fault Refusal := done (verdictComplete t v.val faulty copyFlip s)

/-! ### Invalid views and their return (07 R197 to R199) -/

/-- A camera that the view uses is frozen. -/
def viewFrozen (v : Nat) (s : State) : Bool := (cxCameras (s.view v).ctx).any fun c => (s.cam c).frozen

/-- WITNESS_INVALID (07 R197): failed verdicts in a row, or a camera declared frozen. -/
def witnessInvalid (t : Time) (v : Nat) (s : State) : State :=
  let s := advance t s
  let x := s.view v
  if ctxEnabled x.ctx && (x.freezeDue || (!x.witInvalid && decide (reg s P.witInvalidAfter ≤ x.failRun))) then
    let s := { s with inst := { instant s with witDeclared := v :: (instant s).witDeclared } }
    let s := fall [256 + v] (s.modView v fun x => { x with witInvalid := true, failRun := 0, probRun := 0, freezeDue := false })
    raiseEvent 20 2 [v, 2] (countReg (redoStarts s) P.witInvalidCnt)
  else s

def execWitnessInvalid (t : Time) (v : Fin 256) (s : State) : Host.Outcome State Fault Refusal := done (witnessInvalid t v.val s)

/-- PROBATION_END (07 R199). A declaration of R50 on the same edge wins, and the recovery starts again at 0 (02 R52). -/
def probationEnd (t : Time) (v : Nat) (s : State) : State :=
  let s := advance t s
  let x := s.view v
  if x.witInvalid && decide (reg s P.witRecover ≤ x.probRun) && !viewFrozen v s && !x.freezeDue then
    if (instant s).declared.contains v then s.modView v fun x => { x with probRun := 0 }
    else
      let s := { s with inst := { instant s with recovered := v :: (instant s).recovered } }
      raiseEvent 20 1 [v, 0] (rise (256 + v) (s.modView v fun x => { x with witInvalid := false, probRun := 0, failRun := 0 }))
  else s

def execProbationEnd (t : Time) (v : Fin 256) (s : State) : Host.Outcome State Fault Refusal := done (probationEnd t v.val s)

/-! ### At the tick edge (07 R181, R193) -/

/-- The lanes' own sample of the S space of a tick; the last four are held (07 R181). -/
def holdSample (s : State) : State := { s with sHist := ((s.tick.count, s.sSample) :: s.sHist).take 4 }

/-- Blame runs, the returns of lanes, and LANE_OK for the tick that begins. -/
def laneEdge (s : State) : State :=
  (List.range 3).foldl (fun s l =>
    let s := if (s.lane l).returning then setLane l .inService (s.modLane l fun x => { x with returning := false, removed := false, blame := 0 }) else s
    s.modLane l fun x => { x with
      blame := if x.disagreed then min (x.blame + 1) 8 else 0, disagreed := false, overflow := false,
      ok := decide (x.st = .inService), load := 0 }) s

/-- WIT_LOAD of the tick that ends (07 R179): the busiest lane's witnesses in 0.1 % of its capacity. -/
def loadFigure (s : State) : Nat :=
  let n := (List.range 3).foldl (fun a l => max a (s.lane l).load) 0
  min 1000 (n * s.tick.rate / 50000000)

end Sys2Proof.Machine
end

