-- ==== Sys2Proof/Machine/SelfTest.lean ====
section
/-! DEFINITION. Self-test in service (chapter 17): slices, their judgement and aborts, repair, host-requested tests, and
known-answer tests. -/

namespace Sys2Proof.Machine

/-! ### Units -/

/-- Block code of a unit of a slice class: engine, lane, core, Crucible (01 Table 1.8). -/
def sliceBlock (cls unit : Nat) : Nat :=
  if cls = 0 then 0x10 + unit else if cls = 1 then 0x20 + unit else if cls = 2 then 0x28 + unit else 0x50

/-- Slice class and unit of a block code that BIST_RUN may name (17 R462). -/
def bistUnit (block : Nat) : Option (Nat × Nat) :=
  if 0x10 ≤ block ∧ block < 0x18 then some (0, block - 0x10)
  else if 0x20 ≤ block ∧ block < 0x23 then some (1, block - 0x20)
  else if 0x28 ≤ block ∧ block < 0x40 then some (2, block - 0x28)
  else none

/-- The test a host asked for, where it belongs to a class. -/
def bistOf (cls : Nat) (s : State) : Option BistRun :=
  s.st.bist.bind fun b => match bistUnit b.block with
    | some (c, _) => if c = cls then some b else none
    | none => none

/-- Ticks between slices of a class (17 Table 17.3). -/
def slicePeriod (cls : Nat) (s : State) : Nat :=
  if cls = 0 then 1 else if cls = 1 then reg s P.stLanePeriod else if cls = 2 then reg s P.stCorePeriod else reg s P.stMemPeriod

/-- The SP sequences slices once the start-up is complete (01 R19, 17 R457). -/
def slicesRun (s : State) : Bool :=
  decide (s.st.step = 10) && !s.st.inReset && !s.st.stopped && decide (s.clk.sp = .running)

/-- A slice of a class is due: its cadence, or a test that goes ahead of it (17 R457, R462). -/
def sliceDue (cls : Nat) (ahead : Bool) (s : State) : Bool :=
  slicesRun s && (tget none s.st.running cls).isNone &&
    decide ((if ahead then 1 else slicePeriod cls s) ≤ tget 0 s.st.since cls)

/-- The first number from `k` on, cyclically below `n`, that satisfies a predicate. -/
def nextFrom (n k : Nat) (p : Nat → Bool) : Option Nat := ((List.range n).map fun i => (k + i) % n).find? p

/-- The number of a slice's unit among the units under test: its block, or that of a Crucible block. -/
def testUnit (cls unit : Nat) : Nat := if cls = 3 then cruUnderTest unit else sliceBlock cls unit

/-- A slice begins. -/
def beginSlice (cls unit seg : Nat) (s : State) : State :=
  let s := s.modSt fun x => { x with running := tset none x.running cls (some { unit := unit, seg := seg, startAt := s.now }) }
  let s := if cls = 0 then dropJob unit s else s
  setTesting (testUnit cls unit) true s

/-- The next segment of a unit. -/
def segOf (block : Nat) (s : State) : Nat := tget 0 s.st.nextSeg block

/-! ### Engines (17 Table 17.3) -/

/-- What BIST_RUN has taken is given back. -/
def giveBack (cls : Nat) (b : BistFrom) (s : State) : State :=
  let s := s.modSt fun x => { x with bist := none, retry := b.retry, aborts := tset 0 x.aborts (sliceBlock cls b.unit) b.aborts }
  let s := match b.lane with | some l => s.modLane b.unit fun _ => l | none => s
  match b.core with | some c => s.modCore b.unit fun x => { x with st := c } | none => s

/-- A slice of a class comes on its edge. Where a BIST_RUN of that edge has taken the unit whose scheduled slice is due, the scheduled
slice begins, and BIST_RUN is answered SELFTEST_BUSY (17 R464). -/
def sliceFirst (cls : Nat) (slice : State → State) (s : State) : State :=
  match bistOf cls s, (instant s).bistFrom with
  | some _, some b =>
    let s' := slice (giveBack cls b s)
    if (tget none s'.st.running cls).any fun r => decide (r.unit = b.unit) then releaseHeld 0x0902 Status.selftestBusy [] s' else slice s
  | _, _ => slice s

/-- The next engine of the pool, or the one a host named. -/
def nextEngine (s : State) : State :=
  match bistOf 0 s with
  | some b => if sliceDue 0 true s && domUp 1 s then beginSlice 0 (b.block - 0x10) b.seg s else s
  | none =>
    match nextFrom 8 (tget 0 s.st.nextUnit 0) (fun e => engineInPool e s) with
    | some e => if sliceDue 0 false s && domUp 1 s then beginSlice 0 e (segOf (0x10 + e) s) s else s
    | none => s

/-- ENGINE_SLICE. -/
def engineSlice (t : Time) (s : State) : State := sliceFirst 0 nextEngine (advance t s)

def execEngineSlice (t : Time) (s : State) : Host.Outcome State Fault Refusal := done (engineSlice t s)

/-! ### Aborts (17 R459) -/

/-- An abort counts; after 64 in a row of one unit FS-092 is raised once. The slice is retried at the next tick edge. -/
def countAbort (cls unit : Nat) (s : State) : State :=
  let block := sliceBlock cls unit
  let n := tget 0 s.st.aborts block + 1
  let s := satField s P.stAborts (8 * cls + 7) (8 * cls) 1
  let s := s.modSt fun x => { x with
    aborts := tset 0 x.aborts block n, abortMax := max x.abortMax n,
    since := tset 0 x.since cls (if (bistOf cls s).isSome then 0 else slicePeriod cls s - 1) }
  if n = 64 then detect 92 (locBlock s dieSoc block) s (persists := true) else s

/-! ### Lanes -/

/-- Another lane is not in service. -/
def otherLaneGone (l : Nat) (s : State) : Bool :=
  (List.range 3).any fun k => decide (k ≠ l ∧ (s.lane k).st ≠ .inService)

/-- A test a host asked for, the self-test of a removed lane, or the next IN_SERVICE lane (17 R457, 07 R193). -/
def nextLane (s : State) : State :=
  match bistOf 1 s with
  | some b => if sliceDue 1 true s && domUp (2 + (b.block - 0x20)) s then beginSlice 1 (b.block - 0x20) b.seg s else s
  | none =>
    match (List.range 3).find? fun l => (s.lane l).testDue && domUp (2 + l) s with
    | some l =>
      if sliceDue 1 true s then beginSlice 1 l (segOf (0x20 + l) s) (s.modLane l fun x => { x with st := .underTest }) else s
    | none =>
      match nextFrom 3 (tget 0 s.st.nextUnit 1) (fun l => decide ((s.lane l).st = .inService)) with
      | some l =>
        -- A lane whose blame limit has been reached leaves service (07 R204).
        if !sliceDue 1 false s || decide (reg s P.witBlameTicks ≤ (s.lane l).blame) then s
        else if otherLaneGone l s then countAbort 1 l s
        else beginSlice 1 l (segOf (0x20 + l) s) (setLane l .underTest s)
      | none => s

/-- LANE_SLICE. -/
def laneSlice (t : Time) (s : State) : State := sliceFirst 1 nextLane (advance t s)

def execLaneSlice (t : Time) (s : State) : Host.Outcome State Fault Refusal := done (laneSlice t s)

/-! ### Cores -/

/-- A core may be tested: a voted trio in RUN with three cores IN (17 Table 17.3). -/
def coreTestable (ci : Nat) (s : State) : Bool :=
  let t := ci / 3
  !(s.trio t).split && decide ((s.unit (4 * t)).st = .run) && decide ((inCores s t).length = 3) && domUp 0 s

/-- The trio of a core would be testable but for a blame on this very edge (17 R464, 09 R263). -/
def blamedNow (ci : Nat) (s : State) : Bool :=
  let t := ci / 3
  blamedHere t s && !(s.trio t).split && decide ((s.unit (4 * t)).st = .run) && domUp 0 s

/-- A stop, restart, debug halt or program exchange is due at the trio's next boundary. -/
def boundaryDue (t : Nat) (s : State) : Bool := (s.unit (4 * t)).stopReq || (s.unit (4 * t)).stage.isSome

/-- The next core that may be tested, at a cycle boundary (17 Table 17.3). -/
def nextCore (s : State) : State :=
  match bistOf 2 s with
  | some b => if sliceDue 2 true s && domUp 0 s then beginSlice 2 (b.block - 0x28) b.seg s else s
  | none =>
    match nextFrom 24 (tget 0 s.st.nextUnit 2) (fun ci => coreTestable ci s || blamedNow ci s) with
    | some ci =>
      if !sliceDue 2 false s || (s.unit (4 * (ci / 3))).inCycle then s
      else if blamedNow ci s || boundaryDue (ci / 3) s then countAbort 2 ci s
      else beginSlice 2 ci (segOf (0x28 + ci) s) (s.modCore ci fun c => { c with st := .underTest })
    | none => s

/-- CORE_SLICE. -/
def coreSlice (t : Time) (s : State) : State := sliceFirst 2 nextCore (advance t s)

def execCoreSlice (t : Time) (s : State) : Host.Outcome State Fault Refusal := done (coreSlice t s)

/-! ### The Crucible -/

/-- Blocks of 16 KiB of the Crucible. -/
abbrev cruBlocks : Nat := 114688

/-- The scratch region, of which a block's copy takes the first 16 KiB, and its spare pages (04 Table 4.1, 17 R452, Table 17.3). -/
abbrev scratch : Nat := 0x6E000000
abbrev sparePages : Nat := 0x6FF00000

/-- A block is tested in place: it belongs to the scratch region, apart from its spare pages (17 R457). -/
def inPlace (unit : Nat) : Bool := decide (scratch ≤ 16384 * unit ∧ 16384 * unit < sparePages)

/-- A block is copied to the scratch region, with its poison marks (17 Table 17.3). -/
def copyBlock (unit : Nat) (s : State) : State :=
  if inPlace unit then s
  else
    let k := 64 * unit
    s.modCru fun c => { c with
      mem := Memory.copy c.mem (16384 * unit) scratch 16384
      poison := ((c.poison.filter fun t => k ≤ t ∧ t < k + 64).map fun t => t - k + scratch / 256).foldl (fun l t => insertNat t l)
        (c.poison.filter fun t => !decide (scratch / 256 ≤ t ∧ t < scratch / 256 + 64)) }

/-- The copy comes back: a write on the way went to the copy and is in it, and no error stays in a word of the block (17 Table 17.3,
R464). A block keeps its contents at its own addresses throughout, since every request is redirected to where they are. -/
def copyBack (unit : Nat) (s : State) : State :=
  (copyBlock unit s).modCru fun c => { c with errs := c.errs.filter fun e => !decide (2048 * unit ≤ e.1 ∧ e.1 < 2048 * unit + 2048) }

/-- CRUCIBLE_SLICE: the next block is read, its errors met, and copied. The class 6 credits a slice draws are not stated as a number
(log 42). -/
def crucibleSlice (t : Time) (s : State) : State :=
  let s := advance t s
  if sliceDue 3 false s && cruOk s then
    let unit := tget 0 s.st.nextUnit 3
    let s := charge 6 (Config.freeWord s.free).toNat s
    let s := { s with free := s.free + 1 }
    beginSlice 3 unit 0 (if inPlace unit then s else copyBlock unit (meetErrors (16384 * unit) 16384 s))
  else s

def execCrucibleSlice (t : Time) (s : State) : Host.Outcome State Fault Refusal := done (crucibleSlice t s)

/-! ### The end of a slice -/

/-- The unit goes back to service as 17 Table 17.3 states: a lane from the next tick edge, a core by the reintegration pause.
A core of a unit that does not run is not rebuilt before its next start. -/
def restoreUnit (cls unit : Nat) (s : State) : State :=
  if cls = 1 then
    (if (s.lane unit).st = .underTest then s.modLane unit fun x => { x with returning := true } else s)
  else if cls = 2 ∧ (s.core unit).st = .underTest then
    let run := decide ((s.unit (4 * (unit / 3))).st = .run ∨ (s.unit (4 * (unit / 3))).st = .debug)
    s.modCore unit fun c => { c with st := if run then .rejoining else .inn }
  else s

/-- The host's test ends, with its result (17 R462). -/
def endBist (status : Nat) (params : Bytes) (s : State) : State :=
  match s.st.bist with
  | none => s
  | some b =>
    let s := setTesting b.block false (s.modSt fun x => { x with bist := none })
    let s := match bistUnit b.block with
      | some (cls, unit) => restoreUnit cls unit s
      | none => s
    releaseHeld 0x0902 status params s

/-- A unit's memory has failed: FS-090 at a word not repaired, FS-091 at a macro without a spare left. Which macro and word of the unit
it is belongs to the unit's layout, which the spec does not give (log 43). -/
def memoryFault (block kind : Nat) (s : State) : State :=
  let m := (Config.freeByte s.free).toNat
  if kind = 2 then detect 90 (locBlock s dieSoc block m (Config.freeWord s.free).toNat) { s with free := s.free + 1 }
  else if kind = 3 then detect 91 (locBlock s dieSoc block m) { s with free := s.free + 1 }
  else s

/-- The unit leaves for good: Table 17.4, and the status record. A split core does not take the state OUT (09 R254): it does not
start again before the next start-up (log 184). Kinds: 1 logic, 2 memory not repaired, 3 spares exhausted,
4 known-answer test (17 Table 17.6). -/
def confirmFail (cls unit kind : Nat) (s : State) : State :=
  let block := sliceBlock cls unit
  let loc := locBlock s dieSoc block
  let s := s.modSt fun x => { x with failUnit := block, failKind := kind }
  let s := memoryFault block kind s
  let s := if kind = 4 ∧ cls = 0 then detect 89 loc s else s
  if cls = 0 then detect 12 loc (dropJob unit (s.modSt fun x => { x with engineOut := setBv x.engineOut unit true }))
  else if cls = 1 then
    detect 89 loc ((setLane unit .out (holdLane unit s)).modLane unit fun x =>
      { x with removals := min (x.removals + 1) 2, testDue := false, returning := false })
  else if cls = 2 then
    detect 89 loc (if (s.trio (unit / 3)).split then s.modCore unit fun c => { c with failed := true }
      else coreOut (unit / 3) (unit % 3) s)
  else detect 89 loc s

/-- A soft repair of an SRAM macro is entered (17 R452, R454, R455). Which row or column of which macro it is belongs to the
unit's layout, which the spec does not give (log 43). -/
def repairSram (block origin : Nat) (s : State) : State :=
  if 1024 ≤ s.mram.repairs.length then s
  else
    let e := repairEntry (locBlock s dieSoc block (Config.freeByte s.free).toNat (Config.freeWord s.free).toNat)
      (b2n (Config.freeBit s.free)) origin (Config.freeByte (s.free + 1)).toNat s.mram.bootId
    let s := addRepair e { s with free := s.free + 2 }
    setReg s P.stRepairs s.mram.repairs.length

/-- The counters of a completed slice (17 R457, R459). -/
def countSlice (cls : Nat) (r : SliceRun) (s : State) : State :=
  let block := sliceBlock cls r.unit
  let us := (s.now - r.startAt) / 100
  let s := countReg s P.stSlices
  let longest := max (reg s P.stSliceMax) (min us 65535)
  let s := setReg (noteUpdate P.stSliceMax (max (min us 65535)) s) P.stSliceMax longest
  let s := s.modSt fun x => { x with
    running := tset none x.running cls none, since := tset 0 x.since cls 0, aborts := tset 0 x.aborts block 0 }
  let s := if (bistOf cls s).isSome then s else setTesting (testUnit cls r.unit) false s
  causeGone 92 s

/-- The Crucible's slice: pages remapped where the March failed, then the next block (17 R452, Table 17.4). -/
def endCruSlice (r : SliceRun) (mem page : Nat) (s : State) : State :=
  let a := 16384 * r.unit + 4096 * page
  let s := if mem = 0 then s else repairPage a 1 s
  let s := if mem = 2 then detect 90 (locAddr s dieDram a) (s.modSt fun x => { x with failUnit := 0x50, failKind := 2 }) else s
  if r.unit + 1 < cruBlocks then s.modSt fun x => { x with nextUnit := tset 0 x.nextUnit 3 (r.unit + 1) }
  else countReg (s.modSt fun x => { x with nextUnit := tset 0 x.nextUnit 3 0, passed := tset 0 x.passed 0x50 1 }) P.stCruPasses

/-- The next unit of a class is the one after this. -/
def passUnit (cls unit : Nat) (s : State) : State :=
  s.modSt fun x => { x with nextUnit := tset 0 x.nextUnit cls ((unit + 1) % (if cls = 0 then 8 else if cls = 1 then 3 else 24)) }

/-- A segment passes: on repeat it was a transient; the next segment follows, in the host's test or the unit's own order. -/
def segPassed (cls : Nat) (r : SliceRun) (s : State) : State :=
  let block := sliceBlock cls r.unit
  let s := if s.st.retry.contains block then satField s P.stTransient 15 0 1 else s
  let s := s.modSt fun x => { x with
    retry := x.retry.filter (· ≠ block), passed := tmod 0 x.passed block fun m => setBitN m r.seg true }
  match bistOf cls s with
  | some b =>
    if b.seg = 15 then
      -- A removed lane that passes returns only as 07 R193 allows.
      let s := if cls = 1 ∧ (s.lane r.unit).testDue then
        s.modLane r.unit fun x => { x with testDue := false, returning := true } else s
      endBist Status.ok [0] s
    else s.modSt fun x => { x with bist := some { b with seg := b.seg + 1 } }
  | none =>
    let s := s.modSt fun x => { x with nextSeg := tset 0 x.nextSeg block ((r.seg + 1) % 16) }
    let s := if cls = 1 then s.modLane r.unit fun x => { x with testDue := false } else s
    restoreUnit cls r.unit (passUnit cls r.unit s)

/-- A segment fails for the first time: it runs again in the next slice of the unit, which stays in service (17 R458); a removed
lane stays out meanwhile. -/
def segFailed (cls : Nat) (r : SliceRun) (s : State) : State :=
  let block := sliceBlock cls r.unit
  let s := s.modSt fun x => { x with retry := insertNat block x.retry }
  if (bistOf cls s).isSome then s
  else if cls = 1 ∧ (s.lane r.unit).testDue then s.modLane r.unit fun x => { x with st := .out }
  else restoreUnit cls r.unit (passUnit cls r.unit s)

/-- A failure is confirmed: the host's test of the unit ends with result 1. -/
def segConfirmed (cls kind : Nat) (r : SliceRun) (s : State) : State :=
  let block := sliceBlock cls r.unit
  let s := s.modSt fun x => { x with retry := x.retry.filter (· ≠ block) }
  let s := confirmFail cls r.unit kind (passUnit cls r.unit s)
  if (bistOf cls s).isSome then endBist Status.ok [1] s else s

/-- A slice ends unjudged, and its unit is restored; a removed lane stays out (17 R459). -/
def dropSlice (cls : Nat) (r : SliceRun) (s : State) : State :=
  let s := s.modSt fun x => { x with running := tset none x.running cls none }
  if (bistOf cls s).isSome then s
  else
    let s := if cls = 3 then copyBack r.unit s else s
    let s := setTesting (testUnit cls r.unit) false s
    if cls = 1 ∧ (s.lane r.unit).testDue then s.modLane r.unit fun x => { x with st := .out } else restoreUnit cls r.unit s

/-- SLICE_COMPLETE (17 R452, R453, R458, R460, R461). -/
def sliceComplete (t : Time) (cls : Nat) (logicFail katFail : Bool) (mem page : Nat) (s : State) : State :=
  let s := advance t s
  match tget none s.st.running cls with
  | none => s
  | some r =>
    -- Without the SP no slice is judged (01 R19).
    if s.clk.sp ≠ .running then dropSlice cls r s
    else
    let block := sliceBlock cls r.unit
    let s := countSlice cls r (useChannel block 0 0 s)
    if cls = 3 then
      let s := endCruSlice r mem page (copyBack r.unit s)
      if katFail then detect 89 (locBlock s dieSoc 0x50) (s.modSt fun x => { x with failUnit := 0x50, failKind := 4 }) else s
    else
      let s := if mem = 1 then repairSram block (if (bistOf cls s).isSome then 3 else 1) s else s
      if mem = 2 ∨ mem = 3 then segConfirmed cls mem r s
      else if logicFail || katFail then
        (if s.st.retry.contains block then segConfirmed cls (if logicFail then 1 else 4) r s
         -- A wrong known answer raises FS-089 at once (17 R451).
         else segFailed cls r (if katFail then detect 89 (locBlock s dieSoc block) s else s))
      else segPassed cls r s

def execSliceComplete (t : Time) (cls : Fin 4) (logicFail katFail : Bool) (mem page : Fin 4) (s : State) :
    Host.Outcome State Fault Refusal := done (sliceComplete t cls.val logicFail katFail mem.val page.val s)

/-- An abort condition of a running slice holds (17 Table 17.3). Whether a job waits for the engine is the pool's own matter,
and comes with the command. -/
def abortHolds (cls : Nat) (r : SliceRun) (s : State) : Bool :=
  if cls = 1 then otherLaneGone r.unit s
  else if cls = 2 then boundaryDue (r.unit / 3) s
  else if cls = 3 then decide (r.startAt + us 240 ≤ s.now)
  else true

/-- SLICE_ABORT (17 R459, R462): the slice stops at once and its unit is restored; after 64 in a row a host's test ends with
SELFTEST_BUSY. -/
def sliceAbort (t : Time) (cls : Nat) (s : State) : State :=
  let s := advance t s
  match tget none s.st.running cls with
  | none => s
  | some r =>
    if !abortHolds cls r s then s
    else if s.clk.sp ≠ .running then dropSlice cls r s
    else
      let s := dropSlice cls r (countAbort cls r.unit s)
      if (bistOf cls s).isSome ∧ tget 0 s.st.aborts (sliceBlock cls r.unit) % 64 = 0 then endBist Status.selftestBusy [] s else s

def execSliceAbort (t : Time) (cls : Fin 4) (s : State) : Host.Outcome State Fault Refusal := done (sliceAbort t cls.val s)

/-! ### BIST_RUN and BIST_STATUS (17 R462, R463) -/

/-- The clock domain of a unit of a slice class. -/
def unitDomain (cls unit : Nat) : Nat := if cls = 0 then 1 else if cls = 1 then 2 + unit else 0

/-- BIST_RUN's own conditions after its block code (17 R462); it needs the unit's domain (18 R474). -/
def bistStatusOf (cls unit : Nat) (s : State) : Nat :=
  if !domUp (unitDomain cls unit) s then Status.wrongState
  else if (match tget none s.st.running cls with | some r => decide (r.unit = unit) | none => false) then Status.selftestBusy
  else if cls = 1 then
    (if (s.lane unit).st = .inService ∧ otherLaneGone unit s ∧
        ((List.range 3).filter fun l => l ≠ unit && (s.lane l).st = .inService).length < 2 then Status.wrongState else Status.ok)
  else if cls = 2 then
    let t := unit / 3
    if (s.trio t).split then
      (if (s.unit (4 * t + 1 + unit % 3)).st = .stop then Status.ok else Status.wrongState)
    else if (inCores s t).length = 3 ∨ ((inCores s t).length < 2 ∧ (s.core unit).st = .out) then Status.ok else Status.wrongState
  else Status.ok

/-- The unit is taken for the whole test. -/
def takeUnit (cls unit : Nat) (s : State) : State :=
  if cls = 0 then dropJob unit s
  else if cls = 1 then (if (s.lane unit).st = .inService then setLane unit .underTest s else s)
  else if cls = 2 then (if (s.core unit).st = .inn then s.modCore unit fun c => { c with st := .underTest } else s)
  else s

/-- BIST_RUN (17 R462): the reply holds the queue until the test completes. -/
def bistRunBody (h : Hdr) (block : Nat) (s : State) : Answer :=
  match bistUnit block with
  | none => reject Status.badParam s
  | some (cls, unit) =>
    let st := bistStatusOf cls unit s
    if stopsNow (unitDomain cls unit) s then deadAccess h 0x0902 block (unitDomain cls unit) s
    else if st ≠ Status.ok then reject st s
    else
      let b : BistFrom := {
        unit := unit, retry := s.st.retry, aborts := tget 0 s.st.aborts block
        lane := if cls = 1 then some (s.lane unit) else none, core := if cls = 2 then some (s.core unit).st else none }
      let s := takeUnit cls unit (setTesting block true { s with inst := { instant s with bistFrom := some b } })
      let s := s.modSt fun x => { x with bist := some { block := block }, retry := x.retry.filter (· ≠ block), aborts := tset 0 x.aborts block 0 }
      (Status.held, [], s.modHost fun x => { x with held := some { h := h, opcode := 0x0902, arg := block } })

def execBistRun (h : Hdr) (block : Nat) (s : State) : Host.Outcome State Fault Refusal :=
  done (serve h 0x0902 [b8 block] (.bistRun h block) (bistRunBody h block) s)

/-- VIEW_ENGINE_POOL (05 R144). -/
def enginePool (s : State) : Nat := packBits ((List.range 8).map fun e => engineInPool e s)

/-- ST_PENDING and ST_PENDING_CORES (17 R461): segments 2 to 15 not yet all passed since a fast start. -/
def testPending (block : Nat) (s : State) : Bool := s.st.fast && decide ((tget 0 s.st.passed block) / 4 ≠ 0x3FFF)
def pendingUnits (s : State) : Nat :=
  packBits ((List.range 8).map (fun e => testPending (0x10 + e) s) ++ (List.range 3).map (fun l => testPending (0x20 + l) s) ++
    [s.st.fast && decide (tget 0 s.st.passed 0x50 = 0)])
def pendingCores (s : State) : Nat := packBits ((List.range 24).map fun c => testPending (0x28 + c) s)

/-- BIST_STATUS (17 R463). -/
def bistStatusBody (s : State) : Answer :=
  (Status.ok,
    [b8 s.st.step, b8 (b2n s.st.fast + 2 * b2n (pendingUnits s = 0 && pendingCores s = 0))] ++ be 2 0 ++ be 4 (reg s P.stStartupMs) ++
    [b8 (enginePool s), b8 (packBits ((List.range 3).map fun l => decide ((s.lane l).st = .inService)))] ++ be 2 0 ++
    be 4 (packBits ((List.range 24).map fun c => decide ((s.core c).st = .out))) ++
    [b8 s.st.failUnit, b8 s.st.failKind] ++ be 2 0 ++ be 2 (reg s P.stRepairs) ++ be 2 (reg s P.stCruSpares) ++
    be 4 s.st.abortMax ++ be 4 (reg s P.stCruPasses), s)

def execBistStatus (h : Hdr) (s : State) : Host.Outcome State Fault Refusal :=
  done (serve h 0x0903 [] (.bistStatus h) bistStatusBody s)

/-! ### Known-answer tests (17 R451) -/

/-- The units with check-value channels and no slices (16 R431): ports, pipes, Mirage predictor, MRAM controller, Erg Link,
host interface, I/O link on each die, service processor. -/
def katUnit (block : Nat) : Bool :=
  decide (block < 0x10) || decide (0x18 ≤ block ∧ block < 0x20) || [0x70, 0x6A, 0x5A, 0x61, 0x6B, 0x44, 0x60].contains block

/-- The channel of a block code, and whether it computes at the present edge: the test then waits for an idle edge (16 R440). -/
def chanOf (block : Nat) : Nat := if block = 0x44 then chanFio else block
def chanBusy (block : Nat) (s : State) : Bool := decide ((tget {} s.chans (chanOf block)).usedAt = some s.now)

/-- The known-answer test of a channel and a preset is due: once per second (17 R451). -/
def katDue (block preset : Nat) (s : State) : Bool :=
  match tget none s.st.katAt (4 * block + preset) with
  | some t => decide (t + ms 1000 ≤ s.now)
  | none => true

/-- KAT_RUN (17 R451): a channel tests a preset at an idle edge; a wrong answer counts as a logic failure of the owning unit. -/
def katRun (t : Time) (block preset answer : Nat) (s : State) : State :=
  let s := advance t s
  if !katUnit block || chanBusy block s || !katDue block preset s then s
  else
  let s := useChannel (chanOf block) preset 0 s
  let s := s.modSt fun x => { x with katAt := tset none x.katAt (4 * block + preset) (some s.now) }
  if some answer = (if h : preset < 4 then some (katAnswer ⟨preset, h⟩) else none) then s
  else
    let loc := if block = 0x44 then locBlock s dieFio 0x44 else locBlock s dieSoc block
    detect 89 loc (s.modSt fun x => { x with failUnit := block, failKind := 4 })

def execKatRun (t : Time) (block : Nat) (preset : Fin 4) (answer : Word) (s : State) : Host.Outcome State Fault Refusal :=
  done (katRun t block preset.val answer.toNat s)

end Sys2Proof.Machine
end

