-- ==== Sys2Proof/Machine/Update.lean ====
section
/-! DEFINITION. Firmware update and life cycle (chapter 19): authentication, the image container, slots and the boot record,
boots of the service processor, the update lock, and the life-cycle commands. -/

namespace Sys2Proof.Machine

/-! ### The image container (19 R486, R487) -/

/-- Fields of a container (19 Table 19.2). -/
def imgClass (i : Bytes) : Nat := u8 i 6
def imgRb (i : Bytes) : Nat := u8 i 7
def imgVersion (i : Bytes) : Word := w32 (u32 i 0x0C)
def imgLength (i : Bytes) : Nat := u32 i 0x10

/-- Check 1 of 19 Table 19.3. -/
def imgShapeOk (i : Bytes) : Bool :=
  decide (u32 i 0 = 0x57465844 ∧ u16 i 4 = 1 ∧ 1 ≤ imgLength i ∧ imgLength i ≤ 16776960 ∧ i.length = 256 + imgLength i) &&
    allZero (sub i 0x18 40) && allZero (sub i 0x60 96)

/-- The container checks (19 Table 19.3): the reason of the first that fails, 0 where all pass. -/
def containerReason (i : Bytes) (s : State) : Nat :=
  if !imgShapeOk i then 1
  else if u32 i 8 ≠ 0x37160000 then 2
  else if sub i 0x40 32 ≠ sha256 (i.drop 0x100) then 3
  else if (imgClass i ≠ 1 ∧ imgClass i ≠ 2) ∨ ecdsaOk (Config.romKey (imgClass i)) (sub i 0xC0 64) (sha256 (i.take 0xC0)) = false then 4
  else if imgClass i ≠ 1 ∧ s.upd.lc ≠ 0 ∧ s.upd.lc ≠ 1 ∧ s.upd.lc ≠ 3 then 5
  else if (imgVersion i).toNat < s.upd.floor.toNat then 6
  else if imgRb i < s.upd.rbCount then 7
  else if s.mram.cfgFormat < u16 i 0x14 ∨ u16 i 0x16 < s.mram.cfgFormat then 8
  else 0

/-! ### Slots and the boot control word (19 R489) -/

/-- A slot: A for false, B for true. -/
def slot (b : Bool) (s : State) : Slot := if b then s.upd.slotB else s.upd.slotA
def modSlot (b : Bool) (f : Slot → Slot) (s : State) : State :=
  s.writeBoot fun u => if b then { u with slotB := f u.slotB } else { u with slotA := f u.slotA }

/-- The active slot, and the slot a download targets (19 R490). -/
def activeSlot (s : State) : Slot := slot s.upd.ctl.activeB s
def otherSlot (s : State) : Slot := slot (!s.upd.ctl.activeB) s

/-- The low half of the boot control word, and the word with its CRC (19 Table 19.4). -/
def ctlBits (c : BootCtl) : Nat := b2n c.activeB + 2 * b2n c.pending + 4 * (c.trialUsed % 4) + 256 * (c.seq % 256)
def withCrc (n : Nat) : BitVec 64 := BitVec.ofNat 64 (n + 2 ^ 32 * crcStore (le 4 n))
def ctlWord (c : BootCtl) : BitVec 64 := withCrc (ctlBits c)

/-- What a copy of the boot control word says, and whether its CRC matches. -/
def ctlOf (w : BitVec 64) : BootCtl :=
  { activeB := w.getLsbD 0, pending := w.getLsbD 1, trialUsed := fld w.toNat 3 2, seq := fld w.toNat 15 8 }
def ctlOk (w : BitVec 64) : Bool := decide (w = withCrc (w.toNat % 2 ^ 32))

/-- The boot control word is written, with SEQ + 1, to the copy that was not written last (19 R489). -/
def writeCtl (f : BootCtl → BootCtl) (s : State) : State :=
  s.writeBoot fun u =>
    let c := { f u.ctl with seq := (u.ctl.seq + 1) % 256 }
    { u with
      ctl := c, ctlLast := !u.ctlLast
      ctlCopy0 := if u.ctlLast then ctlWord c else u.ctlCopy0, ctlCopy1 := if u.ctlLast then u.ctlCopy1 else ctlWord c }

/-- A word of the boot record that reads damaged: its CRC no longer matches (DESIGN CHOICE, log 211). -/
def spoilWord (w : BitVec 64) : BitVec 64 :=
  BitVec.ofNat 64 (w.toNat % 2 ^ 32 + 2 ^ 32 * (0xFFFFFFFF - crcStore (le 4 (w.toNat % 2 ^ 32))))

/-- The copy that serves: its CRC matches, and its SEQ is the later in serial order modulo 256 (19 R489): 1 for true. -/
def goodCtl (c0 c1 : BitVec 64) : Option Bool :=
  let d := ((ctlOf c1).seq + 256 - (ctlOf c0).seq) % 256
  if ctlOk c0 then (if ctlOk c1 && decide (0 < d ∧ d < 128) then some true else some false)
  else if ctlOk c1 then some true else none

/-- A descriptor that reads uncorrectable counts as EMPTY, with FS-078 (19 R489). -/
def emptySlot (b : Bool) (s : State) : State :=
  detect 78 (locAddr s dieMram (if b then 0x28 else 0x20)) (s.modUpd fun u =>
    if b then { u with slotB := { u.slotB with state := 0 } } else { u with slotA := { u.slotA with state := 0 } })

/-- The boot record as it reads at a start-up (19 R489); `bad` names its words that read uncorrectable, by their place in it. What
serves where neither copy of the boot control word does is not stated: nothing constrains it (log 224). -/
def readBoot (bad : List Nat) (s : State) : State :=
  let read (k : Nat) (w : BitVec 64) : BitVec 64 := if bad.contains k then spoilWord w else w
  let s := s.modUpd fun u => { u with ctlCopy0 := read 0 u.ctlCopy0, ctlCopy1 := read 1 u.ctlCopy1 }
  let s := match goodCtl s.upd.ctlCopy0 s.upd.ctlCopy1 with
    | some b => s.modUpd fun u => { u with ctl := ctlOf (if b then u.ctlCopy1 else u.ctlCopy0), ctlLast := b }
    | none => { s with free := s.free + 1 }.modUpd fun u => { u with ctl := ctlOf ((Config.freeWord s.free).setWidth 64) }
  let s := if bad.contains 4 then emptySlot false s else s
  if bad.contains 5 then emptySlot true s else s

/-- The STATE that UPD_SLOT_A_STATE and UPD_SLOT_B_STATE report (19 R489). -/
def slotState (b : Bool) (s : State) : Nat :=
  if s.upd.ctl.activeB = b then (if s.upd.ctl.pending then 6 else 7) else (slot b s).state

/-- The VERSION reported for a slot; 0 when EMPTY. -/
def slotVersion (b : Bool) (s : State) : Nat := if (slot b s).state = 0 then 0 else (slot b s).version.toNat

/-- UPD_TRIAL_LEFT, and the trial boots left of LC_READ. -/
def trialLeft (s : State) : Nat := if s.upd.ctl.pending then 3 - s.upd.ctl.trialUsed else 0

/-- First byte of a slot in the MRAM map (19 R489). -/
def slotAddr (b : Bool) : Nat := if b then 0x1100000 else 0x100000

/-! ### Confirmation and boots (19 R494 to R496) -/

/-- Steps 2 to 4 of a confirmation: the floor, the fuses, and the other slot's descriptor. -/
def confirmSteps (s : State) : State :=
  let a := activeSlot s
  modSlot (!s.upd.ctl.activeB) (fun x => { x with state := 5 }) (s.writeBoot fun u => {
    u with
    floor := if u.floor.toNat < a.version.toNat then a.version else u.floor
    rbCount := max u.rbCount (min 64 a.rb) })

/-- The steps whose result is missing are repeated at a boot with PENDING 0. The other slot's descriptor is taken as missing
its SUPERSEDED where it is VERIFIED below the floor (DEDUCED, log 44). -/
def completeConfirm (s : State) : State :=
  let a := activeSlot s
  let o := otherSlot s
  if a.state = 0 then s
  else if s.upd.floor.toNat < a.version.toNat ∨ s.upd.rbCount < a.rb ∨ (o.state = 3 ∧ o.version.toNat < s.upd.floor.toNat) then
    confirmSteps s
  else s

/-- The result of the container checks of the active image at a boot. The image of a factory slot is a fact of the module that
the model does not hold; its result comes with the command (log 6). -/
def bootReason (given : Nat) (s : State) : Nat :=
  if (activeSlot s).image = [] then given else containerReason (activeSlot s).image s

/-- The fault of an image that fails its checks at a boot. -/
def signatureFault (s : State) : State := detect 95 (locAddr s dieMram (slotAddr s.upd.ctl.activeB)) s (persists := true)

/-- A trial ends by fallback: the other slot is active again, the trial slot INVALID, FS-094 (19 R494). -/
def fallBack (s : State) : State :=
  let s := modSlot s.upd.ctl.activeB (fun x => { x with state := 4 }) s
  let s := writeCtl (fun c => { c with activeB := !c.activeB, pending := false, trialUsed := 0 }) s
  let s := (satField s P.updFallbacks 15 0 1).modClk fun c => { c with restarts := [] }
  detect 94 (locBlock s dieSoc 0x60) s

/-- A boot with PENDING 0: the image starts, or fails its checks (19 R495, R496). -/
def bootSettled (given : Nat) (s : State) : Bool × State :=
  if bootReason given s ≠ 0 then (false, signatureFault s)
  else
    let s := completeConfirm s
    (true, causeGone 95 (s.modUpd fun u => { u with running := (activeSlot s).version }))

/-- A start of the service processor (19 R494 to R496): whether an image starts, and the state. -/
def bootSp (given : Nat) (s : State) : Bool × State :=
  if s.upd.ctl.pending then
    if bootReason given s ≠ 0 then bootSettled 0 (fallBack (signatureFault s))
    else if s.upd.ctl.trialUsed < 3 then
      let s := writeCtl (fun c => { c with trialUsed := c.trialUsed + 1 }) s
      (true, s.modUpd fun u => { u with running := (activeSlot s).version })
    else bootSettled 0 (fallBack s)
  else bootSettled given s

/-- The service processor restarts alone (19 R493, R471): the command in service is interrupted, the collector is in RECOVERY.
An image that may not start leaves the SP held in reset (19 R495). -/
def restartSp (given : Nat) (s : State) : State :=
  let s := setFltMode .recovery (s.modClk fun c => { c with sp := .restarting, spDue := false })
  let s := setDom 6 .heldInReset s
  let s := endBist Status.interrupted [] s
  let s := match s.host.held with
    | some x => finishHeld x.h x.opcode Status.interrupted [] s
    | none => s
  let (ok, s) := bootSp given s
  if ok then s else s.modClk fun c => { c with sp := .held, spOut := true }

/-! ### Authentication (19 R484) -/

/-- Links by number: service port, SVC-UART, forwarded. -/
def linkIx (l : Link) : Nat :=
  match l with
  | .host | .service => 0
  | .uart => 1
  | .forwarded => 2

/-- The number of a session in the response: 0 or 1. -/
def sessionNo (ix : Nat) : Nat := if ix = 2 then 1 else 0

/-- The serial number in its 8 bytes. -/
def serialBytes (s : State) : Bytes := be 8 s.upd.serial.toNat

/-- SVC_CHALLENGE is locked out on a link. -/
def lockedOut (l : Nat) (s : State) : Bool :=
  match tget none s.upd.lockout l with
  | some t => decide (s.now < t + ms 60000)
  | none => false

/-- The NONCE of a session, while it is valid: 10 s. -/
def validNonce (ix : Nat) (s : State) : Option Bytes :=
  (svcOf s ix).nonce.bind fun (n, t) => if s.now < t + ms 10000 then some n else none

/-- SVC_CHALLENGE (19 R484): 16 bytes that nothing constrains. -/
def svcChallengeBody (h : Hdr) (s : State) : Answer :=
  let ix := sessionIx h s
  if lockedOut (linkIx h.link) s then reject Status.denied s
  else
    let n : Bytes := (List.range 16).map fun i => Config.freeByte (s.free + i)
    let s := modSvc { s with free := s.free + 16 } ix fun v => { v with nonce := some (n, s.now) }
    (Status.ok, n ++ serialBytes s, s)

def execSvcChallenge (h : Hdr) (s : State) : Host.Outcome State Fault Refusal :=
  done (serve h 0x0E01 [] (.svcChallenge h) (svcChallengeBody h) s)

/-- A failed response counts, and the third in a row on a link locks the link out. -/
def authFailed (l : Nat) (s : State) : State :=
  let n := tget 0 s.upd.failRun l + 1
  (satField s P.updAuthFails 15 0 1).modUpd fun u => {
    u with
    failRun := tset 0 u.failRun l (if n = 3 then 0 else n)
    lockout := if n = 3 then tset none u.lockout l (some s.now) else u.lockout }

/-- SVC_AUTH (19 R484): the response to the NONCE outstanding, once. -/
def svcAuthBody (h : Hdr) (response : Bytes) (s : State) : Answer :=
  let ix := sessionIx h s
  let l := linkIx h.link
  if response.length ≠ 32 then reject Status.badParam s
  else
    let good := match validNonce ix s with
      | some n => decide (response = hmacSha256 (pad 32 s.upd.key) (n ++ serialBytes s ++ [b8 (sessionNo ix)]))
      | none => false
    let s := modSvc s ix fun v => { v with nonce := none }
    if good then
      (Status.ok, [], modSvc (s.modUpd fun u => { u with failRun := tset 0 u.failRun l 0 }) ix fun v => { v with authed := true })
    else (Status.denied, [], authFailed l s)

def execSvcAuth (h : Hdr) (response : Bytes) (s : State) : Host.Outcome State Fault Refusal :=
  done (serve h 0x0E02 response (.svcAuth h response) (svcAuthBody h response) s)

/-- NONCE_EXPIRY (19 R484): 10 s after its issue. -/
def nonceExpiry (t : Time) (which : Nat) (s : State) : State :=
  let s := advance t s
  if which ≠ 0 ∧ (validNonce which s).isNone then modSvc s which fun v => { v with nonce := none } else s

def execNonceExpiry (t : Time) (session : Fin 5) (s : State) : Host.Outcome State Fault Refusal := done (nonceExpiry t session.val s)

/-- AUTH_LOCKOUT_END (19 R484): after 60 s. -/
def authLockoutEnd (t : Time) (l : Nat) (s : State) : State :=
  let s := advance t s
  if lockedOut l s then s else s.modUpd fun u => { u with lockout := tset none u.lockout l none }

def execAuthLockoutEnd (t : Time) (link : Link) (s : State) : Host.Outcome State Fault Refusal :=
  done (authLockoutEnd t (linkIx link) s)

/-! ### Update (19 R490 to R498) -/

/-- The sender of a packet holds the update lock. -/
def holdsLock (h : Hdr) (s : State) : Bool := decide (s.upd.lock = lockCode (sessionIx h s) ∧ s.upd.lock ≠ 0)

/-- A reply of this very edge is another than the one formed: in the replay window, and as it was sent. One that waits for a SERVICE
slot stands (log 225). -/
def amendReply (h : Hdr) (ix op st : Nat) (params : Bytes) (s : State) : State :=
  let is (q : OutPkt) : Bool := decide (q.kind = .reply ∧ q.opcode = op ∧ q.hseq = h.hseq ∧ q.link = h.link)
  let new (q : OutPkt) : OutPkt := { q with status := st, params := params }
  setWindow (s.modHost fun x => { x with tx := modFirst is new x.tx }) ix (modFirst is new (windowOf s ix))

/-- Another source has taken the free lock on this very edge: service session 0 goes before session 1, and that before a forwarded
session; the other one gets BUSY (19 R505). -/
def lockWon (ix : Nat) (s : State) : Option State :=
  match (instant s).opened with
  | some (h', ix') => if ix < ix' ∧ s.upd.lock = lockCode ix' then some (amendReply h' ix' 0x0E10 Status.busy [] s) else none
  | none => none

/-- The lock is taken; where it was free, this edge knows of it. -/
def takeLock (h : Hdr) (ix : Nat) (s : State) : State :=
  let s := if s.upd.lock = lockCode ix then s else { s with inst := { instant s with opened := some (h, ix) } }
  s.modUpd fun u => { u with lock := lockCode ix, lockAt := s.now }

/-- UPD_OPEN (19 R498, R505). -/
def updOpenBody (h : Hdr) (s : State) : Answer :=
  let ix := sessionIx h s
  let s' := if s.upd.lock = 0 ∨ s.upd.lock = lockCode ix then some s else lockWon ix s
  match s' with
  | none => reject Status.busy s
  | some s => (Status.ok, [b8 (b2n (!s.upd.ctl.activeB)), b8 s.upd.rbCount, 0, 0] ++ be 4 s.upd.floor.toNat, takeLock h ix s)

def execUpdOpen (h : Hdr) (s : State) : Host.Outcome State Fault Refusal := done (serve h 0x0E10 [] (.updOpen h) (updOpenBody h) s)

/-- The part of a download that completes TOTAL: the slot is UNVERIFIED, with VERSION and RB_INDEX of the header. -/
def downloadWhole (_ : Nat) (img : Bytes) (s : State) : Answer :=
  (Status.ok, [], modSlot (!s.upd.ctl.activeB) (fun x => { x with state := 2, rb := imgRb img, version := imgVersion img, image := img }) s)

/-- UPD_DOWNLOAD (19 R490). VERSION and RB_INDEX of an INCOMPLETE descriptor are not stated (log 45). -/
def updDownloadBody (h : Hdr) (p : BulkPart) (s : State) : Answer :=
  if !holdsLock h s then reject Status.denied s
  else if s.upd.ctl.pending then reject Status.wrongState s
  else if p.index ≠ 0 ∨ p.total < 257 ∨ 16777216 < p.total then
    (Status.badParam, [], s.modHost fun x => { x with staging := tset none x.staging 0x0E11 none })
  else
    let b := !s.upd.ctl.activeB
    let (st, out, s) := bulk 0x0E11 p downloadWhole s
    if st ≠ Status.ok ∨ out = [] then (st, out, s)
    else
      let s := if p.offset = 0 then
          modSlot b (fun x => { x with state := 1, rb := (Config.freeByte s.free).toNat, version := Config.freeWord s.free, image := [] })
            { s with free := s.free + 1 }
        else s
      (st, out, modSlot b (fun x => { x with image := x.image ++ p.data }) s)

def execUpdDownload (h : Hdr) (part : BulkPart) (s : State) : Host.Outcome State Fault Refusal :=
  done (serve h 0x0E11 (bulkBytes part) (.updDownload h part) (updDownloadBody h part) s)

/-- UPD_VERIFY (19 R491). -/
def updVerifyBody (h : Hdr) (s : State) : Answer :=
  if !holdsLock h s then reject Status.denied s
  else if (otherSlot s).state ≠ 2 then reject Status.wrongState s
  else
    let r := containerReason (otherSlot s).image s
    let s := setReg (modSlot (!s.upd.ctl.activeB) (fun x => { x with state := if r = 0 then 3 else 4 }) s) P.updLastVerify r
    (if r = 0 then Status.ok else Status.checkFail, [b8 r], s)

def execUpdVerify (h : Hdr) (s : State) : Host.Outcome State Fault Refusal := done (serve h 0x0E12 [] (.updVerify h) (updVerifyBody h) s)

/-- UPD_ACTIVATE may not proceed (19 R492). -/
def activateRefused (s : State) : Bool :=
  decide ((otherSlot s).state ≠ 3) || s.upd.ctl.pending || (s.units.any fun (_, u) => u.stage.isSome) ||
    decide (s.cru.st = .recovering) || s.st.bist.isSome || decide (s.flt.mode = .recovery)

/-- UPD_ACTIVATE (19 R492): the boot control word, the reply, then the restart of the SP. The ROM recovery restarts nothing
(19 R500). -/
def updActivateBody (h : Hdr) (s : State) : Answer :=
  if !holdsLock h s then reject Status.denied s
  else if activateRefused s then reject Status.wrongState s
  else
    let s := writeCtl (fun c => { c with activeB := !c.activeB, pending := true, trialUsed := 0 }) s
    if s.st.rom then (Status.ok, [], s)
    else (Status.held, [], restartSp 0 (reply h (sessionIx h s) 0x0E13 Status.ok [] s))

def execUpdActivate (h : Hdr) (s : State) : Host.Outcome State Fault Refusal :=
  done (serve h 0x0E13 [] (.updActivate h) (updActivateBody h) s)

/-- UPD_CONFIRM (19 R496). -/
def updConfirmBody (h : Hdr) (s : State) : Answer :=
  if !holdsLock h s then reject Status.denied s
  else if !s.upd.ctl.pending then reject Status.wrongState s
  else
    let undo := (h, sessionIx h s, s.upd)
    let s := confirmSteps (writeCtl (fun c => { c with pending := false }) s)
    let s := { s with inst := { instant s with confirmed := some undo } }
    (Status.ok, [b8 s.upd.rbCount, 0, 0, 0] ++ be 4 s.upd.floor.toNat, s)

def execUpdConfirm (h : Hdr) (s : State) : Host.Outcome State Fault Refusal :=
  done (serve h 0x0E14 [] (.updConfirm h) (updConfirmBody h) s)

/-- UPD_CLOSE (19 R498): by the holder (DEDUCED, log 46). -/
def updCloseBody (h : Hdr) (s : State) : Answer :=
  if holdsLock h s then (Status.ok, [], releaseLock s) else reject Status.denied s

def execUpdClose (h : Hdr) (s : State) : Host.Outcome State Fault Refusal := done (serve h 0x0E15 [] (.updClose h) (updCloseBody h) s)

/-- UPD_LOCK_TIMEOUT (19 R498): 60 s without a packet from the holder. -/
def execUpdLockTimeout (t : Time) (s : State) : Host.Outcome State Fault Refusal := done (expireLock (advance t s))

/-! ### Reset entry (18 R479) -/

/-- The boot record as it was. -/
def restoreBoot (u : UpdSt) (s : State) : State := s.modUpd fun x => {
  x with
  ctl := u.ctl, ctlCopy0 := u.ctlCopy0, ctlCopy1 := u.ctlCopy1, ctlLast := u.ctlLast
  floor := u.floor, rbCount := u.rbCount, eraseDone := u.eraseDone, slotA := u.slotA, slotB := u.slotB }

/-- A cause of an SP restart on the edge of UPD_CONFIRM wins: no write is made, and the command in service is interrupted (19 R505,
R493). -/
def unconfirm (s : State) : State :=
  match (instant s).confirmed with
  | none => s
  | some (h, ix, u) =>
    amendReply h ix 0x0E14 Status.interrupted [] (restoreBoot u { s with inst := { instant s with confirmed := none } })

/-- The MRAM writes of this very edge have not begun (18 R480). What was answered on it stands (log 226). -/
def unwritten (s : State) : State :=
  let s := match (instant s).mramWas with | some m => { s with mram := m } | none => s
  match (instant s).bootWas with | some u => restoreBoot u s | none => s

/-- The effects of a falling nRESET: Quench is asserted, the Erg ports go down, every domain is held in reset. -/
def enterReset (s : State) : State :=
  let s := (s.modFlt fun f => { f with quench := true }).modSt fun x => { x with inReset := true }
  let s := s.modErg fun e => { e with st := .off, portA := { e.portA with up := false }, portB := { e.portB with up := false } }
  (List.range 8).foldl (fun s d => setDom d .heldInReset s) s

/-! ### Life cycle (19 R501 to R504) -/

/-- Every trio and split core is in EMPTY, STOP or HALTED. -/
def unitsQuiet (s : State) : Bool := s.units.all fun (_, u) => decide (u.st ≠ .run ∧ u.st ≠ .debug)

/-- KEY_CLASS of the active image; a factory image is a production one (log 6). -/
def activeClass (s : State) : Nat := if (activeSlot s).image = [] then 1 else imgClass (activeSlot s).image

/-- LC_ADVANCE (19 Table 19.7). -/
def lcAdvanceBody (key : Bytes) (s : State) : Answer :=
  if key.length ≠ 64 then reject Status.badParam s
  else if s.upd.lc ≠ 1 ∨ s.upd.ctl.pending ∨ activeClass s ≠ 1 then reject Status.wrongState s
  else if s.upd.custHash ≠ [] ∧ s.upd.custHash ≠ sha256 key then reject Status.checkFail s
  else (Status.ok, [], s.modUpd fun u => { u with custHash := sha256 key, lc := 2 })

def execLcAdvance (h : Hdr) (key : Bytes) (s : State) : Host.Outcome State Fault Refusal :=
  done (serve h 0x0E20 key (.lcAdvance h key) (lcAdvanceBody key) s)

/-- SIG verifies under the customer key over serial number, NONCE and opcode (19 R485). -/
def lifeSigOk (h : Hdr) (op : Nat) (key sig : Bytes) (s : State) : Bool :=
  match validNonce (sessionIx h s) s with
  | some n =>
    !s.upd.custRevoked && decide (sha256 key = s.upd.custHash) && ecdsaOk key sig (sha256 (serialBytes s ++ n ++ be 2 op))
  | none => false

/-- The conditions of LC_RETURN and LC_SCRAP (19 Table 19.7): none where they hold, else the status. -/
def lifeCheck (h : Hdr) (op : Nat) (key sig : Bytes) (s : State) : Option Nat :=
  if s.upd.lc = 2 then
    if key.length ≠ 64 ∨ sig.length ≠ 64 then some Status.badParam
    else if !lifeSigOk h op key sig s then some Status.denied
    else if !unitsQuiet s then some Status.wrongState else none
  else if key ≠ [] ∨ sig ≠ [] then some Status.badParam
  else if s.upd.lc = 1 then (if unitsQuiet s then none else some Status.wrongState)
  else if s.upd.lc = 3 ∧ op = 0x0E22 then none
  else some Status.wrongState

/-- LC_RETURN (19 R503): the reply, the fuses, the erase marker, and a reset of the module. -/
def lcReturnBody (h : Hdr) (key sig : Bytes) (s : State) : Answer :=
  match lifeCheck h 0x0E21 key sig s with
  | some st => reject st s
  | none =>
    let s := reply h (sessionIx h s) 0x0E21 Status.ok [] s
    let s := s.modUpd fun u => { u with custRevoked := u.custRevoked || decide (u.lc = 2), lc := 3, eraseDone := false }
    (Status.held, [], enterReset s)

def execLcReturn (h : Hdr) (key sig : Bytes) (s : State) : Host.Outcome State Fault Refusal :=
  done (serve h 0x0E21 (key ++ sig) (.lcReturn h key sig) (lcReturnBody h key sig) s)

/-- LC_SCRAP (19 R504): the reply, the fuse, the key overwritten with ones, the whole MRAM erased. -/
def lcScrapBody (h : Hdr) (key sig : Bytes) (s : State) : Answer :=
  match lifeCheck h 0x0E22 key sig s with
  | some st => reject st s
  | none =>
    let s := reply h (sessionIx h s) 0x0E22 Status.ok [] s
    let s := s.modUpd fun u => { u with lc := 4, key := List.replicate 32 0xFF, ctl := {}, ctlCopy0 := 0, ctlCopy1 := 0, slotA := {}, slotB := {} }
    (Status.held, [], { s with mram := {} })

def execLcScrap (h : Hdr) (key sig : Bytes) (s : State) : Host.Outcome State Fault Refusal :=
  done (serve h 0x0E22 (key ++ sig) (.lcScrap h key sig) (lcScrapBody h key sig) s)

/-- LC_READ (14 Table 14.11). -/
def lcReadBody (s : State) : Answer :=
  (Status.ok,
    [b8 s.upd.lc, b8 (b2n s.upd.ctl.activeB), b8 (trialLeft s), 0] ++ serialBytes s ++ [b8 s.upd.rbCount, 0, 0, 0] ++
      be 4 (slotVersion false s) ++ be 4 (slotVersion true s) ++ [b8 (slotState false s), b8 (slotState true s)], s)

def execLcRead (h : Hdr) (s : State) : Host.Outcome State Fault Refusal := done (serve h 0x0F01 [] (.lcRead h) lcReadBody s)

end Sys2Proof.Machine
end

