-- ==== Sys2Proof/Machine/Clock.lean ====
section
/-! DEFINITION. Clocks, internal supplies, temperatures, and restarts of the service processor (chapter 18). -/

namespace Sys2Proof.Machine

/-! ### Clocks (18 R467 to R469) -/

/-- The module is powered and out of reset. -/
def powered (s : State) : Bool := !s.st.inReset

/-- The location word of a clock: REFCLK 0, then the PLLs (15 Table 15.1). -/
def locClock (s : State) (n : Nat) : BitVec 64 := locBlock s dieSoc 0x69 n

/-- REFCLK_FAIL (18 R467): the backup oscillator drives REF until the module restarts. -/
def refclkFail (t : Time) (s : State) : State :=
  let s := advance t s
  if s.clk.backup || !powered s then s
  else detect 63 (locClock s 0) (s.modClk fun c => { c with backup := true })

def execRefclkFail (t : Time) (s : State) : Host.Outcome State Fault Refusal := done (refclkFail t s)

/-- Every trio stops when its clock does: a program exchange is abandoned, the watchdog goes with its clock (18 Table 18.1). -/
def stopTrios (s : State) : State :=
  (s.units.map (·.1)).foldl (fun s u =>
    let s := if u % 4 = 0 then settleSuspect (u / 4) s else s
    if (s.unit u).st = .run ∨ (s.unit u).st = .debug then
      leaveRun u .stop (abandonExchange u (s.modUnit u fun x => {
        x with
        inCycle := false
        wdtOn := false
        stopReq := false
        dbgWrites := []
        resumeAt := none }))
    else s) s

/-- A lane is lost with its clock, counted as a removal (18 Table 18.1, 07 R193). -/
def loseLane (l : Nat) (s : State) : State :=
  let first := decide ((s.lane l).removals = 0)
  let s := removeLane l (66 + l) s
  s.modLane l fun x => { x with removals := min (x.removals + 1) 2, removed := true, testDue := first, returning := false }

/-- The reaction to the loss of a domain's clock (18 Table 18.1). -/
def clockReaction (d : Nat) (s : State) : State :=
  if d = 0 then detect 64 (locClock s 1) (stopTrios s)
  else if d = 1 then detect 65 (locClock s 2) (haltRenders s)
  else if d < 5 then loseLane (d - 2) s
  else if d = 5 then
    let s := detect 69 (locClock s 6) s
    if cruOk s then loseCrucible 2 s else s
  else if d = 6 then detect 70 (locClock s 7) (s.modClk fun c => { c with sp := .held })
  else s

/-- PLL_LOCK_LOSS (18 R468): the clock is gated off on the same edge. The Erg domain never stops. -/
def pllLockLoss (t : Time) (d : Nat) (s : State) : State :=
  let s := advance t s
  if d = 7 ∨ s.clk.locks.getLsbD d = false ∨ !powered s then s
  else
    let up := domUp d s
    let s := s.modClk fun c => { c with locks := setBv c.locks d false, stoppedAt := tset 0 c.stoppedAt d s.now }
    clockReaction d (if up then setDom d .stopped s else s)

def execPllLockLoss (t : Time) (domain : Fin 8) (s : State) : Host.Outcome State Fault Refusal := done (pllLockLoss t domain.val s)

/-- The command whose access hangs in a domain, where there is one. -/
def hungIn (d : Nat) (s : State) : Option Held := s.host.held.filter fun x => decide (x.hung = some d)

/-- A domain enters reset: an access that hangs there gets its error response, and its command answers CHECK_FAIL (18 R473,
R474). -/
def holdDomain (d : Nat) (s : State) : State :=
  let s := setDom d .heldInReset s
  match hungIn d s with
  | some x => finishHeld x.h x.opcode Status.checkFail [] (errorResponse s)
  | none => s

/-- A domain that has been stopped for 1 ms without relock is held in reset (18 R469). -/
def meetHold (d : Nat) (s : State) : State :=
  if tget .running s.clk.doms d = .stopped ∧ (d = 7 ∨ s.clk.locks.getLsbD d = false) ∧ tget 0 s.clk.stoppedAt d + ms 1 ≤ s.now then
    holdDomain d s
  else s

/-- DOMAIN_RESET_HOLD (18 R469). -/
def domainResetHold (t : Time) (d : Nat) (s : State) : State := meetHold d (advance t s)

def execDomainResetHold (t : Time) (domain : Fin 8) (s : State) : Host.Outcome State Fault Refusal :=
  done (domainResetHold t domain.val s)

/-- A BIST_RUN whose access hung in a domain that runs again goes on (18 R473). -/
def resumeHung (d : Nat) (s : State) : State :=
  match hungIn d s with
  | some x =>
    let (st, out, s') := bistRunBody x.h x.arg s
    if st = Status.held then s' else finishHeld x.h x.opcode st out s'
  | none => s

/-- PLL_RELOCK (18 R468): the return of Table 18.1; on the edge at which the hold of R469 begins the domain is held first (R480). The view engines begin again at the next tick edge, every track INVALID; a
lane waits for its self-test; the Crucible for CRU_RECOVER, the trios for a restart of the module. -/
def pllRelock (t : Time) (d : Nat) (s : State) : State :=
  let s := advance t s
  if d = 7 ∨ s.clk.locks.getLsbD d ∨ !powered s then s
  else
    let s := (meetHold d s).modClk fun c => { c with locks := setBv c.locks d true }
    if domUp d s then s
    else if d = 1 then
      resumeHung 1 (settle 65 (satField { setDom 1 .running s with tracks := [] } P.sysDomainResets 23 16 1))
    else if 2 ≤ d ∧ d < 5 then resumeHung d (settle (64 + d) (satField (setDom d .running s) P.sysDomainResets 15 8 1))
    else if d = 6 ∧ s.clk.spOut = false then s.modClk fun c => { c with spDue := true }
    else s

def execPllRelock (t : Time) (domain : Fin 8) (s : State) : Host.Outcome State Fault Refusal := done (pllRelock t domain.val s)

/-! ### Supplies and temperatures (18 R470, 20 R516, R523) -/

/-- INTERNAL_RAIL_FAULT (18 R470). -/
def internalRailFault (t : Time) (s : State) : State :=
  let s := advance t s
  if powered s then detect 73 (locDie s dieSoc) s (persists := true) else s

def execInternalRailFault (t : Time) (s : State) : Host.Outcome State Fault Refusal := done (internalRailFault t s)

/-- A source of a temperature threshold: raised at or above it, gone below it (20 R523). -/
def threshold (n : Nat) (above : Bool) (loc : BitVec 64) (s : State) : State :=
  if above then detect n loc s (persists := true) else causeGone n s

/-- A measurement of the SoC sensor: SYS_TJ, SYS_TJ_MAX (00 R524). -/
def takeTj (c : Int) (s : State) : State :=
  let s := setReg s P.sysTj (wrapN 32 c)
  let s := if s.clk.tjRead ∨ regI s P.sysTjMax < c then
      setReg (noteUpdate P.sysTjMax (fun _ => wrapN 32 c) s) P.sysTjMax (wrapN 32 c) else s
  s.modClk fun k => { k with tjRead := false }

/-- SOC_TEMP_THRESHOLD (18 R470): FS-071 from SYS_TJ_HIGH, FS-072 from 127 °C. -/
def socTemp (t : Time) (c : Int) (s : State) : State :=
  let s := takeTj c (advance t s)
  let loc := locDie s dieSoc
  threshold 72 (decide (127 ≤ c)) loc (threshold 71 (decide ((reg s P.sysTjHigh : Int) ≤ c)) loc s)

/-- A junction above 140 °C is beyond the absolute maximum ratings (20 R507). -/
def execSocTempThreshold (t : Time) (celsius : Int) (s : State) : Host.Outcome State Fault Refusal :=
  if 140 < celsius then .fault .absoluteMaximum else done (socTemp t celsius s)

/-- DRAM_TEMP_THRESHOLD (20 R516, R523; 04 R107): FS-010 from 105 °C; from 115 °C the Crucible is lost. -/
def dramTemp (t : Time) (c : Int) (s : State) : State :=
  let s := setReg (advance t s) P.cruTemp (wrapN 32 c)
  let s := threshold 10 (decide (105 ≤ c)) (locDie s dieDram) s
  if 115 ≤ c ∧ cruOk s then loseCrucible 5 s else s

def execDramTempThreshold (t : Time) (celsius : Int) (s : State) : Host.Outcome State Fault Refusal :=
  if 140 < celsius then .fault .absoluteMaximum else done (dramTemp t celsius s)

/-! ### The service processor (18 R471, 19 R493) -/

/-- The firmware runs. -/
def spRuns (s : State) : Bool := powered s && decide (s.clk.sp = .running) && decide (5 ≤ s.st.step) && !s.st.rom && !s.st.stopped

/-- A cause of an SP restart is met, while the firmware runs or a restart of it is under way (18 R471). -/
def spCause (n : Nat) (s : State) : State :=
  if spRuns s || (powered s && decide (s.clk.sp = .restarting)) then
    detect n (locBlock s dieSoc 0x60) (unconfirm (s.modClk fun c => { c with spDue := true })) (persists := true)
  else s

def execSpLockstepMismatch (t : Time) (s : State) : Host.Outcome State Fault Refusal := done (spCause 75 (advance t s))
def execSpWatchdogExpiry (t : Time) (s : State) : Host.Outcome State Fault Refusal := done (spCause 76 (advance t s))

/-- Restarts under R471 in the 60 s before now. -/
def recentRestarts (s : State) : List Time := s.clk.restarts.filter fun t => decide (s.now ≤ t + ms 60000)

/-- SP_RESTART (18 R471): a restart that is due, counted; the fourth cause within 60 s holds the SP in reset. -/
def spRestart (t : Time) (given : Nat) (s : State) : State :=
  let s := advance t s
  if s.clk.spDue = false ∨ s.clk.spOut ∨ !powered s then s
  else if 3 ≤ (recentRestarts s).length then
    setDom 6 .heldInReset (s.modClk fun c => { c with sp := .held, spOut := true, spDue := false })
  else
    let s := s.modClk fun c => { c with restarts := s.now :: recentRestarts s }
    restartSp given (satField s P.sysDomainResets 7 0 1)

def execSpRestart (t : Time) (containerReason : Nat) (s : State) : Host.Outcome State Fault Refusal :=
  done (spRestart t containerReason s)

/-- SP_RESTART_DONE (19 R493), where no further restart is due: command service resumes; the fault events of the pause are logged with their own TICK and TIME. -/
def spRestartDone (t : Time) (s : State) : State :=
  let s := advance t s
  if s.clk.sp ≠ .restarting ∨ s.clk.spDue then s
  else
    let s := setDom 6 .running (s.modClk fun c => { c with sp := .running })
    let s := causeGone 76 (causeGone 75 (settle 70 (endRecovery s)))
    let parked := s.host.parked
    pumpHeld (parked.foldl (fun s tail => logEvent tail s) (s.modHost fun h => { h with parked := [] }))

def execSpRestartDone (t : Time) (s : State) : Host.Outcome State Fault Refusal := done (spRestartDone t s)

/-! ### nRESET (18 R479) -/

/-- NRESET_FALL (18 R479): a pulse shorter than 1 µs is ignored, one of 10 µs or longer resets; between them either. No
MRAM write begins on its edge (R480). -/
def nresetFall (t : Time) (widthNs : Nat) (s : State) : State :=
  let s := advance t s
  if s.st.inReset ∨ widthNs < 1000 then s
  else if 10000 ≤ widthNs then enterReset (unwritten s)
  else if Config.freeBit s.free then enterReset (unwritten { s with free := s.free + 1 }) else { s with free := s.free + 1 }

def execNresetFall (t : Time) (widthNs : Nat) (s : State) : Host.Outcome State Fault Refusal := done (nresetFall t widthNs s)

end Sys2Proof.Machine
end

