-- ==== Sys2Proof/Machine/Packet.lean ====
section
/-! DEFINITION. The reading of a command packet by the receiving module (14 Tables 14.1, 14.6 to 14.11, 19 Table 19.1):
from its bytes to the command. The packets of the host arrive as commands already; a worker reads forwarded ones here. -/

namespace Sys2Proof.Machine

/-- The parameters of a bulk opcode as they travel (14 R399). -/
def readBulk (p : Bytes) : BulkPart :=
  { index := beAt 2 p 0, rsvd := beAt 2 p 2, total := beAt 4 p 4, offset := beAt 4 p 8, data := p.drop 12 }

/-- The items of PARAM_WRITE. -/
def readItems (n : Nat) (p : Bytes) : List ParamItem :=
  (List.range n).map fun i => { id := beAt 2 p (4 + 8 * i), rsvd := beAt 2 p (6 + 8 * i), value := w32 (beAt 4 p (8 + 8 * i)) }

/-- Sessions, parameters, events (14 Table 14.6). -/
def readGroup0 (h : Hdr) (op : Nat) (p : Bytes) : Option Instr :=
  let g (ok : Bool) : Hdr := { h with lenOk := ok }
  let n (k : Nat) : Hdr := g (decide (p.length = k))
  if op = 0x0001 then some (.hello (n 12) (b8 (u8 p 0)) (beAt 3 p 1) (sub p 4 8))
  else if op = 0x0002 then some (.resync (n 0))
  else if op = 0x0003 then some (.replayReply (n 4) (w32 (beAt 4 p 0)))
  else if op = 0x0004 then some (.replayEvents (n 6) (w32 (beAt 4 p 0)) (beAt 2 p 4))
  else if op = 0x0005 then some (.bye (n 0))
  else if op = 0x0006 then some (.ping (g (decide (p.length ≤ 64))) p)
  else if op = 0x0101 then
    some (.paramRead (n (2 + 2 * beAt 2 p 0)) (beAt 2 p 0) ((List.range (beAt 2 p 0)).map fun i => beAt 2 p (2 + 2 * i)))
  else if op = 0x0102 then some (.paramWrite (n (4 + 8 * beAt 2 p 0)) (beAt 2 p 0) (beAt 2 p 2) (readItems (beAt 2 p 0) p))
  else if op = 0x0103 then some (.paramInfo (n 2) (beAt 2 p 0))
  else if op = 0x0110 then some (.poolLoad (g (decide (12 ≤ p.length))) (readBulk p))
  else if op = 0x0A01 then some (.evtAck (n 0))
  else if op = 0x0A02 then some (.evtMute (n 1) (b8 (u8 p 0)))
  else if op = 0x0A03 then some (.evtLogInfo (n 0))
  else if op = 0x0A04 then some (.evtMirrorRead (n 3) (beAt 2 p 0) (u8 p 2))
  else none

/-- Views, cameras, scan-out (14 Tables 14.7, 14.8). -/
def readGroup1 (h : Hdr) (op : Nat) (p : Bytes) : Option Instr :=
  let g (ok : Bool) : Hdr := { h with lenOk := ok }
  let n (k : Nat) : Hdr := g (decide (p.length = k))
  let bulkOk : Hdr := g (decide (12 ≤ p.length))
  if op = 0x0201 then some (.viewWrite (n 132) (beAt 2 p 0) (beAt 2 p 2) (p.drop 4))
  else if op = 0x0202 then some (.viewRead (n 3) (beAt 2 p 0) (u8 p 2))
  else if op = 0x0203 then some (.viewStatus (n 4) (beAt 2 p 0) (beAt 2 p 2))
  else if op = 0x0204 then some (.meshLoad bulkOk (readBulk p))
  else if op = 0x0205 then some (.meshDelete (n 2) (beAt 2 p 0))
  else if op = 0x0206 then some (.ovlLoad bulkOk (readBulk p))
  else if op = 0x0207 then some (.ovlDelete (n 2) (beAt 2 p 0))
  else if op = 0x0208 then some (.selLoad h p)
  else if op = 0x0209 then some (.commitRead (n 3) (beAt 2 p 0) (u8 p 2))
  else if op = 0x020A then some (.witnessRead (n 4) (beAt 2 p 0) (u8 p 2) (u8 p 3))
  else if op = 0x0301 then some (.camDiag (n 1) (u8 p 0))
  else if op = 0x0302 then some (.camI2c (g (decide (4 + u8 p 2 = p.length))) (u8 p 0) (u8 p 1) (u8 p 2) (u8 p 3) (p.drop 4))
  else if op = 0x0401 then some (.layoutLoad h p)
  else if op = 0x0402 then some (.crcregLoad h p)
  else if op = 0x0403 then some (.layerLoad bulkOk (readBulk p))
  else if op = 0x0404 then some (.layerDelete (n 1) (u8 p 0))
  else if op = 0x0405 then some (.iconLoad bulkOk (readBulk p))
  else none

/-- Interlock (14 Table 14.9). -/
def readGroup2 (h : Hdr) (op : Nat) (p : Bytes) : Option Instr :=
  let g (ok : Bool) : Hdr := { h with lenOk := ok }
  let n (k : Nat) : Hdr := g (decide (p.length = k))
  let bulkOk : Hdr := g (decide (12 ≤ p.length))
  let t := u8 p 0
  let c := u8 p 1
  if op = 0x0501 then some (.progLoad bulkOk (readBulk p))
  else if op = 0x0502 then some (.progDelete (n 2) t c)
  else if op = 0x0503 then some (.trioStart (n 3) t c (u8 p 2))
  else if op = 0x0504 then some (.trioStop (n 2) t c)
  else if op = 0x0505 then some (.trioRestart (n 3) t c (u8 p 2))
  else if op = 0x0506 then some (.progExchange bulkOk (readBulk p))
  else if op = 0x0507 then some (.ownerLoad bulkOk (readBulk p))
  else if op = 0x0508 then some (.commission (n 4) (w32 (beAt 4 p 0)))
  else if op = 0x0509 then some (.haltInfo (n 2) t c)
  else if op = 0x050A then some (.dbgHalt (n 2) t c)
  else if op = 0x050B then some (.dbgStep (n 4) t c (beAt 2 p 2))
  else if op = 0x050C then some (.dbgBreak (n 6) t c (u8 p 2) (u8 p 3) (beAt 2 p 4))
  else if op = 0x050D then some (.dbgResume (n 2) t c)
  else if op = 0x050E then some (.dbgRead (n 8) t c (u8 p 2) (u8 p 3) (beAt 2 p 4) (beAt 2 p 6))
  else if op = 0x050F then some (.dbgWrite (n (6 + beAt 2 p 4)) t c (beAt 2 p 2) (beAt 2 p 4) (p.drop 6))
  else if op = 0x0510 then some (.snapshotRead (n 6) t c (beAt 2 p 2) (beAt 2 p 4))
  else none

/-- Field I/O, Erg Link, faults, diagnostics, life cycle, update (14 Tables 14.10, 14.11, 19 Table 19.1). -/
def readGroup3 (h : Hdr) (op : Nat) (p : Bytes) : Option Instr :=
  let g (ok : Bool) : Hdr := { h with lenOk := ok }
  let n (k : Nat) : Hdr := g (decide (p.length = k))
  let bulkOk : Hdr := g (decide (12 ≤ p.length))
  if op = 0x0601 then some (.fioLoad (n 336) p)
  else if op = 0x0602 then some (.fioRead (n 0))
  else if op = 0x0603 then some (.fioAck (n 0))
  else if op = 0x0701 then some (.ergSchedLoad bulkOk (readBulk p))
  else if op = 0x0702 then some (.ergMapLoad bulkOk (readBulk p))
  else if op = 0x0703 then some (.ergJoin (n 0))
  else if op = 0x0704 then some (.ergLeave (n 0))
  else if op = 0x0801 then some (.faultSummary (n 0))
  else if op = 0x0802 then some (.faultRecord (n 2) (beAt 2 p 0))
  else if op = 0x0803 then some (.faultClear (n 2) (beAt 2 p 0))
  else if op = 0x0804 then some (.faultLogRead (n 3) (beAt 2 p 0) (u8 p 2))
  else if op = 0x0901 then some (.cruRecover (n 0))
  else if op = 0x0902 then some (.bistRun (n 1) (u8 p 0))
  else if op = 0x0903 then some (.bistStatus (n 0))
  else if op = 0x0F01 then some (.lcRead (n 0))
  else if op = 0x0E01 then some (.svcChallenge (n 0))
  else if op = 0x0E02 then some (.svcAuth (n 32) p)
  else if op = 0x0E10 then some (.updOpen (n 0))
  else if op = 0x0E11 then some (.updDownload bulkOk (readBulk p))
  else if op = 0x0E12 then some (.updVerify (n 0))
  else if op = 0x0E13 then some (.updActivate (n 0))
  else if op = 0x0E14 then some (.updConfirm (n 0))
  else if op = 0x0E15 then some (.updClose (n 0))
  else if op = 0x0E20 then some (.lcAdvance (n 64) p)
  else if op = 0x0E21 then some (.lcReturn h (p.take 64) (p.drop 64))
  else if op = 0x0E22 then some (.lcScrap h (p.take 64) (p.drop 64))
  else none

/-- A command read from its opcode and parameters: BAD_OPCODE will answer an opcode of no table. -/
def readCommand (h : Hdr) (op : Nat) (p : Bytes) : Instr :=
  match readGroup0 h op p with
  | some i => i
  | none => match readGroup1 h op p with
    | some i => i
    | none => match readGroup2 h op p with
      | some i => i
      | none => (readGroup3 h op p).getD (.undefinedOpcodePacket h (BitVec.ofNat 16 op) p)

/-- Length of the packet that a payload begins with, and the packet (14 Table 14.1): 24 bytes and PLEN. -/
def packetOf (payload : Bytes) : Bytes := payload.take (24 + beAt 2 payload 0x10)

/-- A packet has the MAGIC and a right PCRC. -/
def packetOk (p : Bytes) : Bool :=
  decide (24 ≤ p.length) && decide (beAt 2 p 0 = 0x4458) && decide (p.length = 24 + beAt 2 p 0x10) &&
    decide (beAt 4 p (p.length - 4) = crcHost (p.take (p.length - 4))
      (w32 (if bitAt (u8 p 3) 1 then beAt 4 p 8 else beAt 4 p 4)))

/-- Parameters of a packet. -/
def packetParams (p : Bytes) : Bytes := sub p 0x14 (beAt 2 p 0x10)

/-- The header of a forwarded command (14 R398). -/
def forwardedHdr (t : Time) (p : Bytes) : Hdr :=
  { t := t, link := .forwarded, srcIp := 0, srcPort := 0, version := b8 (u8 p 2), rsvd := BitVec.ofNat 16 (beAt 2 p 0x12),
    hseq := w32 (beAt 4 p 4), dseq := w32 (beAt 4 p 8), target := b8 (u8 p 0xC) }

end Sys2Proof.Machine
end

