-- ==== Sys2Proof/Machine/Start.lean ====
section
/-! DEFINITION. The camera-start step of the start-up (17 R442, R443): its beginning, its completion, and the end of the
start-up. -/

namespace Sys2Proof.Machine

/-- Block codes of camera port c and pipe p (01 Table 1.8) among the units kept out since the start-up (17 R445). -/
def camOut (c : Nat) (s : State) : Bool := s.st.blocksOut.contains c
def pipeOut (p : Nat) (s : State) : Bool := s.st.blocksOut.contains (0x18 + p)

/-- A camera port begins to train its link, unless it is kept out. -/
def trainCamera (c : Nat) (s : State) : State :=
  if camOut c s || decide ((s.cam c).st ≠ .disabled) then s else setCamState c .training (s.modCam c fun p => { p with gear := 0 })

/-- A pipe begins to train, unless it is kept out. -/
def trainPipe (p : Nat) (s : State) : State := if pipeOut p s then s else startPipe p s

/-- Every port whose stored CAM_ENABLE is 1 has locked its link, and every pipe whose stored SO_ENABLE is 1 has
trained (17 R442). Units kept out are not waited for. -/
def allTrained (s : State) : Bool :=
  ((List.range 16).all fun c => camOut c s || decide (reg s (P.camEnable c) = 0) || decide ((s.cam c).gear ≠ 0)) &&
  ((List.range 8).all fun p => pipeOut p s || decide (reg s (P.soEnable p) = 0) || (s.pipe p).trained)

/-- Step 10 completes: EV-100 is raised, the elapsed time recorded, and the collector leaves mode START (17 R441). -/
def endCameraStart (s : State) : State :=
  let s := s.modSt fun x => { x with step := 10 }
  let s := setReg s P.stStartupMs (((s.now - s.startAt) / 100000) % 2 ^ 32)
  let s := raiseEvent 100 1 [s.mram.bootId.toNat, reg s P.stStartupMs] s
  endRecovery s

/-- Step 10 begins (17 R442, R443): ports and pipes held trained by a fast start start, the others train; the enabled ports get
their runs in ascending order (04 R91); it completes at once where nothing is left to train. -/
def beginCameraStart (s : State) : State :=
  let s := s.modSt fun x => { x with step := 9, camStartAt := s.now }
  let s := (List.range 16).foldl (fun s c =>
    if reg s (P.camEnable c) = 1 && !camOut c s then (placeCamera c s).getD s else s) s
  let s := (List.range 16).foldl (fun s c => if (s.cam c).st = .linked then linkedStart c s else trainCamera c s) s
  let s := (List.range 8).foldl (fun s p => if reg s (P.soEnable p) = 1 then trainPipe p s else s) s
  if allTrained s then endCameraStart s else s

/-- CAMERA_START_DONE (17 R442): all have trained, or 500 ms have passed since the step began. -/
def cameraStartDone (t : Time) (s : State) : State :=
  let s := advance t s
  if s.st.step = 9 ∧ (allTrained s ∨ s.st.camStartAt + ms 500 ≤ s.now) ∧ s.erg.joinWait = false then endCameraStart s else s

def execCameraStartDone (t : Time) (s : State) : Host.Outcome State Fault Refusal := done (cameraStartDone t s)

end Sys2Proof.Machine
end

