-- ==== Sys2Proof/Machine/Erg.lean ====
section
/-! DEFINITION. The Erg Link (chapter 13): the schedule and the remote-signal map, cycles, states, X bits and angles, what
the module sends, and the host commands of the link. Times of the link are in ns. -/

namespace Sys2Proof.Machine

/-! ### The schedule (13 R355, R356) -/

abbrev slotSync : Nat := 0
abbrev slotData : Nat := 1
abbrev slotClaim : Nat := 3
abbrev slotService : Nat := 4
abbrev slotSpare : Nat := 5

def schedRate (sc : Bytes) : Nat := u32 sc 8
def schedSpan (sc : Bytes) : Nat := u8 sc 0x0C
def schedRing (sc : Bytes) : Bool := bitAt (u8 sc 0x0D) 0
def schedStandby (sc : Bytes) : Nat := u8 sc 0x0E

/-- Occupancy of a slot in units of 10 ns (13 R356). -/
def slotOccupancy (sc : Bytes) (n : Nat) : Nat := (24 + slotLength sc n) * 8 + 128 * schedSpan sc + 200

/-- The slots of a type. -/
def slotsOf (sc : Bytes) (ty : Nat) : List Nat := (List.range (schedSlots sc)).filter fun n => slotType sc n = ty

/-- The fields of one slot lie in their ranges (13 Table 13.2). -/
def slotFieldsOk (sc : Bytes) (n : Nat) : Bool :=
  let ty := slotType sc n
  let ow := slotOwner sc n
  decide (ty = 0 ∨ ty = 1 ∨ ty = 3 ∨ ty = 4 ∨ ty = 5) && decide (slotLength sc n ≤ 1024) &&
    (if ty = slotClaim then decide (ow = 255) else decide (ow ≤ 63) || (decide (ty = slotSpare) && decide (ow = 255)))

/-- A schedule passes the checks after SCRC (13 R356). -/
def schedOk (sc : Bytes) : Bool :=
  let n := schedSlots sc
  let owners (ty : Nat) := (slotsOf sc ty).map (slotOwner sc)
  let last := n - 1
  decide (1 ≤ n ∧ n ≤ 1024 ∧ sc.length = 32 + 8 * n ∧ u16 sc 0 = 1) &&
  decide (30000 ≤ schedRate sc ∧ schedRate sc ≤ 120000 ∧ 1 ≤ schedSpan sc ∧ schedSpan sc ≤ 63 ∧ u8 sc 0x0D ≤ 1) &&
  (decide (schedStandby sc = 255) || decide (1 ≤ schedStandby sc ∧ schedStandby sc ≤ 63)) && allZero (sub sc 0x0F 17) &&
  (List.range n).all (slotFieldsOk sc) &&
  decide (slotType sc 0 = slotSync ∧ slotOwner sc 0 = 0 ∧ slotStart sc 0 = 0 ∧ slotLength sc 0 = 64 ∧ (slotsOf sc slotSync).length = 1) &&
  decide ((slotsOf sc slotClaim).length ≤ 1 ∧ (slotsOf sc slotSpare).length ≤ 8) &&
  (slotsOf sc slotClaim).all (fun k => slotLength sc k = 16) &&
  (decide ((slotsOf sc slotSpare).length = 0) || decide ((slotsOf sc slotClaim).length = 1)) &&
  decide (owners slotService).Nodup && (decide ((owners slotService).length = 0) || (owners slotService).contains 0) &&
  (List.range last).all (fun k => decide (slotStart sc k + slotOccupancy sc k ≤ slotStart sc (k + 1))) &&
  decide ((slotStart sc last + slotOccupancy sc last + 1000) * schedRate sc ≤ 100000000000)

/-- The stored schedule (13 R356). -/
def storedSched (s : State) : Bytes := obj s kSched 0

/-- ERG_SCHED_LOAD (13 R356). -/
def ergSchedObj (ix : Nat) (sc : Bytes) (s : State) : Answer :=
  if ix ≠ 0 ∨ sc.length < 32 then reject Status.badParam s
  else if !crcEmbeddedOk sc 4 then reject Status.checkFail s
  else if !schedOk sc then reject Status.badParam s
  else if s.erg.st = .running ∨ s.erg.st = .leading then reject Status.wrongState s
  else (Status.ok, [], storeObj kSched 0 sc s)

def execErgSchedLoad (h : Hdr) (part : BulkPart) (s : State) : Host.Outcome State Fault Refusal :=
  done (serve h 0x0701 (bulkBytes part) (.ergSchedLoad h part) (bulk 0x0701 part ergSchedObj) s)

/-! ### The remote-signal map (13 R373, R374) -/

def mapTxY (m : Bytes) (y : Nat) : Nat := u32 m (0x10 + 4 * y)
def mapRxX (m : Bytes) (x : Nat) : Nat := u32 m (0x2010 + 4 * x)
def mapTxAngle (m : Bytes) (a : Nat) : Nat := u32 m (0x4010 + 4 * a)
def mapRxAngle (m : Bytes) (n : Nat) : Nat := u32 m (0x4020 + 4 * n)

/-- An entry is used, its slot, its pair and its word (13 Table 13.6). -/
def entUsed (e : Nat) : Bool := bitAt e 31
def entSlot (e : Nat) : Nat := fld e 9 0
def entPair (e : Nat) : Nat := fld e 21 10
def entWord (e : Nat) : Nat := fld e 17 10

/-- The stale limit of a code (13 R376). -/
def staleLimit (code : Nat) : Nat := if code = 0 then 2 else code

/-- Used entries of a kind that name a slot, by index. -/
def entriesOf (n : Nat) (get : Nat → Nat) (slot : Nat) : List Nat :=
  (List.range n).filter fun i => entUsed (get i) && decide (entSlot (get i) = slot)

/-- A slot carries remote signals in a schedule. -/
def carriesSignals (sc : Bytes) (n : Nat) : Bool :=
  decide (n < schedSlots sc) && decide (slotType sc n = slotData ∨ slotType sc n = slotSpare)

/-- A used entry fits a schedule: a TX slot belongs to the device, or is one it may claim (13 R374). -/
def txFits (sc : Bytes) (dev e : Nat) (endBit : Nat) : Bool :=
  !entUsed e || (carriesSignals sc (entSlot e) && decide (slotOwner sc (entSlot e) = dev ∧ endBit ≤ 8 * slotLength sc (entSlot e)))
def rxFits (sc : Bytes) (e : Nat) (endBit : Nat) : Bool :=
  !entUsed e || (carriesSignals sc (entSlot e) && decide (slotOwner sc (entSlot e) ≠ 255 ∧ endBit ≤ 8 * slotLength sc (entSlot e)))

/-- The payload bits that the TX entries of a map cover: slot, first bit, number. -/
def txRuns (m : Bytes) : List (Nat × Nat × Nat) :=
  (((List.range 2048).map (mapTxY m)).filter entUsed).map (fun e => (entSlot e, 2 * entPair e, 2)) ++
  (((List.range 4).map (mapTxAngle m)).filter entUsed).map (fun e => (entSlot e, 32 * entWord e, 32))

/-- No two runs of a list overlap. -/
def apart : List (Nat × Nat × Nat) → Bool
  | [] => true
  | (k, b, n) :: r => r.all (fun (k', b', n') => decide (k ≠ k') || !overlap b n b' n') && apart r

/-- The fields of a map lie in their ranges (13 Table 13.6, R376). -/
def mapFieldsOk (m : Bytes) : Bool :=
  decide (m.length = 16480 ∧ u16 m 0 = 1 ∧ u16 m 2 = 0) && allZero (sub m 8 8) &&
  (List.range 2048).all (fun y => decide (fld (mapTxY m y) 30 22 = 0)) &&
  (List.range 2048).all (fun x => let e := mapRxX m x; decide (fld e 30 27 = 0) && (!entUsed e || decide (fld e 26 23 ≤ 8))) &&
  (List.range 4).all (fun a => let e := mapTxAngle m a; decide (fld e 30 23 = 0) && (!entUsed e || decide (fld e 22 18 ≤ 5))) &&
  (List.range 16).all (fun n => let e := mapRxAngle m n; decide (fld e 30 22 = 0) && (!entUsed e || decide (fld e 21 18 ≤ 8)))

/-- A map fits a schedule for a device (13 R374); no map fits every schedule. -/
def mapFits (sc : Bytes) (dev : Nat) (m : Bytes) : Bool :=
  m.isEmpty ||
  ((List.range 2048).all (fun y => let e := mapTxY m y; txFits sc dev e (2 * entPair e + 2)) &&
   (List.range 2048).all (fun x => let e := mapRxX m x; rxFits sc e (2 * entPair e + 2)) &&
   (List.range 4).all (fun a => let e := mapTxAngle m a; txFits sc dev e (32 * entWord e + 32)) &&
   (List.range 16).all (fun n => let e := mapRxAngle m n; rxFits sc e (32 * entWord e + 32)) && apart (txRuns m))

/-- A voted trio is in RUN or DEBUG. -/
def votedActive (s : State) : Bool :=
  (List.range 8).any fun t => decide ((s.unit (4 * t)).st = .run ∨ (s.unit (4 * t)).st = .debug)

/-- The schedule a map is judged by at a load: the one in force, else the stored one. -/
def judgeSched (s : State) : Bytes := if s.erg.sched.isEmpty then storedSched s else s.erg.sched

/-- ERG_MAP_LOAD (13 R374). -/
def ergMapObj (ix : Nat) (m : Bytes) (s : State) : Answer :=
  if ix ≠ 0 ∨ m.length ≠ 16480 then reject Status.badParam s
  else if !crcEmbeddedOk m 4 then reject Status.checkFail s
  else if !mapFieldsOk m || !mapFits (judgeSched s) (deviceNo s) m then reject Status.badParam s
  else if votedActive s then reject Status.wrongState s
  else (Status.ok, [], recheck ((storeObj kMap 0 m s).modErg fun e => { e with map := m, mapBad := false }))

def execErgMapLoad (h : Hdr) (part : BulkPart) (s : State) : Host.Outcome State Fault Refusal :=
  done (serve h 0x0702 (bulkBytes part) (.ergMapLoad h part) (bulk 0x0702 part ergMapObj) s)

/-! ### Time in the Caravan (13 R357 to R359) -/

/-- The ratio of the lead's cycle period to the local one, as numerator and denominator (13 R358). -/
def ergRatio (s : State) : Int × Int :=
  if s.erg.st = .leading ∨ s.erg.periods.isEmpty then (1, 1)
  else (s.erg.periods.foldl (· + ·) 0 * schedRate s.erg.sched, (s.erg.periods.length : Int) * 1000000000000)

/-- The period of a cycle in ns: measured, else nominal. -/
def cyclePeriod (s : State) : Int :=
  let rate : Int := if schedRate s.erg.sched = 0 then s.tick.rate else schedRate s.erg.sched
  let (n, d) := ergRatio s
  1000000000000 * n / (d * (if rate = 0 then 1 else rate))

/-- A stamp lies strictly within 0.5 µs of a lead time of the cycle that starts at `base` (13 R359). -/
def inErgWindow (base stamp : Int) (tau : Int) (s : State) : Bool :=
  let (n, d) := ergRatio s
  let e := (stamp - base) * d - tau * n
  decide (-500 * n < e ∧ e < 500 * n)

/-- The local time of a lead time of the cycle that starts at `base`, in ns (13 R358). -/
def localNs (base tau : Int) (s : State) : Int :=
  let (n, d) := ergRatio s
  base + tau * n / d

/-- The module's estimate of the START of a slot, in ns of its own time, and the guardian's (13 R358, R361). -/
def startNs (slot : Nat) (s : State) : Int := localNs s.erg.cycleNs (10 * slotStart s.erg.sched slot) s
def guardStart (slot : Nat) (s : State) : Int := localNs s.erg.guardNs (10 * slotStart s.erg.sched slot) s

/-- The present edge is that of a time in ns, to the step of the clock. -/
def atEdgeOf (ns : Int) (s : State) : Bool := decide (ns - 10 < 10 * (s.now : Int) ∧ 10 * (s.now : Int) < ns + 10)

/-- Frame time of a slot in ns, and of the frame it carries (13 R353). -/
def slotNs (slot : Nat) (s : State) : Int := (24 + (slotLength s.erg.sched slot : Int)) * 80

/-! ### Locations and grants -/

def locPort (portB : Bool) (s : State) : BitVec 64 := locBlock s dieSoc (if portB then 0x59 else 0x58)
def locErg (s : State) : BitVec 64 := locBlock s dieSoc 0x5A

def ergPort (portB : Bool) (s : State) : ErgPort := if portB then s.erg.portB else s.erg.portA
def modPort (portB : Bool) (f : ErgPort → ErgPort) (s : State) : State :=
  s.modErg fun e => if portB then { e with portB := f e.portB } else { e with portA := f e.portA }

/-- A port carries frames (13 R349). -/
def portUsable (p : ErgPort) : Bool := p.up && !p.fault

/-- No grant in an entry (13 Table 13.5). -/
abbrev noGrant : Nat × Nat := (0xFFFF, 0xFF)

/-- The device a grant list gives a slot. -/
def grantedTo (g : Table (Nat × Nat)) (slot : Nat) : Option Nat :=
  (List.range 8).findSome? fun i => let e := tget noGrant g i; if e.1 = slot then some e.2 else none

/-- Grants in the payload of a sync, and the payload of a list. -/
def readGrants (p : Bytes) : Table (Nat × Nat) :=
  (List.range 8).foldl (fun t i => tset noGrant t i (beAt 2 p (0x14 + 4 * i), u8 p (0x16 + 4 * i))) []
def grantBytes (g : Table (Nat × Nat)) : Bytes :=
  (List.range 8).flatMap fun i => let e := tget noGrant g i; be 2 e.1 ++ [b8 e.2, 0]

/-! ### X bits and angles (13 R375, R376) -/

/-- The X values and qualities written to the per-core registers of every trio (13 R376, 09 R236). -/
def publishX (s : State) : State :=
  { s with cores := (List.range 24).foldl (fun t c => tmod {} t c fun x => takeInputs s.now x.inI s.erg.x s.erg.xq x) s.cores }

/-- X bits and RX angle channels that a slot carries. -/
def slotX (slot : Nat) (s : State) : List Nat := if s.erg.map.isEmpty then [] else entriesOf 2048 (mapRxX s.erg.map) slot
def slotAngles (slot : Nat) (s : State) : List Nat := if s.erg.map.isEmpty then [] else entriesOf 16 (mapRxAngle s.erg.map) slot

/-- A bit of a payload (13 R375). -/
def payBit (p : Bytes) (b : Nat) : Bool := bitAt (u8 p (b / 8)) (b % 8)

/-- A missed update of an X bit, and of an angle channel. -/
def missX (x : Nat) (e : ErgSt) : ErgSt := { e with xMiss := tmod 0 e.xMiss x (· + 1) }
def missAngle (n : Nat) (e : ErgSt) : ErgSt := { e with angles := tmod {} e.angles n fun a => { a with miss := a.miss + 1 } }

/-- Every signal mapped to a slot misses an update (13 R372, R376). -/
def missSlot (slot : Nat) (s : State) : State :=
  let xs := slotX slot s
  let as := slotAngles slot s
  s.modErg fun e => as.foldl (fun e n => missAngle n e) (xs.foldl (fun e x => missX x e) e)

/-- A delivered X bit: with quality 1 written with XQ 1, with quality 0 a missed update. -/
def deliverX (p : Bytes) (x : Nat) (e : ErgSt) : ErgSt :=
  let b := 2 * entPair (mapRxX e.map x)
  if payBit p (b + 1) then
    { e with x := setBv e.x x (payBit p b), xq := setBv e.xq x true, xMiss := tset 0 e.xMiss x 0 }
  else missX x e

/-- A delivered angle word (06 R156). -/
def deliverAngle (p : Bytes) (n : Nat) (e : ErgSt) : ErgSt :=
  let w := beAt 4 p (4 * entWord (mapRxAngle e.map n))
  { e with angles := tset {} e.angles n { value := signed 16 (fld w 15 0), seq := fld w 23 16, valid := bitAt w 24, quality := true, miss := 0 } }

/-- What a slot has brought reaches the trios, and the tracks that follow its angles (06 R156, R158). -/
def publishRemote (slot : Nat) (s : State) : State :=
  let s := publishX s
  if (slotAngles slot s).isEmpty then s else remeasure s

/-- The payload of a DATA frame delivered. -/
def deliver (slot : Nat) (p : Bytes) (s : State) : State :=
  let xs := slotX slot s
  let as := slotAngles slot s
  publishRemote slot (s.modErg fun e => as.foldl (fun e n => deliverAngle p n e) (xs.foldl (fun e x => deliverX p x e) e))

/-- X_STALE (13 R376): the substitutes of the signals of a slot whose stale limit has been reached. -/
def xStale (t : Time) (slot : Nat) (s : State) : State :=
  let s := advance t s
  let xs := (slotX slot s).filter fun x => decide (staleLimit (fld (mapRxX s.erg.map x) 26 23) ≤ tget 0 s.erg.xMiss x)
  let as := (slotAngles slot s).filter fun n => decide (staleLimit (fld (mapRxAngle s.erg.map n) 21 18) ≤ (tget {} s.erg.angles n).miss)
  publishRemote slot (s.modErg fun e =>
    as.foldl (fun e n => { e with angles := tmod {} e.angles n fun a => { a with quality := false } })
      (xs.foldl (fun e x => { e with x := setBv e.x x (bitAt (mapRxX e.map x) 22), xq := setBv e.xq x false }) e))

def execXStale (t : Time) (slot : Nat) (s : State) : Host.Outcome State Fault Refusal := done (xStale t slot s)

/-- X bits with XQ = 0 now, among the mapped ones (ERG_X_STALE). -/
def ergXStaleCount (s : State) : Nat :=
  if s.erg.map.isEmpty then 0
  else ((List.range 2048).filter fun x => entUsed (mapRxX s.erg.map x) && !s.erg.xq.getLsbD x).length

/-! ### Cycles and states -/

/-- A port's counts of cycles move on: without a valid frame (13 R377), since its delay was measured (R351), without a sync; after
three such the distance by the port is not known (DESIGN CHOICE, log 213). -/
def idlePort (p : ErgPort) : ErgPort := { p with
  idle := if p.heard then 0 else p.idle + 1, heard := false, echoAge := min 1024 (p.echoAge + 1), syncAge := min 3 (p.syncAge + 1),
  hops := if 2 ≤ p.syncAge then 63 else p.hops }

/-- No distance to the lead by either port: it is not known while no sync comes (13 Table 13.9). -/
def noDistance (e : ErgSt) : ErgSt := { e with portA := { e.portA with hops := 63 }, portB := { e.portB with hops := 63 } }

/-- A cycle begins: what belongs to one cycle starts anew (13 R361, R370, R371, R377). -/
def beginCycle (c : Word) (startNs : Int) (s : State) : State :=
  s.modErg fun e =>
    let lead := decide (e.st = .leading)
    let granted := (List.range 8).map fun i => (tget noGrant e.grants i).1
    let idle := if lead then granted.foldl (fun t k =>
      if k = 0xFFFF then t else if (tget none e.accepted k).isSome then tset 0 t k 0 else tmod 0 t k (· + 1)) e.grantIdle else e.grantIdle
    { e with
      members := e.heard
      heard := 0
      portA := idlePort e.portA
      portB := idlePort e.portB
      grantIdle := idle
      grantsOld := e.grants
      grants := if lead then e.grantsNext else e.grants
      accepted := []
      missed := []
      undo := none
      syncUndo := none
      capture := []
      sentFcs := []
      onWire := []
      angleSeq := e.angleSeq + 1
      cutRun := if e.cutNow then e.cutRun + 1 else 0
      cutNow := false
      claimWait := e.claimWait - 1
      cycle := c
      cycleNs := startNs
      guardNs := startNs }

/-- The unit enters LISTEN (13 Table 13.4, R363); a map that does not fit the schedule raises the mismatch fault there. -/
def enterListen (s : State) : State :=
  let s := setErgState .listen s
  let bad := s.erg.mapBad
  let s := s.modErg fun e => { e with
    syncRun := 0, prevSync := none, syncMiss := 0, acting := false, yielding := false, leadNext := false, mismatch := bad,
    silentCause := 0, silentLeft := 0, periods := [], standbyLeads := false }
  let s := s.modErg noDistance
  if bad then detect 57 (locErg s) s else settle 57 s

/-- The unit leads from now on (13 R357, R364, R366): cycle and lead time 0 are those of its own tick edge. -/
def enterLeading (c : Word) (s : State) : State :=
  let s := setErgState .leading s
  beginCycle c (10 * (s.tick.lastEdge : Int)) (s.modErg fun e => noDistance { e with
    leadNext := false, silentCause := 0, silentLeft := 0, syncMiss := 0, leadSerial := s.upd.serial, standbyLeads := false })

/-- The unit goes silent for a cause, for 8 cycles of its own tick (13 R366, R367). -/
def enterSilent (cause fs : Nat) (s : State) : State :=
  let s := setErgState .silent s
  detect fs (locErg s) (s.modErg fun e => noDistance { e with
    silentCause := cause, silentLeft := 8, acting := false, yielding := false, leadNext := false, standbyLeads := false })

/-- The unit enters HOLDOVER (13 R365): transmission stops, the tick of an Erg source runs in holdover (02 R39), the loss is
counted and raised. -/
def enterErgHoldover (s : State) : State :=
  let s := setErgState .holdover s
  let s := satField s P.ergSyncMiss 15 0 1
  let s := if s.tick.source = 2 then enterHoldover s else s
  detect 58 (locErg s) (s.modErg fun e => noDistance { e with
    syncRun := 0, prevSync := none, syncMiss := 0, acting := false, standbyLeads := false })

/-- The effects of a join (13 R364, R374): the stored schedule comes into force, the map is checked against it, and the unit
starts by its role. A lead without a schedule, or whose map does not fit, stays in LISTEN. -/
def joinErg (s : State) : State :=
  let sc := storedSched s
  let s := s.modErg fun e => { e with
    sched := sc, mapBad := !mapFits sc e.device e.map, grants := [], grantsOld := [], grantsNext := [],
    portA := { e.portA with dist := [] }, portB := { e.portB with dist := [] } }
  let s := enterListen s
  if s.erg.role = 1 ∧ sc ≠ [] ∧ s.erg.mapBad = false then s.modErg fun e => { e with leadNext := true } else s

/-- ERG_JOIN (14 Table 14.10). -/
def ergJoinBody (s : State) : Answer :=
  if s.erg.st = .listen ∨ s.erg.st = .silent ∨ s.erg.st = .holdover then
    let s := joinErg s
    (Status.ok, [b8 (ergCode s.erg.st)], s)
  else reject Status.wrongState s

def execErgJoin (h : Hdr) (s : State) : Host.Outcome State Fault Refusal := done (serve h 0x0703 [] (.ergJoin h) ergJoinBody s)

/-- ERG_LEAVE (14 Table 14.10, 13 R356). -/
def ergLeaveBody (s : State) : Answer :=
  if s.erg.st = .running ∨ s.erg.st = .leading then (Status.ok, [], enterListen s) else reject Status.wrongState s

def execErgLeave (h : Hdr) (s : State) : Host.Outcome State Fault Refusal := done (serve h 0x0704 [] (.ergLeave h) ergLeaveBody s)

/-! ### What the module sends (13 R361, R370, R372, R375) -/

/-- The covered bytes of a frame, with HOPS as zero (13 R353, R354). -/
def ergBytes (f : ErgFrame) : Bytes :=
  [f.ftype, f.sender] ++ be 2 f.slot.toNat ++ be 4 f.cycle.toNat ++ [0, f.rsvd] ++ be 2 f.payload.length ++ f.payload

/-- The FCS of a frame under the tag of a slot and a cycle. -/
def ergFcs (slot cycle : Nat) (f : ErgFrame) : Word := w32 (crcErg (ergBytes f) slot cycle)

/-- A frame of the module in the cycle in progress. -/
def ownFrame (ty slot : Nat) (payload : Bytes) (s : State) : ErgFrame :=
  let f : ErgFrame := {
    ftype := b8 ty, sender := b8 s.erg.device, slot := BitVec.ofNat 16 slot, cycle := s.erg.cycle, hops := 0,
    payload := payload, fcs := 0 }
  { f with fcs := ergFcs slot s.erg.cycle.toNat f }

/-- Time of a frame on the wire in ns (13 R353). -/
def frameNs (f : ErgFrame) : Int := (24 + (f.payload.length : Int)) * 80

/-- A frame still leaving a port when a frame of the module begins is cut (13 R361). -/
def cutLeaving (nowNs : Int) (x : ErgTx) : ErgTx := { x with cut := x.cut || decide (nowNs < x.endNs) }

/-- A frame leaves by both ports that carry frames (13 R350); a forwarded one still leaving is cut. -/
def sendFrame (f : ErgFrame) (s : State) : State :=
  let at0 : Int := 10 * (s.now : Int)
  (useChannel 0x5A 2 1 s).modErg fun e => { e with
    tx := { onA := portUsable e.portA, onB := portUsable e.portB, frame := f, endNs := at0 + frameNs f } ::
      e.tx.map (cutLeaving at0),
    sentFcs := tset none e.sentFcs f.slot.toNat (some (f.fcs, f.cycle)),
    onWire := insertNat f.slot.toNat e.onWire }

/-- The unit transmits in its own slots (13 Table 13.4). -/
def transmits (s : State) : Bool := decide (s.erg.st = .running ∨ s.erg.st = .leading)

/-- The payload of a sync frame (13 Table 13.5). -/
def syncPayload (s : State) : Bytes :=
  be 8 s.upd.serial.toNat ++ be 4 (schedRate s.erg.sched) ++ be 4 (u32 s.erg.sched 4) ++ [b8 (b2n s.erg.acting), 0, 0, 0] ++
    grantBytes s.erg.grants ++ zeros 12

/-- The sync frame leaves the lead at lead time 0, its own tick edge (13 R357, R361). -/
def sendSync (s : State) : State := sendFrame (ownFrame 0 0 (syncPayload s) s) s

/-- The unit comes to lead: it sends the sync where this is its tick edge, and otherwise from the next one on (13 R364, R366). -/
def leadFrom (c : Word) (s : State) : State :=
  let s := enterLeading c s
  if s.now = s.tick.lastEdge then sendSync s else s

/-- The Erg Link at a tick edge, after TICK_COUNT has moved on: a lead or an acting standby begins its cycle and sends the sync, a
module on its own tick counts on (13 R357, R364, R366, R369). -/
def ergTickEdge (s : State) : State :=
  let at0 : Int := 10 * (s.now : Int)
  match s.erg.st with
  | .off | .syncing | .running => if s.erg.leadNext then leadFrom s.tick.count s else s
  | .listen => if s.erg.leadNext then leadFrom s.tick.count s else beginCycle s.erg.cycle at0 s
  | .silent => beginCycle s.erg.cycle at0 (s.modErg fun e => { e with silentLeft := e.silentLeft - 1 })
  | .holdover => beginCycle (s.erg.cycle + 1) at0 s
  | .leading =>
    if s.erg.yielding then enterListen s
    else sendSync (beginCycle (if s.erg.acting then s.erg.cycle + 1 else s.tick.count) at0 s)

/-- The module owns a slot in the cycle in progress, the sync slot apart: its DATA and SERVICE slots, a SPARE slot granted since
the sync before, and as acting standby the SERVICE slot of device 0 (13 R361, R369, R371). -/
def ownsSlot (slot : Nat) (s : State) : Bool :=
  let sc := s.erg.sched
  let dev := s.erg.device
  let ty := slotType sc slot
  decide (slot < schedSlots sc) &&
  (if ty = slotData then decide (slotOwner sc slot = dev)
   else if ty = slotService then decide (slotOwner sc slot = dev) || (s.erg.acting && decide (slotOwner sc slot = 0))
   else if ty = slotSpare then decide (grantedTo s.erg.grants slot = some dev ∧ grantedTo s.erg.grantsOld slot = some dev)
   else false)

/-- The Y bit a slot carries now, and its quality (13 R375, 09 R249, R257). What value goes with quality 0 of an owned bit is
not stated (log 41). -/
def yNow (y : Nat) (s : State) : Bool × Bool :=
  match entryUnit (ownerEntry s.owners 1 y) with
  | none => (false, false)
  | some u => if unitRuns s u then ((s.trio (u / 4)).y.getLsbD y, true) else (Config.freeBit (s.free + y), false)

/-- A bit of a payload set. -/
def setPay (b : Nat) (v : Bool) (p : Bytes) : Bytes :=
  if v then splice p (b / 8) [b8 (setBitN (u8 p (b / 8)) (b % 8) true)] else p

/-- The angle word of a TX entry: the track's latest measurement, the sequence number, VALID (06 R156, R157). -/
def angleWord (track : Nat) (s : State) : Nat :=
  wrapN 16 (latest track s) + s.erg.angleSeq.toNat * 2 ^ 16 + b2n (measure track s).isSome * 2 ^ 24

/-- Y_CAPTURE (13 R375): the payload of an owned DATA slot is captured, once in a cycle, 5 µs before the slot's START. -/
def yCapture (t : Time) (slot : Nat) (s : State) : State :=
  let s := advance t s
  let ty := slotType s.erg.sched slot
  if transmits s && ownsSlot slot s && decide (ty = slotData ∨ ty = slotSpare) && atEdgeOf (startNs slot s - 5000) s &&
      (tget none s.erg.capture slot).isNone then
    let m := s.erg.map
    let ys := if m.isEmpty then [] else entriesOf 2048 (mapTxY m) slot
    let as := if m.isEmpty then [] else entriesOf 4 (mapTxAngle m) slot
    let p := ys.foldl (fun p y =>
      let (v, q) := yNow y s
      let b := 2 * entPair (mapTxY m y)
      setPay (b + 1) q (setPay b v p)) (zeros (slotLength s.erg.sched slot))
    let p := as.foldl (fun p a => splice p (4 * entWord (mapTxAngle m a)) (be 4 (angleWord (fld (mapTxAngle m a) 22 18) s))) p
    { s with free := s.free + 2048 }.modErg fun e => { e with capture := tset none e.capture slot (some p) }
  else s

def execYCapture (t : Time) (slot : Nat) (s : State) : Host.Outcome State Fault Refusal := done (yCapture t slot s)

/-- Bytes that a staged payload takes in Crucible staging. -/
def stagedLength (p : ServicePkt) : Nat := (p.bytes.length + 7) / 8 * 8

/-- The Erg Link unit reads a payload out of staging (01 R17, 04 R99): none where the read returns poison, or where the store that
held it is lost (log 167). -/
def readStaged (p : ServicePkt) (poisoned : Bool) (s : State) : Option Bytes × State :=
  match p.addr with
  | none => (if poisoned then none else some p.bytes, s)
  | some a =>
    let s := touch 0x5A 6 a (stagedLength p) s
    let (bs, bad) := cruRead s a (stagedLength p)
    (if bad || poisoned || !cruOk s then none else some (bs.take p.bytes.length), s)

/-- A forwarded command has left, or its frame has: the wait for its reply begins (13 R379). -/
def markSent (p : Bytes) (s : State) : State :=
  if u8 p 3 ≠ 0 then s
  else s.modHost fun h => { h with
    fwd := modFirst (fun f => !f.sent && fwdIs (w32 (beAt 4 p 4)) (u8 p 0xC) (beAt 2 p 0xE) f)
      (fun f => { f with sent := true, left := reg s P.ergFwdTimeout }) h.fwd }

/-- What leaves in a SERVICE slot: one queued packet, or NULL (13 R372, R378). Nothing is forwarded while the service processor
does not run (01 R19). -/
def dueService (slot : Nat) (poisoned : Bool) (s : State) : ErgFrame × State :=
  match s.erg.serviceOut with
  | [] => (ownFrame 2 slot [] s, s)
  | p :: r =>
    if (s.erg.acting ∧ slotOwner s.erg.sched slot ≠ 0) ∨ s.clk.sp ≠ .running then (ownFrame 2 slot [] s, s)
    else
      let (bs, s) := readStaged p poisoned (s.modErg fun e => { e with serviceOut := r })
      let s := markSent p.bytes s
      match bs with
      | some b => (ownFrame 4 slot (pad (slotLength s.erg.sched slot) b) s, s)
      | none => (ownFrame 2 slot [] s, s)

/-- The frame due in an owned slot: captured data, a SERVICE packet, or NULL (13 R372, R378). The staging of X and Y bits is
the unit's own and is not poisoned (01 R17). -/
def dueFrame (slot : Nat) (poisoned : Bool) (s : State) : ErgFrame × State :=
  if slotType s.erg.sched slot = slotService then dueService slot poisoned s
  else match tget none s.erg.capture slot with
    | none => (ownFrame 2 slot [] s, s)
    | some p => (ownFrame 1 slot p s, s)

/-- The offset of a first bit now from the guardian's START of a slot: by its time base, and by `driftNs`, what the recovered Erg
clock has gained on the module's own since that base was stamped (13 R361, log 214). -/
def guardOffset (slot : Nat) (driftNs : Int) (s : State) : Int := 10 * (s.now : Int) - guardStart slot s + driftNs

/-- SLOT_TRANSMIT (13 R358, R361): a frame the module owns begins at its estimate of START, and the guardian lets it begin only
strictly within 0.25 µs of its own. -/
def slotTransmit (t : Time) (slot : Nat) (offsetNs : Int) (poisoned : Bool) (s : State) : State :=
  let s := advance t s
  if transmits s && ownsSlot slot s && atEdgeOf (startNs slot s) s && !(s.erg.onWire.contains slot) &&
      decide (tget none s.erg.sentFcs slot = none) then
    if -250 < guardOffset slot offsetNs s ∧ guardOffset slot offsetNs s < 250 then
      let (f, s) := dueFrame slot poisoned s
      sendFrame f s
    else
      let s := satField s P.ergGuardCuts 15 0 1
      detect 56 (locErg s) (s.modErg fun e => { e with cutNow := true })
  else s

def execSlotTransmit (t : Time) (slot : Nat) (offsetNs : Int) (stagingPoisoned : Bool) (s : State) :
    Host.Outcome State Fault Refusal := done (slotTransmit t slot offsetNs stagingPoisoned s)

/-- A frame of the module that still leaves in a slot is cut (13 R361). -/
def silence (nowNs : Int) (dev slot : Nat) (x : ErgTx) : ErgTx :=
  { x with cut := x.cut || decide (nowNs < x.endNs ∧ x.frame.sender.toNat = dev ∧ x.frame.slot.toNat = slot) }

/-- GUARDIAN_CUTOFF (13 R361): the transmitter is silent from 0.25 µs after the owned slot's frame time on. -/
def guardianCutoff (t : Time) (slot : Nat) (s : State) : State :=
  let s := advance t s
  if guardStart slot s + slotNs slot s + 250 ≤ 10 * (s.now : Int) then
    s.modErg fun e => { e with
      onWire := e.onWire.filter (· ≠ slot), tx := e.tx.map (silence (10 * (s.now : Int)) e.device slot) }
  else s

def execGuardianCutoff (t : Time) (slot : Nat) (s : State) : Host.Outcome State Fault Refusal := done (guardianCutoff t slot s)

/-- The SPARE slots that name a device. -/
def spareOf (sc : Bytes) (dev : Nat) : List Nat := (slotsOf sc slotSpare).filter fun n => slotOwner sc n = dev

/-- CLAIM_TRANSMIT (13 R370): the owner of a SPARE slot without a grant claims it in the claim slot, after its back-off. -/
def claimTransmit (t : Time) (s : State) : State :=
  let s := advance t s
  let wants := (spareOf s.erg.sched s.erg.device).any fun n => decide (grantedTo s.erg.grants n ≠ some s.erg.device)
  match slotsOf s.erg.sched slotClaim with
  | k :: _ =>
    if s.erg.st = .running ∧ wants ∧ s.erg.claimWait = 0 ∧ s.erg.claimOut = false ∧ tget none s.erg.sentFcs k = none ∧
        atEdgeOf (startNs k s) s then
      let p := be 8 s.upd.serial.toNat ++ [b8 s.erg.device] ++ zeros 7
      sendFrame (ownFrame 3 k p s) (s.modErg fun e => { e with claimOut := true })
    else s
  | [] => s

def execClaimTransmit (t : Time) (s : State) : Host.Outcome State Fault Refusal := done (claimTransmit t s)

/-- GUARDIAN_HOLDOVER (13 R361): a suppression in 3 consecutive cycles. -/
def guardianHoldover (t : Time) (s : State) : State :=
  let s := advance t s
  if transmits s ∧ 3 ≤ s.erg.cutRun + b2n s.erg.cutNow then enterErgHoldover s else s

def execGuardianHoldover (t : Time) (s : State) : Host.Outcome State Fault Refusal := done (guardianHoldover t s)

/-- LEAD_CONFLICT_END (13 R366): after the 8 cycles the lower serial number leads. -/
def leadConflictEnd (t : Time) (s : State) : State :=
  let s := advance t s
  if s.erg.st = .silent ∧ s.erg.silentCause = 1 ∧ s.erg.silentLeft = 0 ∧ s.upd.serial.toNat < s.erg.otherSerial.toNat then
    settle 59 (leadFrom s.tick.count s)
  else s

def execLeadConflictEnd (t : Time) (s : State) : Host.Outcome State Fault Refusal := done (leadConflictEnd t s)

/-- The entries of a grant list that name a slot: index, slot and device. -/
def grantsOf (g : Table (Nat × Nat)) (slot : Nat) : List (Nat × Nat × Nat) :=
  ((List.range 8).filter fun i => (tget noGrant g i).1 = slot).map fun i => (i, tget noGrant g i)

/-- Entries put back into a grant list. -/
def putGrants (g : Table (Nat × Nat)) (l : List (Nat × Nat × Nat)) : Table (Nat × Nat) := l.foldl (fun g x => tset noGrant g x.1 x.2) g

/-- GRANT_WITHDRAW (13 R371): after 256 consecutive cycles in which the lead has accepted no frame in the slot; one accepted on
the edge itself keeps the grant (R381), or brings it back. -/
def grantWithdraw (t : Time) (slot : Nat) (s : State) : State :=
  let s := advance t s
  if s.erg.st = .leading ∧ 256 ≤ tget 0 s.erg.grantIdle slot ∧ tget none s.erg.accepted slot = none then
    let l := grantsOf s.erg.grantsNext slot
    let s := { s with inst := { instant s with withdrawn := l ++ (instant s).withdrawn } }
    s.modErg fun e => { e with
      grantsNext := l.foldl (fun g x => tset noGrant g x.1 noGrant) e.grantsNext,
      grantIdle := tset 0 e.grantIdle slot 0 }
  else s

def execGrantWithdraw (t : Time) (slot : Nat) (s : State) : Host.Outcome State Fault Refusal := done (grantWithdraw t slot s)

/-- RING_OPEN (13 R377): a port of a RING schedule without a valid frame for 16 consecutive cycles. -/
def ringOpen (t : Time) (portB : Bool) (s : State) : State :=
  let s := advance t s
  if s.erg.st ≠ .off ∧ schedRing s.erg.sched ∧ 16 ≤ (ergPort portB s).idle then detect 62 (locPort portB s) s (persists := true) else s

def execRingOpen (t : Time) (portB : Bool) (s : State) : Host.Outcome State Fault Refusal := done (ringOpen t portB s)

/-! ### The ports (13 R349, R351) -/

/-- The port fault by its two causes: raised, or gone once neither port has one. -/
def judgePort (portB : Bool) (s : State) : State :=
  let p := ergPort portB s
  let bad := p.badPeer || decide (100 < p.cableNs)
  let s := modPort portB (fun p => { p with fault := bad }) s
  if bad then (if p.fault then s else detect 55 (locPort portB s) s)
  else if (ergPort (!portB) s).fault then s else settle 55 s

/-- What the latest accepted slot has written is taken back (13 R377, 16 R440). -/
def undoSlot (slot : Nat) (s : State) : State :=
  match s.erg.undo with
  | some u =>
    if u.slot = slot then
      publishRemote slot (s.modErg fun e => { e with
        x := u.x, xq := u.xq, xMiss := u.xMiss, angles := u.angles, heard := u.heard, grantsNext := u.grantsNext,
        grantIdle := u.grantIdle, undo := none, heldService := none })
    else s
  | none => s

/-- What the latest accepted sync has brought is taken back: the cycle goes on by the module's own estimate, and a count of
consistent syncs starts again (13 R363, R365, R377). -/
def undoSync (s : State) : State :=
  match s.erg.syncUndo with
  | some u => s.modErg fun e => { e with
      cycle := u.cycle, cycleNs := u.cycleNs, heard := u.heard, grants := u.grants, grantsNext := u.grantsNext,
      leadSerial := u.leadSerial, standbyLeads := u.standbyLeads, periods := u.periods, syncMiss := u.syncMiss,
      claimWait := u.claimWait, claimOut := u.claimOut, prevSync := none, syncRun := 0, syncUndo := none,
      accepted := tset none e.accepted 0 none }
  | none => s

/-- A frame accepted at the very edge on which its port loses the link is a mismatch: it is counted as invalid, and what it brought
is taken back (16 R439, R440); a forwarded command that it carried has begun (log 215). -/
def spoilFrame (portB : Bool) (s : State) : State :=
  match (instant s).ergRx with
  | some (b, slot) =>
    if b = portB then
      let s := { s with inst := { instant s with ergRx := none } }
      let s := countReg s P.ergCrcErr
      if slot = 0 then undoSync s
      else (undoSlot slot s).modErg fun e => { e with accepted := tset none e.accepted slot none }
    else s
  | none => s

/-- ERG_PORT_LINK (13 R349): a link that comes up is measured anew (R351); one that goes spoils the frame that ends on its edge. -/
def ergPortLink (t : Time) (portB up badPeer : Bool) (s : State) : State :=
  let s := advance t s
  if s.st.inReset ∨ s.erg.st = .off then s
  else
    let s := if up then s
      else spoilFrame portB { s with inst := { instant s with ergDown := portB :: (instant s).ergDown } }
    judgePort portB (modPort portB (fun p => { p with
      up := up, badPeer := up && badPeer, heard := up && p.heard, echoed := up && p.up && p.echoed,
      hops := if up then p.hops else 63, dist := if up then p.dist else [] }) s)

def execErgPortLink (t : Time) (portB up badPeer : Bool) (s : State) : Host.Outcome State Fault Refusal :=
  done (ergPortLink t portB up badPeer s)

/-- The cable delay of a port is due to be measured: at link-up, and once in every 1,024 cycles (13 R351). -/
def echoDue (p : ErgPort) : Bool := p.up && (!p.echoed || decide (1024 ≤ p.echoAge))

/-- ERG_CABLE_MEASURE (13 R351, R349). -/
def ergCableMeasure (t : Time) (portB : Bool) (delayNs : Nat) (s : State) : State :=
  let s := advance t s
  if echoDue (ergPort portB s) then
    judgePort portB (modPort portB (fun p => { p with cableNs := delayNs, echoed := true, echoAge := 0 }) s)
  else s

def execErgCableMeasure (t : Time) (portB : Bool) (delayNs : Nat) (s : State) : Host.Outcome State Fault Refusal :=
  done (ergCableMeasure t portB delayNs s)

end Sys2Proof.Machine
end

