-- ==== Sys2Proof/Machine/ErgRx.lean ====
section
/-! DEFINITION. Reception on the Erg Link (chapter 13): forwarding, validity and windows, sync and joining, missed slots,
holdover and takeover, claims, and forwarded commands with their replies and events. -/

namespace Sys2Proof.Machine

/-! ### Forwarding (13 R351) -/

/-- A frame received on one port leaves by the other, from its stamp on, with HOPS counted up, except at the span, from the
module itself, with the other port down, or in OFF. -/
def forwardFrame (portB : Bool) (stamp : Int) (f : ErgFrame) (s : State) : State :=
  if s.erg.st = .off ∨ f.hops.toNat + 1 = schedSpan s.erg.sched ∨ f.sender.toNat = s.erg.device ∨
      portUsable (ergPort (!portB) s) = false then s
  else s.modErg fun e => { e with
    tx := { onA := portB, onB := !portB, frame := { f with hops := f.hops + 1 }, endNs := stamp + frameNs f } :: e.tx }

/-! ### Validity (13 R354) -/

/-- The reserved fields of a frame's header are zero. -/
def headerOk (f : ErgFrame) : Bool := decide (f.rsvd = 0 ∧ f.sender.toNat < 64 ∧ f.slot.toNat < 1024)

/-- The reserved fields of a sync payload are zero (13 Table 13.5). -/
def syncRsvdOk (p : Bytes) : Bool :=
  decide (u8 p 0x10 ≤ 1) && allZero (sub p 0x11 3) && allZero (sub p 0x34 12) &&
    (List.range 8).all fun g => decide (u8 p (0x17 + 4 * g) = 0)

def syncSerial (p : Bytes) : BitVec 64 := BitVec.ofNat 64 (beAt 8 p 0)
def syncTakeover (p : Bytes) : Bool := bitAt (u8 p 0x10) 0

/-- A SYNC frame is valid: its tag is that of its own header. -/
def syncValid (f : ErgFrame) (s : State) : Bool :=
  headerOk f && decide (f.slot = 0 ∧ f.payload.length = 64) && syncRsvdOk f.payload &&
    decide (f.fcs = ergFcs 0 f.cycle.toNat f) &&
    (decide (f.sender.toNat = 0) || (syncTakeover f.payload && decide (f.sender.toNat = schedStandby s.erg.sched)))

/-- How far a stamp lies from the expected stamp of a slot, scaled by the ratio's denominator (13 R359). -/
def slotGap (stamp : Int) (hops slot : Nat) (s : State) : Nat :=
  let (n, d) := ergRatio s
  ((stamp - s.erg.cycleNs) * d - (10 * (slotStart s.erg.sched slot : Int) + ((hops : Int) + 1) * 1280) * n).natAbs

/-- The slot that a receiver expects at a stamp: the one whose expected stamp lies nearest (13 R354; DEDUCED, log 216). -/
def expectedSlot (stamp : Int) (hops : Nat) (s : State) : Nat :=
  (List.range (schedSlots s.erg.sched)).foldl (fun b k => if slotGap stamp hops k s < slotGap stamp hops b s then k else b) 0

/-- The schedule entry of a slot permits the type and the sender of a frame; the standby stands for the owner of device 0's SERVICE
slot while it leads (13 R354, R369; DEDUCED, log 217). -/
def entryPermits (ty sender slot : Nat) (s : State) : Bool :=
  let sc := s.erg.sched
  let st := slotType sc slot
  if st = slotData then decide (ty = 1 ∨ ty = 2) && decide (sender = slotOwner sc slot)
  else if st = slotSpare then decide (ty = 1 ∨ ty = 2) && decide (grantedTo s.erg.grants slot = some sender)
  else if st = slotService then
    decide (ty = 4 ∨ ty = 2) && (decide (sender = slotOwner sc slot) ||
      (s.erg.standbyLeads && decide (slotOwner sc slot = 0 ∧ sender = schedStandby sc)))
  else if st = slotClaim then decide (ty = 3)
  else false

/-- A frame of another type is valid in the slot and the cycle that the receiver expects. -/
def frameValid (k : Nat) (f : ErgFrame) (s : State) : Bool :=
  let len := f.payload.length
  headerOk f && decide (k < schedSlots s.erg.sched) && entryPermits f.ftype.toNat f.sender.toNat k s &&
    decide (f.fcs = ergFcs k s.erg.cycle.toNat f) &&
    (if f.ftype = 2 then decide (len = 0) else decide (len = slotLength s.erg.sched k)) &&
    (decide (f.ftype ≠ 3) || allZero (sub f.payload 9 7))

/-! ### What reception shares -/

/-- A valid frame came in on a port (13 R377). -/
def hearPort (portB : Bool) (s : State) : State :=
  let s := modPort portB (fun p => { p with heard := true }) s
  if (ergPort (!portB) s).idle < 16 then causeGone 62 s else s

/-- A frame of a device has been accepted (ERG_MEMBERS). -/
def hearDevice (d : Nat) (s : State) : State := s.modErg fun e => { e with heard := setBv e.heard d true }

/-- The frame is the module's own, back around a ring (13 R367). -/
def isOwn (k : Nat) (f : ErgFrame) (s : State) : Bool := decide (tget none s.erg.sentFcs k = some (f.fcs, f.cycle))

/-- A valid frame with the module's own device number: its own is dropped, another's is a duplicate (13 R367). -/
def ownSender (k : Nat) (f : ErgFrame) (s : State) : State := if isOwn k f s then s else enterSilent 2 60 s

/-- The distance to a device by a port, from the HOPS of its latest frame. -/
def notePath (portB : Bool) (f : ErgFrame) (s : State) : State :=
  modPort portB (fun p => { p with dist := tset 0 p.dist f.sender.toNat (f.hops.toNat + 1) }) s

/-- The device expected to send in a slot; none where any may. -/
def slotSender (slot : Nat) (s : State) : Option Nat :=
  let sc := s.erg.sched
  let ty := slotType sc slot
  if ty = slotSync then some (if s.erg.standbyLeads then schedStandby sc else 0)
  else if ty = slotSpare then grantedTo s.erg.grants slot
  else if ty = slotClaim then none
  else some (slotOwner sc slot)

/-- The distance a receiver reckons with in a slot: that of the latest frame of its sender, in a ring the larger of the two ways; the
span where it is not known (13 R372; DESIGN CHOICE, log 218). -/
def slotHops (slot : Nat) (s : State) : Nat :=
  let span := schedSpan s.erg.sched
  match slotSender slot s with
  | none => span
  | some d =>
    let way (p : ErgPort) : Nat := tget 0 p.dist d
    let both := max (way s.erg.portA) (way s.erg.portB)
    let awaited (p : ErgPort) : Bool := schedRing s.erg.sched && portUsable p && decide (p.idle < 16) && decide (way p = 0)
    if both = 0 ∨ awaited s.erg.portA ∨ awaited s.erg.portB then span else both

/-- When a slot of the cycle that starts at `base` is decided as missed: frame time and 1.0 µs after its expected stamp, in ns
(13 R372). -/
def missNs (base : Int) (slot : Nat) (s : State) : Int :=
  localNs base (10 * (slotStart s.erg.sched slot : Int) + (slotHops slot s : Int) * 1280) s + slotNs slot s + 1000

/-- A slot is decided as missed (13 R372). -/
def missedSlot (slot : Nat) (s : State) : State :=
  missSlot slot (s.modErg fun e => { e with missed := insertNat slot e.missed })

/-- The two copies of a slot in a ring differ (13 R377): what the first one brought is taken back, and the slot is missed. -/
def ringMismatch (portB : Bool) (slot : Nat) (s : State) : State :=
  let s := satField s P.ergRingMismatch 15 0 1
  missedSlot slot (undoSlot slot (detect 61 (locPort portB s) s))

/-- A grant withdrawn on the edge on which a frame of its slot is accepted stands (13 R381). -/
def keepGrant (slot : Nat) (s : State) : State :=
  s.modErg fun e => { e with grantsNext := putGrants e.grantsNext ((instant s).withdrawn.filter fun x => x.2.1 = slot) }

/-- What stands before a slot is accepted. -/
def undoOf (slot : Nat) (e : ErgSt) : ErgUndo := {
  slot := slot, x := e.x, xq := e.xq, xMiss := e.xMiss, angles := e.angles, heard := e.heard, grantsNext := e.grantsNext,
  grantIdle := e.grantIdle }

/-- A valid frame of its slot in time: the first is taken, in a ring a copy compared (13 R359, R377). `take` is its effect, and
`again` that of an equal copy. -/
def acceptFrame (portB : Bool) (k : Nat) (f : ErgFrame) (take again : State → State) (s : State) : State :=
  if s.erg.missed.contains k then s
  else
    match tget none s.erg.accepted k with
    | some c => if c = f.fcs then again s else if schedRing s.erg.sched then ringMismatch portB k s else s
    | none =>
      let s := keepGrant k s
      let s := s.modErg fun e => { e with accepted := tset none e.accepted k (some f.fcs), undo := some (undoOf k e) }
      take (hearDevice f.sender.toNat { s with inst := { instant s with ergRx := some (portB, k) } })

/-- The unit examines frames other than sync: it has a cycle to judge them by. -/
def examines (s : State) : Bool :=
  decide (s.erg.st = .syncing ∨ s.erg.st = .running ∨ s.erg.st = .leading ∨ s.erg.st = .holdover)

/-- A frame that ends on the very edge on which its port has lost the link is invalid (16 R440). -/
def lostFrame (portB : Bool) (s : State) : State := if (instant s).ergDown.contains portB then countReg s P.ergCrcErr else s

/-- A valid frame that another device has sent: its window, the edge on which its slot is decided as missed, which one that completes
on it does not meet (13 R372, R381), and its effect. -/
def takeFrame (portB : Bool) (stamp : Int) (k : Nat) (f : ErgFrame) (take again : State → State) (s : State) : State :=
  if !inErgWindow s.erg.cycleNs stamp (10 * slotStart s.erg.sched k + (f.hops.toNat + 1) * 1280) s then countReg s P.ergLate
  else
    let s := notePath portB f s
    if missNs s.erg.cycleNs k s ≤ stamp + frameNs f then
      (if (tget none s.erg.accepted k).isSome || s.erg.missed.contains k then s else missedSlot k s)
    else acceptFrame portB k f take again s

/-- Reception of a frame that is not a sync: forwarding, validity, the sender, and its effect, each by the slot expected. A reserved
type is invalid under any row. -/
def rxFrame (t : Time) (portB : Bool) (stamp : Int) (ty : Nat) (f : ErgFrame) (take again : Nat → State → State) (s : State) : State :=
  let s := advance t s
  if s.erg.st = .off ∨ (f.ftype.toNat ≠ ty ∧ f.ftype.toNat < 5) then s
  else if portUsable (ergPort portB s) = false then (if examines s then lostFrame portB s else s)
  else
    let s := forwardFrame portB stamp f s
    if !examines s then s
    else
      let s := useChannel 0x5A 2 2 s
      let k := expectedSlot stamp f.hops.toNat s
      if !frameValid k f s then countReg s P.ergCrcErr
      else
        let s := hearPort portB s
        if f.sender.toNat = s.erg.device then ownSender k f s
        else takeFrame portB stamp k f (take k) (again k) s

/-! ### DATA, NULL, CLAIM -/

/-- A copy that changes nothing. -/
def sameCopy (_ : Nat) (s : State) : State := s

def execDataFrameRx (t : Time) (portB : Bool) (stampNs : Int) (f : ErgFrame) (s : State) : Host.Outcome State Fault Refusal :=
  done (rxFrame t portB stampNs 1 f (deliver · f.payload) sameCopy s)

/-- NULL_FRAME_RX (13 R372): the sender is alive, its signals miss an update. -/
def takeNull (slot : Nat) (s : State) : State := missSlot slot (countReg s P.ergNullRx)

def execNullFrameRx (t : Time) (portB : Bool) (stampNs : Int) (f : ErgFrame) (s : State) : Host.Outcome State Fault Refusal :=
  done (rxFrame t portB stampNs 2 f takeNull sameCopy s)

/-- CLAIM_FRAME_RX (13 R371): the lead grants the lowest SPARE slot that names the claimant and is not yet granted. -/
def takeClaim (p : Bytes) (s : State) : State :=
  if s.erg.st ≠ .leading then s
  else
    let dev := u8 p 8
    let free := (spareOf s.erg.sched dev).find? fun n => (grantedTo s.erg.grantsNext n).isNone
    let ix := (List.range 8).find? fun i => tget noGrant s.erg.grantsNext i = noGrant
    match free, ix with
    | some n, some i => s.modErg fun e => { e with grantsNext := tset noGrant e.grantsNext i (n, dev), grantIdle := tset 0 e.grantIdle n 0 }
    | _, _ => s

def execClaimFrameRx (t : Time) (portB : Bool) (stampNs : Int) (f : ErgFrame) (s : State) : Host.Outcome State Fault Refusal :=
  done (rxFrame t portB stampNs 3 f (fun _ => takeClaim f.payload) sameCopy s)

/-! ### SERVICE (13 R378, R379; 14 R394, R398) -/

/-- A worker takes a forwarded command: PCRC is checked, and the command waits in the queue (14 R390, R398). -/
def takeForwarded (p : Bytes) (s : State) : State :=
  if packetOk p = false ∨ u8 p 3 ≠ 0 then countReg s P.sysHostDrops
  else
    let h := forwardedHdr s.now p
    let op := beAt 2 p 0xE
    if h.target.toNat ≠ s.erg.device ∨ s.clk.sp = .held then s
    else if s.clk.sp = .restarting ∨ queueFull s then answer h op Status.busy [] (countReg s P.sysBusy)
    else enqueue h op (packetParams p) (readCommand h op (packetParams p)) s

/-- The reply of a worker, as the lead passes it on. -/
def workerReply (h : Hdr) (late : Bool) (p : Bytes) : OutPkt :=
  {
    kind := .reply, link := h.link, ip := h.srcIp, port := h.srcPort, late := late, replay := bitAt (u8 p 3) 2,
    hseq := w32 (beAt 4 p 4), dseq := w32 (beAt 4 p 8), target := u8 p 0xC, status := u8 p 0xD, opcode := beAt 2 p 0xE,
    params := packetParams p }

/-- An awaited reply of a worker is stored and sent. -/
def passReply (f : Fwd) (p : Bytes) (s : State) : State :=
  let r := workerReply f.h false p
  transmit r (if seqFree f.h.link f.opcode then s else storeReply f.ix r s)

/-- A reply that arrives on the expiry edge is accepted: the WORKER_TIMEOUT of this very edge is not sent (13 R379, R381). -/
def unsendTimeout (f : Fwd) (s : State) : State :=
  let s := { s with inst := { instant s with timedOut := (instant s).timedOut.erase f } }
  s.modHost fun h => { h with
    tx := h.tx.eraseP fun (r : OutPkt) => decide (r.kind = .reply ∧ r.hseq = f.h.hseq ∧ r.opcode = f.opcode ∧ r.status = Status.workerTimeout) }

/-- A worker's reply arrives at the lead: the one awaited is stored and sent; a late one is passed on with LATE set and
replaces the stored WORKER_TIMEOUT (13 R379, 14 R389). -/
def takeReply (p : Bytes) (s : State) : State :=
  let q := w32 (beAt 4 p 4)
  let mine := fwdIs q (u8 p 0xC) (beAt 2 p 0xE)
  match s.host.fwd.find? (fun f => f.sent && mine f), (instant s).timedOut.find? mine with
  | some f, _ => passReply f p ((leaveQueue (queuePlaces s) s).modHost fun h => { h with fwd := h.fwd.erase f })
  | none, some f => passReply f p (unsendTimeout f s)
  | none, none =>
    let old (ix : Nat) := (windowOf s ix).find? fun r => decide (r.hseq = q ∧ r.status = Status.workerTimeout)
    match [0, 1, 2].find? (fun ix => (old ix).isSome) with
    | some ix =>
      match old ix with
      | some o =>
        let r : OutPkt := { workerReply { t := s.now, link := o.link, srcIp := o.ip, srcPort := o.port, hseq := q, dseq := 0 } true p with late := true }
        transmit r (storeReply ix r s)
      | none => s
    | none =>
      match s.host.sess with
      | some x => transmit (workerReply { t := s.now, link := .host, srcIp := x.ip, srcPort := x.port, hseq := q, dseq := 0 } true p) s
      | none => s

/-- A worker's event passes the lead unchanged (14 R394). -/
def takeEvent (p : Bytes) (s : State) : State :=
  match s.host.sess with
  | some x => transmit {
      kind := .event, ip := x.ip, port := x.port, replay := bitAt (u8 p 3) 2, dseq := w32 (beAt 4 p 8),
      target := u8 p 0xC, opcode := beAt 2 p 0xE, params := packetParams p } s
  | none => s

/-- What a SERVICE packet brings (13 R378): forwarding uses the SP at both ends (13 R379). -/
def takeService (slot : Nat) (payload : Bytes) (s : State) : State :=
  let p := packetOf payload
  if s.erg.st = .running ∧ slotOwner s.erg.sched slot = 0 then takeForwarded p s
  else if s.erg.st = .leading ∧ packetOk p ∧ s.clk.sp = .running then
    if bitAt (u8 p 3) 0 then takeReply p s else if bitAt (u8 p 3) 1 then takeEvent p s else s
  else s

/-- The copy of a slot by the other port is awaited: in a ring, while that port carries frames (13 R377). -/
def awaitsCopy (portB : Bool) (s : State) : Bool :=
  schedRing s.erg.sched && portUsable (ergPort (!portB) s) && decide ((ergPort (!portB) s).idle < 16)

/-- A SERVICE packet is taken; in a ring it waits for its copy, until the slot is decided (13 R377; DEDUCED, log 219). -/
def takeServiceSlot (portB : Bool) (slot : Nat) (payload : Bytes) (s : State) : State :=
  if awaitsCopy portB s then
    s.modErg fun e => { e with heldService := some { slot := slot, payload := payload, until' := missNs s.erg.cycleNs slot s } }
  else takeService slot payload s

/-- A SERVICE packet that has waited is taken: its copy is equal, or none has come by the time its slot was decided. -/
def releaseService (now : Bool) (s : State) : State :=
  match s.erg.heldService with
  | some x =>
    if now || decide (x.until' ≤ 10 * (s.now : Int)) then
      takeService x.slot x.payload (s.modErg fun e => { e with heldService := none })
    else s
  | none => s

/-- An equal copy of a SERVICE packet. -/
def copyService (slot : Nat) (s : State) : State := releaseService (s.erg.heldService.any fun x => x.slot = slot) s

/-- SERVICE_FRAME_RX (13 R378). -/
def execServiceFrameRx (t : Time) (portB : Bool) (stampNs : Int) (f : ErgFrame) (s : State) : Host.Outcome State Fault Refusal :=
  done (rxFrame t portB stampNs 4 f (takeServiceSlot portB · f.payload) copyService (releaseService false (advance t s)))

/-! ### Sync (13 R358, R363, R366, R367, R369) -/

/-- The device of the module owns a slot of its schedule (13 R363). -/
def ownsAny (s : State) : Bool :=
  (List.range (schedSlots s.erg.sched)).any fun n =>
    slotOwner s.erg.sched n = s.erg.device && decide (slotType s.erg.sched n ≠ slotClaim)

/-- A sync follows the previous one: HOPS, CYCLE and the stamp interval (13 R363). -/
def follows (p : SyncSeen) (f : ErgFrame) (stamp : Int) (s : State) : Bool :=
  let rate : Int := schedRate s.erg.sched
  let d := (stamp - p.stampNs) * rate - 1000000000000
  decide (f.hops.toNat = p.hops ∧ f.cycle = p.cycle + 1 ∧ -1000000000 ≤ d ∧ d ≤ 1000000000)

/-- A sync is consistent; the first of a count has no previous one to be judged by (13 R363). -/
def consistent (f : ErgFrame) (stamp : Int) (s : State) : Bool :=
  ownsAny s && decide (reg s P.tickRate = schedRate s.erg.sched) &&
    (match s.erg.prevSync with | some p => follows p f stamp s | none => true)

/-- The interval from the previous sync, where this one follows it (13 R358). -/
def newPeriod (f : ErgFrame) (stamp : Int) (e : ErgSt) : Option Int :=
  match e.prevSync with
  | some p => if f.cycle = p.cycle + 1 ∧ f.hops.toNat = p.hops then some (stamp - p.stampNs) else none
  | none => none

/-- The stamp intervals with a new one before them, 16 at most (13 R358). -/
def addPeriod (f : ErgFrame) (stamp : Int) (e : ErgSt) : List Int := ((newPeriod f stamp e).toList ++ e.periods).take 16

/-- TICK_MEASURED is the last measured Erg period, where the Erg Link is the source (02 R53). -/
def measureErg (f : ErgFrame) (stamp : Int) (s : State) : State :=
  match newPeriod f stamp s.erg with
  | some n => if s.tick.source = 2 then setReg s P.tickMeasured (n.toNat % 2 ^ 32) else s
  | none => s

/-- What stands before a sync is accepted, in the cycle as the module's own estimate has it. -/
def syncUndoOf (again : Bool) (s : State) : SyncUndo :=
  let e := s.erg
  { cycle := if again then e.cycle else e.cycle + 1, cycleNs := if again then e.cycleNs else e.cycleNs + cyclePeriod s,
    heard := if again then e.heard else 0, grants := e.grants, grantsNext := e.grantsNext, leadSerial := e.leadSerial,
    standbyLeads := e.standbyLeads, periods := e.periods, syncMiss := e.syncMiss,
    claimWait := if again then e.claimWait else e.claimWait - 1, claimOut := e.claimOut }

/-- A port has brought a sync: the distance to the lead by it (13 Table 13.9). -/
def syncPath (portB : Bool) (f : ErgFrame) (s : State) : State :=
  modPort portB (fun p => { p with hops := f.hops.toNat + 1, syncAge := 0 }) (notePath portB f s)

/-- The next sync lists a grant for the module that it did not hold (13 R370). -/
def claimGranted (g : Table (Nat × Nat)) (e : ErgSt) : Bool :=
  (spareOf e.sched e.device).any fun n => decide (grantedTo g n = some e.device ∧ grantedTo e.grants n ≠ some e.device)

/-- What every accepted sync brings: the cycle and its lead time 0, distance, lead, grants, rate, the members' frame. A sync of
the cycle already begun does not begin it again. -/
def takeSync (portB : Bool) (f : ErgFrame) (stamp : Int) (s : State) : State :=
  let start := stamp - ((f.hops.toNat : Int) + 1) * 1280
  let again := decide (f.cycle = s.erg.cycle ∧ s.erg.st = .running ∧ tget none s.erg.accepted 0 = none ∧ 0 ∉ s.erg.missed)
  let u := syncUndoOf again s
  let s := if again then s.modErg fun e => { e with cycleNs := start, guardNs := start } else beginCycle f.cycle start s
  let s := measureErg f stamp (syncPath portB f s)
  let s := { s with inst := { instant s with ergRx := some (portB, 0) } }
  let s := s.modErg fun e => { e with
    accepted := tset none e.accepted 0 (some f.fcs)
    syncUndo := some u
    standbyLeads := syncTakeover f.payload
    leadSerial := syncSerial f.payload
    grants := readGrants f.payload
    grantsNext := readGrants f.payload
    periods := addPeriod f stamp e
    prevSync := some { hops := f.hops.toNat, cycle := f.cycle, stampNs := stamp }
    syncMiss := 0
    claimWait := if e.claimOut then (if claimGranted (readGrants f.payload) e then 0 else 1 + s.upd.serial.toNat % 16)
      else e.claimWait
    claimOut := false }
  hearDevice f.sender.toNat s

/-- A copy of the sync of the cycle in progress, by the other way round a ring (13 R377): an equal one gives the distance by its port;
one that differs takes the first back, and the sync is missed. -/
def copySync (portB : Bool) (f : ErgFrame) (s : State) : State :=
  if tget none s.erg.accepted 0 = some f.fcs then syncPath portB f s
  else if schedRing s.erg.sched = false then s
  else
    let s := satField s P.ergRingMismatch 15 0 1
    let s := undoSync (detect 61 (locPort portB s) s)
    s.modErg fun e => { e with syncMiss := e.syncMiss + 1, missed := insertNat 0 e.missed }

/-- A sync with another schedule or rate keeps the module in LISTEN, with the mismatch fault once per entry (13 R363). -/
def mismatchSync (s : State) : State :=
  let s := if s.erg.st = .listen then s else enterListen s
  if s.erg.mismatch then s else detect 57 (locErg s) (s.modErg fun e => { e with mismatch := true })

/-- SCHED_CRC and TICK_RATE of a sync are those of the module's own schedule (13 R363). -/
def syncAgrees (p : Bytes) (s : State) : Bool :=
  decide (beAt 4 p 0x0C = u32 s.erg.sched 4 ∧ beAt 4 p 8 = schedRate s.erg.sched) && !s.erg.sched.isEmpty

/-- A sync lies in its window by the receiver's own estimate: lead time 0 of the cycle that begins nearest (13 R359). -/
def syncInTime (f : ErgFrame) (stamp : Int) (s : State) : Bool :=
  let tau : Int := (f.hops.toNat + 1) * 1280
  let p := cyclePeriod s
  let d := stamp - tau - s.erg.cycleNs
  inErgWindow (s.erg.cycleNs + p * ((d + p / 2) / p)) stamp tau s

/-- A valid sync at a module that follows: worker, standby, in LISTEN, SYNCING, RUNNING or HOLDOVER. In RUNNING the window
comes first (13 R359); one that comes after the miss of its slot was decided is not used. -/
def followSync (portB : Bool) (f : ErgFrame) (stamp : Int) (s : State) : State :=
  let copy := decide (f.cycle = s.erg.cycle) && (tget none s.erg.accepted 0).isSome
  if s.erg.st = .running ∧ syncInTime f stamp s = false then countReg s P.ergLate
  else if copy then copySync portB f s
  else if s.erg.mapBad then s
  else if !syncAgrees f.payload s then mismatchSync s
  else
    let s := settle 57 (s.modErg fun e => { e with mismatch := false })
    if s.erg.st = .running then
      if f.cycle = s.erg.cycle ∧ 0 ∈ s.erg.missed then s else takeSync portB f stamp s
    else
      let ok := consistent f stamp s
      let run := if ok then s.erg.syncRun + 1 else 0
      let s := if s.erg.st = .syncing then s else setErgState .syncing s
      (takeSync portB f stamp s).modErg fun e => { e with syncRun := run }

/-- A sync at a module that leads is counted as late where it is out of its window (13 R359); its own one is not counted (R367). -/
def lateSync (f : ErgFrame) (stamp : Int) (s : State) : State :=
  if s.erg.st = .leading ∧ isOwn 0 f s = false ∧ syncInTime f stamp s = false then countReg s P.ergLate else s

/-- SYNC_FRAME_RX (13 R354, R363, R366, R367, R369). -/
def syncFrameRx (t : Time) (portB : Bool) (stamp : Int) (f : ErgFrame) (s : State) : State :=
  let s := releaseService false (advance t s)
  if s.erg.st = .off ∨ (f.ftype ≠ 0 ∧ f.ftype.toNat < 5) then s
  else if portUsable (ergPort portB s) = false then lostFrame portB s
  else
    let s := useChannel 0x5A 2 2 (forwardFrame portB stamp f s)
    if f.ftype ≠ 0 ∨ syncValid f s = false then countReg s P.ergCrcErr
    else
      let s := lateSync f stamp (hearPort portB s)
      let takeover := syncTakeover f.payload
      let serial := syncSerial f.payload
      if s.erg.st = .silent then s
      else if s.erg.role = 1 ∧ serial ≠ s.upd.serial ∧ takeover = false then
        enterSilent 1 59 (s.modErg fun e => { e with otherSerial := serial })
      else if f.sender.toNat = s.erg.device then ownSender 0 f s
      else if s.erg.role = 1 then s
      else if s.erg.st = .leading then (if takeover then s else s.modErg fun e => { e with yielding := true })
      else followSync portB f stamp s

def execSyncFrameRx (t : Time) (portB : Bool) (stampNs : Int) (f : ErgFrame) (s : State) : Host.Outcome State Fault Refusal :=
  done (syncFrameRx t portB stampNs f s)

/-! ### Misses, holdover, running (13 R363, R364, R365, R369, R372) -/

/-- A sync is missed: counted in RUNNING (13 R365); in SYNCING the count of consistent ones starts again (R363). -/
def countSyncMiss (s : State) : State :=
  s.modErg fun e =>
    if e.st = .running then { e with syncMiss := e.syncMiss + 1, missed := insertNat 0 e.missed }
    else { e with syncRun := 0, prevSync := none, missed := insertNat 0 e.missed }

/-- The sync now due is missed, once the decision of its slot has come: that of the cycle in progress, or of the next one, which begins
on the module's own estimate (13 R358, R365, R372). -/
def missSync (s : State) : State :=
  let next := s.erg.cycleNs + cyclePeriod s
  if s.erg.st ≠ .running ∧ s.erg.st ≠ .syncing then s
  else if (tget none s.erg.accepted 0).isNone ∧ 0 ∉ s.erg.missed then
    (if missNs s.erg.cycleNs 0 s ≤ 10 * (s.now : Int) then countSyncMiss s else s)
  else if missNs next 0 s ≤ 10 * (s.now : Int) then countSyncMiss (beginCycle (s.erg.cycle + 1) next s)
  else s

/-- SLOT_MISS (13 R372): at the decision of the slot or after it. -/
def slotMiss (t : Time) (slot : Nat) (s : State) : State :=
  let s := releaseService false (advance t s)
  if s.erg.st = .off ∨ schedSlots s.erg.sched ≤ slot then s
  else if slot = 0 then missSync s
  else if (tget none s.erg.accepted slot).isSome ∨ slot ∈ s.erg.missed ∨ ownsSlot slot s ∨
      10 * (s.now : Int) < missNs s.erg.cycleNs slot s then s
  else missedSlot slot s

def execSlotMiss (t : Time) (slot : Nat) (s : State) : Host.Outcome State Fault Refusal := done (slotMiss t slot s)

/-- The tick takes the lead's phase: at the first join at once, with TICK_COUNT set to CYCLE; later by steering (13 R364). -/
def joinTick (s : State) : State :=
  if s.erg.joinWait = false then
    (if s.tick.source = 2 ∧ s.tick.locked = false then
      settle 1 (s.modTick fun k => { k with holdover := false, relocking := true })
    else s)
  else
    s.modTick fun k => { k with
      count := s.erg.cycle
      lastEdge := if k.source = 2 then (s.erg.cycleNs / 10).toNat else k.lastEdge
      loose := k.loose && decide (k.source ≠ 2)
      frac := if k.source = 2 then 0 else k.frac
      phaseErr := if k.source = 2 then 0 else k.phaseErr
      holdover := k.holdover && decide (k.source ≠ 2)
      locked := k.locked || decide (k.source = 2) }

/-- ERG_RUNNING_ENTRY (13 R363, R364): at the start of the cycle after the third consecutive consistent sync. A start-up that
waits at the join step goes on. -/
def ergRunningEntry (t : Time) (s : State) : State :=
  let s := advance t s
  if s.erg.st = .syncing ∧ 3 ≤ s.erg.syncRun ∧ s.erg.cycleNs + cyclePeriod s ≤ 10 * (s.now : Int) + 10 then
    let s := beginCycle (s.erg.cycle + 1) (s.erg.cycleNs + cyclePeriod s) s
    let s := setErgState .running s
    let s := settle 58 (joinTick s)
    let wait := s.erg.joinWait
    let s := s.modErg fun e => { e with joinWait := false }
    if wait then beginCameraStart s else pumpHeld s
  else s

def execErgRunningEntry (t : Time) (s : State) : Host.Outcome State Fault Refusal := done (ergRunningEntry t s)

/-- The standby takes over from the lead (13 R369), and sends sync from its next tick edge on; the tick of an Erg source has lost its sync (02 R39). -/
def takeOver (s : State) : State :=
  let s := setErgState .leading s
  let s := if s.tick.source = 2 then enterHoldover s else s
  detect 58 (locErg s) (s.modErg fun e => noDistance { e with
    acting := true, syncMiss := 0, syncRun := 0, prevSync := none, grantsNext := e.grants, leadSerial := s.upd.serial,
    standbyLeads := true, guardNs := 10 * (s.tick.lastEdge : Int) })

/-- ERG_HOLDOVER (13 R365, R369): at the edge on which the third miss in a row is decided. -/
def ergHoldover (t : Time) (s : State) : State :=
  let s := advance t s
  if s.erg.st = .running ∧ 3 ≤ s.erg.syncMiss then
    if s.erg.role = 3 ∧ schedStandby s.erg.sched = s.erg.device then takeOver s else enterErgHoldover s
  else s

def execErgHoldover (t : Time) (s : State) : Host.Outcome State Fault Refusal := done (ergHoldover t s)

/-- ERG_JOIN_TIMEOUT (13 R364): the start-up goes on without the Caravan. -/
def ergJoinTimeout (t : Time) (s : State) : State :=
  let s := advance t s
  if s.erg.joinWait ∧ s.erg.joinAt + ms (10 * reg s P.ergJoinWait) ≤ s.now then
    beginCameraStart (s.modErg fun e => { e with joinWait := false })
  else s

def execErgJoinTimeout (t : Time) (s : State) : Host.Outcome State Fault Refusal := done (ergJoinTimeout t s)

end Sys2Proof.Machine
end

