-- ==== Sys2Proof/Machine/Field.lean ====
section
/-! DEFINITION. The field I/O die's shared operations (chapter 12): the safety I/O record, input filters and pairs, output
decisions, forced OFF, and the state of the die. -/

namespace Sys2Proof.Machine

/-! ### The safety I/O record (12 R343, Table 12.4) -/

/-- HB_PERIOD in REF cycles. -/
def hbPeriod (r : Bytes) : Time := ms (u8 r 8)

/-- L1P_MIN and L2P_MIN in mV. -/
def l1Min (r : Bytes) : Nat := 100 * u8 r 9
def l2Min (r : Bytes) : Nat := 100 * u8 r 10

/-- FILTER and IN_CFG of input `i`; its test pulse: 0 none, else TP number + 1. -/
def inFilter (r : Bytes) (i : Nat) : Nat := u8 r (0x10 + 4 * i)
def inCfg (r : Bytes) (i : Nat) : Nat := u8 r (0x11 + 4 * i)
def inTp (r : Bytes) (i : Nat) : Nat := fld (inCfg r i) 2 0

/-- Mode of pair `k`: 0 single, 1 equivalence, 2 antivalence, 3 encoder; DISC in REF cycles. -/
def pairMode (r : Bytes) (k : Nat) : Nat := fld (u8 r (0x90 + 4 * k)) 1 0
def pairDisc (r : Bytes) (k : Nat) : Time := ms (u16 r (0x92 + 4 * k))

/-- Q_CFG, feedback input (none when not used), FB_TIME and RB_TIME of output `q`. -/
def qCfg (r : Bytes) (q : Nat) : Nat := u8 r (0xD0 + 8 * q)
def qFb (r : Bytes) (q : Nat) : Option Nat :=
  let b := u8 r (0xD1 + 8 * q)
  if bitAt b 7 then some (fld b 4 0) else none
def qFbTime (r : Bytes) (q : Nat) : Time := ms (u16 r (0xD2 + 8 * q))
def qRbTime (r : Bytes) (q : Nat) : Time := ms (u8 r (0xD4 + 8 * q))
def qDark (r : Bytes) (q : Nat) : Time := us (10 * u8 r (0xD5 + 8 * q))

/-- A number lies within limits. -/
def within (lo hi n : Nat) : Bool := decide (lo ≤ n ∧ n ≤ hi)

/-- Fields, reserved bits and R337 of a record (12 R344 step 2). -/
def fioFieldsOk (r : Bytes) : Bool :=
  let enc (i : Nat) : Bool := decide (pairMode r (i / 2) = 3)
  let inOk (i : Nat) : Bool :=
    (if enc i then decide (inFilter r i = 0) && decide (inTp r i = 0) else within 1 255 (inFilter r i)) &&
      decide (inTp r i ≤ 4) && decide (fld (inCfg r i) 7 5 = 0) && decide (u16 r (0x12 + 4 * i) = 0)
  let pairOk (k : Nat) : Bool :=
    let m := pairMode r k
    (decide (m ≠ 3) || decide (14 ≤ k)) && decide (fld (u8 r (0x90 + 4 * k)) 7 3 = 0) && decide (u8 r (0x91 + 4 * k) = 0) &&
      (if m = 1 ∨ m = 2 then
        within 1 500 (u16 r (0x92 + 4 * k)) && (decide (inTp r (2 * k) = 0) || decide (inTp r (2 * k) ≠ inTp r (2 * k + 1)))
      else decide (u16 r (0x92 + 4 * k) = 0))
  let qOk (q : Nat) : Bool :=
    decide (fld (qCfg r q) 1 0 ≤ 2) && decide (fld (qCfg r q) 7 5 = 0) && decide (fld (u8 r (0xD1 + 8 * q)) 6 5 = 0) &&
      (match qFb r q with
        | some i => within 5 500 (u16 r (0xD2 + 8 * q)) && decide (pairMode r (i / 2) = 0) &&
            (List.range 16).all fun p => decide (p = q) || decide (qFb r p ≠ some i)
        | none => decide (u16 r (0xD2 + 8 * q) = 0)) &&
      within 1 50 (u8 r (0xD4 + 8 * q)) && within 10 30 (u8 r (0xD5 + 8 * q)) && decide (u16 r (0xD6 + 8 * q) = 0)
  decide (u16 r 0 = 1) && decide (u16 r 2 = 0) && within 1 50 (u8 r 8) && within 120 240 (u8 r 9) && within 120 240 (u8 r 10) &&
    allZero (sub r 0x0B 5) && (List.range 32).all inOk && (List.range 16).all pairOk && (List.range 16).all qOk

/-- The default record (12 R529). -/
def defaultRecord : Bytes :=
  let body := le 2 1 ++ zeros 6 ++ [2, 168, 168] ++ zeros 5 ++ ((List.range 32).flatMap fun _ => [60, 0, 0, 0]) ++ zeros 64 ++
    ((List.range 16).flatMap fun _ => [0, 0, 0, 0, 5, 10, 0, 0])
  splice body 4 (le 4 (crcEmbedded body 4))

/-! ### The parts of the die -/

def State.fin (s : State) (i : Nat) : InSt := tget {} s.fio.ins i
def State.fpair (s : State) (k : Nat) : PairSt := tget {} s.fio.pairs k
def State.ftp (s : State) (n : Nat) : TpSt := tget {} s.fio.tps n
def State.fenc (s : State) (n : Nat) : EncSt := tget {} s.fio.encs n
def State.fout (s : State) (q : Nat) : OutSt := tget {} s.fio.outs q
def State.fgrp (s : State) (g : Nat) : GroupSt := tget {} s.fio.groups g

def State.modIn (s : State) (i : Nat) (f : InSt → InSt) : State := s.modFio fun x => { x with ins := tmod {} x.ins i f }
def State.modPair (s : State) (k : Nat) (f : PairSt → PairSt) : State := s.modFio fun x => { x with pairs := tmod {} x.pairs k f }
def State.modTp (s : State) (n : Nat) (f : TpSt → TpSt) : State := s.modFio fun x => { x with tps := tmod {} x.tps n f }
def State.modEnc (s : State) (n : Nat) (f : EncSt → EncSt) : State := s.modFio fun x => { x with encs := tmod {} x.encs n f }
def State.modOut (s : State) (q : Nat) (f : OutSt → OutSt) : State := s.modFio fun x => { x with outs := tmod {} x.outs q f }
def State.modGroup (s : State) (g : Nat) (f : GroupSt → GroupSt) : State := s.modFio fun x => { x with groups := tmod {} x.groups g f }

/-- The 32 inputs, 16 pairs and 16 outputs folded over. -/
def forInputs (f : Nat → State → State) (s : State) : State := (List.range 32).foldl (fun s i => f i s) s
def forPairs (f : Nat → State → State) (s : State) : State := (List.range 16).foldl (fun s k => f k s) s
def forOutputs (f : Nat → State → State) (s : State) : State := (List.range 16).foldl (fun s q => f q s) s

/-! ### Inputs (12 R317 to R324) -/

/-- Input `i` is in encoder mode. -/
def encInput (s : State) (i : Nat) : Bool := decide (pairMode s.fio.record (i / 2) = 3)

/-- An input reads 0 by a fault: its own test faults, or its test-pulse supply's (12 R322, R324). -/
def inFaulted (s : State) (i : Nat) : Bool :=
  (s.fin i).testFault || (s.fin i).crossFault ||
    (decide (inTp s.fio.record i ≠ 0) && (s.ftp (inTp s.fio.record i - 1)).fault)

/-- The filtered value of an input, forced to 0 by a fault (12 R317, R324; DEDUCED, log 38). -/
def inValue (s : State) (i : Nat) : Bool := (s.fin i).filt && !inFaulted s i

/-- What a single input delivers: 0 while L1P is low (12 R340). -/
def inReads (s : State) (i : Nat) : Bool := inValue s i && !s.fio.l1Low

/-- Safe level of channel B of a pair: 0 in equivalence, 1 in antivalence; of channel A it is 0 (12 R320). -/
def safeB (m : Nat) : Bool := decide (m = 2)

/-- The image of the 32 inputs (12 R314, R320, R326, R340). -/
def inImage (s : State) : BitVec 32 :=
  if s.fio.l1Low then 0
  else BitVec.ofNat 32 (packBits ((List.range 32).map fun i =>
    let k := i / 2
    let m := pairMode s.fio.record k
    if m = 0 then inValue s i
    else if m = 3 then (if i % 2 = 0 then (s.fenc (k - 14)).a else (s.fenc (k - 14)).b)
    else if i % 2 = 0 then (s.fpair k).value else !(s.fpair k).disc))

/-- A filtered value changes: an input with COS has a change event to send; a change that follows another within 1 ms,
or meets a restarting SP, is merged and counted (12 R319, 19 R493). -/
def noteChange (i : Nat) (s : State) : State :=
  if !bitAt (inCfg s.fio.record i) 3 then s
  else
    let x := s.fin i
    let recent := match x.evtAt with | some u => decide (s.now < u + ms 1) | none => false
    let s' := s.modIn i fun x => { x with evtDue := true, evtSample := s.fio.samples }
    if x.evtDue || recent || decide (s.clk.sp ≠ .running) then
      satField (s'.modIn i fun x => { x with merged := x.merged + 1 }) P.fioCountIn 31 24 1
    else s'

/-- One sample of an input's integrating filter (12 R317, R323). -/
def filterStep (raw : BitVec 32) (i : Nat) (s : State) : State :=
  let x := s.fin i
  let n := inFilter s.fio.record i
  if encInput s i || decide (s.now < x.maskTo) then s
  else
    let c := if raw.getLsbD i then min n (x.cnt + 1) else x.cnt - 1
    let f := if c = n then true else if c = 0 then false else x.filt
    s.modIn i fun x => { x with cnt := c, filt := f }

/-- A pair enters discrepancy: value and health 0; FS-038 (12 R321). -/
def declareDisc (k : Nat) (s : State) : State :=
  if (s.fpair k).disc then s
  else
    let s := s.modPair k fun p => { p with value := false, disc := true, passedSafe := false, since := none }
    detect 38 (locBlock s dieFio (2 * k)) (satField s P.fioCountIn 23 16 1)

/-- The discrepancy time of a pair has run out (12 R321, R347). -/
def discDue (k : Nat) (s : State) : Bool :=
  match (s.fpair k).since with
  | some u => !(s.fpair k).disc && !s.fio.l1Low && decide (u + pairDisc s.fio.record k ≤ s.now)
  | none => false

/-- Distance of two times. -/
def timeDiff (a b : Time) : Nat := (a - b) + (b - a)

/-- The evaluation of a pair at a sample, from the channels' values before it (12 R320, R321). -/
def pairStep (before : Nat → Bool) (k : Nat) (s : State) : State :=
  let m := pairMode s.fio.record k
  if m ≠ 1 ∧ m ≠ 2 then s
  else
    let a := inValue s (2 * k)
    let b := inValue s (2 * k + 1)
    let sb := safeB m
    let s := if discDue k s then declareDisc k s else s
    if a = false ∧ b = sb then
      settle 38 (s.modPair k fun p => {
        p with value := false, disc := false, passedSafe := true, leftA := none, leftB := none, since := none })
    else
      let left (was now' safe : Bool) (old : Option Time) : Option Time :=
        if was = safe ∧ now' ≠ safe then some s.now else old
      let s := s.modPair k fun p => {
        p with
        leftA := left (before (2 * k)) a false p.leftA
        leftB := left (before (2 * k + 1)) b sb p.leftB }
      let p := s.fpair k
      if a = true ∧ b ≠ sb then
        let close := match p.leftA, p.leftB with
          | some x, some y => decide (timeDiff x y < pairDisc s.fio.record k)
          | _, _ => false
        s.modPair k fun p => {
          p with
          value := p.value || (!p.disc && p.passedSafe && close)
          passedSafe := p.passedSafe && !(!p.disc && close)
          since := none }
      else
        let moved := decide (before (2 * k) ≠ a ∨ before (2 * k + 1) ≠ b)
        s.modPair k fun p => {
          p with
          value := false
          since := if p.disc then none else if p.since.isSome then p.since else if moved then some s.now else none }

/-- The values of the inputs are kept, to be compared at the next evaluation (12 R319, R321). -/
def keepLast (s : State) : State := forInputs (fun i s => let v := inValue s i; s.modIn i fun x => { x with last := v }) s

/-- Filters and pairs are set from a raw sample (12 R318): no transition, no discrepancy time runs. -/
def setFilters (raw : BitVec 32) (s : State) : State :=
  let s := forInputs (fun i s =>
    if encInput s i then s
    else s.modIn i fun x => {
      x with cnt := if raw.getLsbD i then inFilter s.fio.record i else 0, filt := raw.getLsbD i }) s
  let s := forPairs (fun k s =>
    let m := pairMode s.fio.record k
    if m ≠ 1 ∧ m ≠ 2 then s.modPair k fun _ => {}
    else
      let a := inValue s (2 * k)
      let b := inValue s (2 * k + 1)
      let act := a && decide (b ≠ safeB m)
      s.modPair k fun _ => {
        value := act, passedSafe := !act,
        leftA := if a then some s.now else none,
        leftB := if b = safeB m then none else some s.now }) s
  settle 38 (keepLast s)

/-! ### Outputs (12 R328 to R336) -/

/-- Owner entry of an output as the die holds it; safety marking; its demand by the last accepted fields (01 R15). -/
def qOwner (s : State) (q : Nat) : Nat := u8 s.fio.owners q
def qSafety (s : State) (q : Nat) : Bool := entrySafety (qOwner s q)
def qVote (s : State) (q : Nat) : Bool :=
  let o := s.fout q
  match entryUnit (qOwner s q) with
  | none => false
  | some u =>
    if u % 4 = 0 then decide (2 ≤ b2n o.fA + b2n o.fB + b2n o.fC)
    else if u % 4 = 1 then o.fA else if u % 4 = 2 then o.fB else o.fC

/-- L2P lies at or above the driver minimum (12 R327). -/
def driverOk (s : State) : Bool := decide (9500 + Config.driverMin % 1001 ≤ s.fio.l2mv)

/-- The die may apply output commands: the heartbeat is not expired, the outputs are released (12 R341, 17 R444). -/
def outsReleased (s : State) : Bool := decide (s.fio.mode = 2)

/-- Conditions on an output other than its vote, rearm and readiness: no latched fault, no retry pending, group switch
closed, drivers on; for a safety output also no Quench and L2P not low (12 R328, R329). -/
def qClear (s : State) (q : Nat) : Bool :=
  let o := s.fout q
  o.latched.isEmpty && o.retryAt.isNone && (s.fgrp (q / 4)).closed && !s.fio.shut && driverOk s &&
    (!qSafety s q || (!s.fio.quench && !s.fio.l2Low))

/-- A dark or bright test of an output ends: the driver returns to its own state, switched anew (12 R330, R333 to R335). -/
def endTest (q : Nat) (s : State) : State :=
  if (s.fout q).test.isNone then s else s.modOut q fun o => { o with test := none, switchedAt := s.now }

/-- A driver is switched: the time of the change is kept, a test in progress is abandoned, and a feedback wait begins
(12 R330, R335, R336). -/
def switchQ (q : Nat) (on : Bool) (s : State) : State :=
  let s := endTest q s
  if (s.fout q).drive = on then s
  else s.modOut q fun o => {
    o with
    drive := on, switchedAt := s.now, classifyAt := none,
    fbWait := if (qFb s.fio.record q).isSome then some (!on, s.now) else none }

/-- An output is forced OFF: OFF not demanded by the vote; a safety output then waits to rearm (12 R328). -/
def forceOff (q : Nat) (s : State) : State :=
  let s := s.modOut q fun o => { o with rearm := o.rearm || qSafety s q, offAt := some s.now }
  switchQ q false s

/-- Below the driver minimum every driver is off, a bright pulse too (12 R327, R335). -/
def dropDrivers (s : State) : State :=
  if driverOk s then s
  else forOutputs (fun q s => if (s.fout q).drive || (s.fout q).test.isSome then forceOff q s else s) s

/-- Every safety output is forced OFF. -/
def forceSafety (s : State) : State := forOutputs (fun q s => if qSafety s q then forceOff q s else s) s

/-- A group switch opens, and every output of the group is forced OFF (12 R327, R332, R333). -/
def openGroup (g : Nat) (s : State) : State :=
  let s := s.modGroup g fun x => { x with closed := false }
  (List.range 4).foldl (fun s j => forceOff (4 * g + j) s) s

/-- An output's state while the heartbeat is expired: a safety output is OFF, another takes the safe state of its record entry, under
the supply, fault and group conditions (12 R329, R341; 01 R15). -/
def safeState (q : Nat) (s : State) : State :=
  if qSafety s q then forceOff q s
  else
    let m := fld (qCfg s.fio.record q) 1 0
    let on := (decide (m = 1) || (decide (m = 2) && qVote s q)) && qClear s q && !(s.fout q).notReady
    if on && (s.fout q).drive then s else switchQ q on s

/-- An output takes the state its vote and the conditions give it, at an I/O link frame (12 R328, R329, R336). A vote that
begins to demand OFF ends a test; one that went on demanding OFF lets a bright pulse be (12 R335; DEDUCED, log 39). -/
def evalOutput (q : Nat) (s : State) : State :=
  let d := qVote s q
  if s.fio.mode = 3 then safeState q s
  else if !outsReleased s then (if d && qSafety s q then s.modOut q fun o => { o with rearm := true } else s)
  else if !d then
    let o := s.fout q
    let s := s.modOut q fun o => { o with rearm := false, demanded := false }
    if o.demanded || o.drive then switchQ q false (s.modOut q fun o => { o with offAt := some s.now }) else s
  else
    let o := s.fout q
    let s := if o.demanded then s else
      s.modOut q fun o => {
        o with
        demanded := true
        notReady := match qFb s.fio.record q with | some i => !inReads s i | none => false }
    if !qClear s q then forceOff q s
    else if (s.fout q).rearm || (s.fout q).notReady then switchQ q false s
    else if o.drive then s
    else switchQ q true s

/-- FIO_STATE leaves self-test or heartbeat expired for running once the heartbeat and 17 R444 both allow commands and no record is
still to take effect;
safety outputs then wait to rearm (12 R342, 17 R444, 12 R529). -/
def refreshFio (s : State) : State :=
  let x := s.fio
  if (x.mode = 1 ∨ x.mode = 3) ∧ x.hbExpired = false ∧ x.tested ∧ x.deferred = false ∧ x.record ≠ [] ∧ x.isDefault = false ∧
    x.recordNext.isNone
  then
    let s := s.modFio fun x => { x with mode := 2 }
    forOutputs (fun q s => if qSafety s q then s.modOut q fun o => { o with rearm := true } else s) s
  else s

/-- A latched output fault: entered, located to the output's block, counted (12 Table 12.6). -/
def latchQ (q src hi lo : Nat) (s : State) : State :=
  let s := s.modOut q fun o => { o with latched := insertNat src o.latched }
  detect src (locBlock s dieFio (0x20 + q)) (satField s P.fioCountQ hi lo 1)

/-- A contactor feedback miss (12 R336): latched; a miss after switch-on also switches the output OFF. -/
def feedbackMiss (q : Nat) (s : State) : State :=
  let on := (s.fout q).drive
  let s := latchQ q 47 23 16 (s.modOut q fun o => { o with fbWait := none })
  if on then forceOff q s else s

/-- FB_TIME of a feedback wait has run out (12 R336, R347). -/
def feedbackDue (q : Nat) (s : State) : Bool :=
  match (s.fout q).fbWait with
  | some (_, since) => decide (since + qFbTime s.fio.record q ≤ s.now)
  | none => false

/-- A sample of an output's feedback input, on filtered values (12 R336). -/
def feedbackStep (q : Nat) (s : State) : State :=
  match (s.fout q).fbWait, qFb s.fio.record q with
  | some (level, _), some i =>
    if feedbackDue q s then feedbackMiss q s
    else if inValue s i = level then s.modOut q fun o => { o with fbWait := none }
    else s
  | _, _ => s

/-- The heartbeat expires: every output takes its safe state; FS-052 (12 R341, R329). Outputs not yet released stay OFF
(17 R444). -/
def expireHeartbeat (s : State) : State :=
  let was := outsReleased s
  let s := s.modFio fun x => { x with hbExpired := true, hbRun := 0, mode := if x.mode = 2 then 3 else x.mode }
  let s := satField s P.fioHbExpiries 15 0 1
  let s := if was then forOutputs safeState s else s
  detect 52 (locBlock s dieFio 0x40) s

/-- The expiry edge of the heartbeat is reached (12 R341). -/
def heartbeatDue (s : State) : Bool :=
  !s.fio.hbExpired && decide (s.fio.hbAt + 3 * hbPeriod s.fio.record / 2 ≤ s.now)

/-- An expiry whose edge has been reached comes before what happens now (12 R341, 01 R15; log 28). -/
def meetExpiry (s : State) : State := if heartbeatDue s then expireHeartbeat s else s

/-! ### Values that parameters read (12 R348) -/

/-- FIO_IN_FAULT: bit i set where input i reads 0 by a test, cross-short or discrepancy fault. -/
def fioInFault (s : State) : Nat :=
  packBits ((List.range 32).map fun i => (s.fin i).testFault || (s.fin i).crossFault || (s.fpair (i / 2)).disc)

/-- The driver of an output is ON, a dark or bright test included (12 R333, R334). -/
def driverOn (s : State) (q : Nat) : Bool :=
  match (s.fout q).test with
  | some dark => !dark
  | none => (s.fout q).drive

/-- The die's own encoder status: configured and faulted bits of both channels (12 R326, R340). -/
def dieEncStatus (s : State) : Nat :=
  packBits [decide (pairMode s.fio.record 14 = 3), (s.fenc 0).faulted || s.fio.l1Low,
    decide (pairMode s.fio.record 15 = 3), (s.fenc 1).faulted || s.fio.l1Low]

/-- Content of an I/O link frame from the die (12 R314): image, encoder counts, then FIO_IN_FAULT, FIO_Q_FAULT, FIO_GROUP, FIO_TP_STATUS,
FIO_L1P, FIO_L2P, FIO_SUPPLY and the die's encoder status, big-endian (16 R436; the layout is a DESIGN CHOICE, log 207). -/
def dieFrame (s : State) : Bytes :=
  be 4 s.fio.image.toNat ++ be 4 (s.fenc 0).count.toNat ++ be 4 (s.fenc 1).count.toNat ++ be 4 (fioInFault s) ++
    be 2 (flagsOf 16 fun q => !(s.fout q).latched.isEmpty) ++
    [b8 (flagsOf 4 (fun g => (s.fgrp g).closed) + 16 * flagsOf 4 fun g => (s.fgrp g).fault), b8 (flagsOf 4 fun n => !(s.ftp n).fault)] ++
    be 2 s.fio.l1mv ++ be 2 s.fio.l2mv ++
    [b8 (packBits [s.fio.l1Low, s.fio.l2Low, s.fio.l1Over, s.fio.l2Over]), b8 (dieEncStatus s)]

/-- FIO_ENC_STATUS: as the last frame brought it, both faulted bits while the link is lost (12 R314, R315). -/
def fioEncStatus (s : State) : Nat := u8 s.iol.frame 25 ||| (if s.iol.lost then 0b1010 else 0)

/-! ### The slots of the die's test frames (12 R322, R333) -/

/-- How far a test may lie from its slot: one sample, the die's oscillator being its own (01 Table 1.6; DESIGN CHOICE, log 208). -/
def slotTolerance : Time := us 50

/-- A test that begins now lies in its slot of a frame, `off` after the slot of the last one, which began at `u`. -/
def inSlot (frame off : Time) (u now : Time) : Bool :=
  let r := (now - u + frame - off % frame) % frame
  decide (slotTolerance < now - u) && (decide (r ≤ slotTolerance) || decide (frame ≤ r + slotTolerance))

/-- TPn's window is due: n x 5 ms into the 20 ms frame that the first window placed (12 R322). -/
def windowDue (n : Nat) (s : State) : Bool :=
  match s.fio.lastWin with
  | none => true
  | some (m, u) => inSlot (ms 20) (((n + 4 - m) % 4) * ms 5) u s.now

/-- Output q's test is due: q x 62.5 ms into the 1 s frame that the first test placed (12 R333, R334). -/
def testDue (q : Nat) (s : State) : Bool :=
  match s.fio.lastTest with
  | none => true
  | some (p, u) => inSlot (ms 1000) (((q + 16 - p) % 16) * us 62500) u s.now

end Sys2Proof.Machine
end

