-- ==== Sys2Proof/Machine/FieldIo.lean ====
section
/-! DEFINITION. The commands and events of the field I/O (chapter 12). -/

namespace Sys2Proof.Machine

/-! ### I/O link frames (12 R314, R315) -/

/-- The SoC drives the I/O link and takes its frames: not in reset, its start-up not stopped. -/
def socUp (s : State) : Bool := !s.st.inReset && !s.st.stopped && !s.st.rom && decide (1 ≤ s.st.step)

/-- The die runs and sends frames: its drivers are not shut down (18 Table 18.1), and it holds a record. -/
def dieUp (s : State) : Bool := !s.fio.shut && decide (s.fio.record ≠ [])

/-- The end of a test frame: every supply and input counts a clean frame or starts anew; 5 clean frames clear a fault that
is not latched. -/
def closeTestFrame (s : State) : State :=
  let s := (List.range 4).foldl (fun s n => s.modTp n fun x =>
    let c := if x.dirty then 0 else min 255 (x.clean + 1)
    { fault := x.fault && decide (c < 5), clean := c, dirty := false }) s
  let s := forInputs (fun i s =>
    let latch := bitAt (inCfg s.fio.record i) 4
    s.modIn i fun x =>
      let c := if x.dirty then 0 else min 255 (x.clean + 1)
      let keep := latch || decide (c < 5)
      { x with testFault := x.testFault && keep, crossFault := x.crossFault && keep, clean := c, dirty := false }) s
  settle 39 (settle 40 (settle 41 s))

/-- An input's test fault is found: FS-039 or FS-040 at its onset (12 R324). -/
def testFail (i : Nat) (cross : Bool) (s : State) : State :=
  let x := s.fin i
  let s := s.modIn i fun x => {
    x with dirty := true, clean := 0, testFault := x.testFault || !cross, crossFault := x.crossFault || cross }
  if (if cross then x.crossFault else x.testFault) then s
  else detect (if cross then 40 else 39) (locBlock s dieFio i)
    (satField s P.fioCountIn (if cross then 15 else 7) (if cross then 8 else 0) 1)

/-- The checks of a test-pulse window whose samples have come by now (12 R322 to R324): the pin at the first sample from the start edge
on, a missing pulse at the sample 350 µs into the window, a foreign pulse at the first sample not masked after it. -/
def judgeTests (s : State) : State :=
  match s.fio.window with
  | none => s
  | some w =>
    let s := if w.pinDone || w.pinOk then s
      else
        let was := (s.ftp w.n).fault
        let s := s.modTp w.n fun _ => { fault := true, clean := 0, dirty := true }
        if was then s else detect 41 (locBlock s dieFio (0x38 + w.n)) s
    let mid := decide (w.start + us 350 ≤ s.now)
    let after := decide (w.start + us 500 ≤ s.now)
    let s := if !mid || w.midDone then s
      else forInputs (fun i s =>
        if inTp s.fio.record i = w.n + 1 ∧ (s.fin i).filt = true ∧ w.mid.getLsbD i = true then testFail i false s else s) s
    let s := if !after then s
      else forInputs (fun i s =>
        let tp := inTp s.fio.record i
        if tp ≠ 0 ∧ tp ≠ w.n + 1 ∧ w.before.getLsbD i = true ∧ w.mid.getLsbD i = false ∧ w.after.getLsbD i = true then
          testFail i true s
        else s) s
    s.modFio fun x => { x with window := if after then none else some { w with pinDone := true, midDone := mid } }

/-- L1P is low (12 R340): no input, no discrepancy time, no test-pulse check; FS-049. -/
def l1Falls (s : State) : State :=
  let s := s.modFio fun x => { x with l1Low := true, window := none }
  let s := forPairs (fun k s => s.modPair k fun p => { p with since := none }) s
  detect 49 (locBlock s dieFio 0x41) s

/-- L1P is no longer low (12 R318, R340): filters and pairs are set from the first raw sample. -/
def l1Returns (raw : BitVec 32) (s : State) : State :=
  settle 49 (setFilters raw (s.modFio fun x => { x with l1Low := false, raw := raw }))

/-- L2P is low (12 R339): every safety output is forced OFF; FS-050. -/
def l2Falls (s : State) : State :=
  let s := forceSafety (s.modFio fun x => { x with l2Low := true })
  detect 50 (locBlock s dieFio 0x42) s

/-- L2P is no longer low (12 R338). -/
def l2Returns (s : State) : State := settle 50 (s.modFio fun x => { x with l2Low := false })

/-- A measurement of L1P or of L2P is kept, with the time from which the supply counts as continuously above its minimum + 0.5 V
(12 R338). -/
def measureL1 (mv : Nat) (s : State) : State :=
  s.modFio fun x => {
    x with l1mv := mv, measuredAt := some s.now, l1BadAt := if mv ≤ l1Min x.record + 500 then s.now else x.l1BadAt }
def measureL2 (mv : Nat) (s : State) : State :=
  s.modFio fun x => {
    x with l2mv := mv, measuredAt := some s.now, l2BadAt := if mv ≤ l2Min x.record + 500 then s.now else x.l2BadAt }

/-- The supplies at a sample (12 R338): low, or over, at the second of two consecutive samples; no longer low after 10 ms
continuously above the minimum + 0.5 V. -/
def sampleSupplies (raw : BitVec 32) (l1 l2 : Nat) (s : State) : State :=
  let p := s.fio
  let twice (was now' : Bool) : Bool := p.measuredAt.isSome && was && now'
  let over1 := decide (32000 < l1) && (p.l1Over || twice (decide (32000 < p.l1mv)) true)
  let over2 := decide (32000 < l2) && (p.l2Over || twice (decide (32000 < p.l2mv)) true)
  let s := measureL2 l2 (measureL1 l1 s)
  let s := settle 51 (s.modFio fun x => { x with l1Over := over1, l2Over := over2 })
  let s := if over1 && !p.l1Over then detect 51 (locBlock s dieFio 0x41) s else s
  let s := if over2 && !p.l2Over then detect 51 (locBlock s dieFio 0x42) s else s
  let s := if p.l1Low then
      (if l1Min p.record + 500 < l1 ∧ p.l1BadAt + ms 10 ≤ s.now then l1Returns raw s else s)
    else if twice (decide (p.l1mv < l1Min p.record)) (decide (l1 < l1Min p.record)) then l1Falls s else s
  if p.l2Low then
    (if l2Min p.record + 500 < l2 ∧ p.l2BadAt + ms 10 ≤ s.now then l2Returns s else s)
  else if twice (decide (p.l2mv < l2Min p.record)) (decide (l2 < l2Min p.record)) then l2Falls s else s

/-- A supply event as commanded is borne out by the samples: the one before was like it, or two samples have passed since, or none
has been taken (12 R338; DESIGN CHOICE, log 209). -/
def borneOut (like : Bool) (s : State) : Bool :=
  match s.fio.measuredAt with
  | none => true
  | some u => like || decide (u + us 100 ≤ s.now)

/-- The cause of a latched output fault is still present (12 R332, R336, R346): an external drive while the output reads
high, a feedback miss while the input is not in its state; the other causes ended with the output's switching. -/
def qCauseStays (s : State) (q src : Nat) : Bool :=
  if src = 44 then (s.fout q).rb
  else if src = 47 then
    match qFb s.fio.record q with
    | some i => decide (inValue s i = (s.fout q).drive)
    | none => false
  else false

/-- A cause that is back on the edge of FIO_ACK keeps its fault latched, and its group open (12 R346, R347). -/
def keepLatched (s : State) : State :=
  match (instant s).acked with
  | none => s
  | some (outs, groups) =>
    let s := forOutputs (fun q s =>
      let back := (tget {} outs q).latched.filter fun n => !(s.fout q).latched.contains n && qCauseStays s q n
      s.modOut q fun o => { o with latched := back.foldl (fun l n => insertNat n l) o.latched }) s
    (List.range 4).foldl (fun s g =>
      let was := tget {} groups g
      if !was.closed && (s.fgrp g).closed && (List.range 4).any fun j => (s.fout (4 * g + j)).rb then
        openGroup g (s.modGroup g fun _ => was)
      else s) s

/-- One sample of the die: supplies, filters, test-pulse checks, pairs, readbacks, feedback waits (12 R314, R317 to R324, R330, R336,
R338). -/
def dieSample (raw : BitVec 32) (readback : BitVec 16) (l1 l2 : Nat) (s : State) : State :=
  let s := { s with inst := { instant s with sampled := some ((instant s).sampled.getD (s.fio.ins, s.fio.pairs)) } }
  let wasLow := s.fio.l1Low
  let s := s.modFio fun x => { x with raw := raw, samples := x.samples + 1 }
  let s := forOutputs (fun q s => s.modOut q fun o => { o with rb := readback.getLsbD q }) s
  let s := sampleSupplies raw l1 l2 s
  let s := if wasLow || s.fio.l1Low then s
    else
      let s := judgeTests (forInputs (filterStep raw) s)
      let s := forInputs (fun i s => if inValue s i = (s.fin i).last then s else noteChange i s) s
      keepLast (forPairs (fun k s => pairStep (fun i => (s.fin i).last) k s) s)
  let s := keepLatched (dropDrivers (forOutputs feedbackStep s))
  s.modFio fun x => { x with image := inImage s }

/-- The image written to the input registers of every core (12 R315, 09 R236). -/
def publishImage (i : BitVec 32) (s : State) : State :=
  { s with cores := (List.range 24).foldl (fun t c => tmod {} t c fun x => takeInputs s.now i x.inX x.inXQ x) s.cores }

/-- A valid frame reaches the SoC: the image goes into the three input registers of every trio (09 R236), the encoder
counts to the predictor (06 R155). -/
def deliverImage (s : State) : State :=
  let bad : BitVec 2 := setBv (setBv 0 0 ((s.fenc 0).faulted || s.fio.l1Low)) 1 ((s.fenc 1).faulted || s.fio.l1Low)
  let s := {
    s with
    iol := { s.iol with
      image := s.fio.image, lost := false, enc0 := (s.fenc 0).count, enc1 := (s.fenc 1).count, encBad := bad,
      frame := dieFrame s, frameAt := s.now } }
  settle 54 (remeasure (publishImage s.fio.image (useChannel 0x6B 3 2 s)))

/-- INPUT_IMAGE_FRAME (12 R314, R315): the die samples and sends a frame; a frame whose CRC fails is discarded at the SoC. -/
def inputImageFrame (t : Time) (raw : BitVec 32) (readback : BitVec 16) (l1 l2 : Nat) (crcOk : Bool) (s : State) : State :=
  let s := advance t s
  if !dieUp s then s
  else
    let s := dieSample raw readback l1 l2 s
    if !socUp s then s
    else if iolArrives crcOk (dieFrame s) then deliverImage s
    else satField s P.fioLinkErr 31 16 1

/-- Supplies beyond 40 V are beyond the absolute maximum ratings (20 R507). -/
def execInputImageFrame (t : Time) (raw : BitVec 32) (readback : BitVec 16) (l1mv l2mv : Nat) (crcOk : Bool) (s : State) :
    Host.Outcome State Fault Refusal :=
  if 40000 < l1mv ∨ 40000 < l2mv then .fault .absoluteMaximum
  else done (inputImageFrame t raw readback l1mv l2mv crcOk s)

/-- The field of copy `k` of output `q` in the SoC's command (01 R15, 09 R238, R241, R249, R253). -/
def qField (s : State) (k q : Nat) : Bool :=
  match entryUnit (ownerEntry s.owners 0 q) with
  | none => false
  | some u =>
    let x := s.trio (u / 4)
    let last := (copyQ x k).getLsbD q
    let v := if unitRuns s u then last else safeQ s q last
    if u % 4 = 0 then v && !x.forced.getLsbD k else decide (k + 1 = u % 4) && v

/-- The fields, owners and markings of a good frame are taken, where the die applies commands (12 R314, R328). -/
def takeFields (s : State) : State :=
  let f (k q : Nat) : Bool := qField s k q
  let owners := pad 16 (sub s.owners 0x10 16)
  let s := (useChannel chanFio 3 2 s).modFio fun x => { x with owners := owners }
  if outsReleased s then
    forOutputs (fun q s => s.modOut q fun o => { o with fA := f 0 q, fB := f 1 q, fC := f 2 q }) s
  else s

/-- Content of an I/O link frame from the SoC: the three fields of every output, the owners and markings (12 R314, R328; 16 R436; the
layout is a DESIGN CHOICE, log 207). -/
def commandFrame (s : State) : Bytes :=
  ((List.range 3).flatMap fun k => be 2 (flagsOf 16 fun q => qField s k q)) ++ pad 16 (sub s.owners 0x10 16)

/-- OUTPUT_COMMAND_FRAME (12 R314): a frame whose CRC fails is discarded and counted, FS-053; the drivers keep the last
accepted fields. -/
def outputCommandFrame (t : Time) (crcOk : Bool) (s : State) : State :=
  let s := advance t s
  if !socUp s || !dieUp s then s
  else if !iolArrives crcOk (commandFrame s) then detect 53 (locBlock s dieFio 0x44) (satField s P.fioLinkErr 15 0 1)
  else forOutputs evalOutput (takeFields (meetExpiry s))

def execOutputCommandFrame (t : Time) (crcOk : Bool) (s : State) : Host.Outcome State Fault Refusal :=
  done (outputCommandFrame t crcOk s)

/-- IO_LINK_LOSS (12 R315): no valid frame for 200 µs: I reads 0, the encoders are not valid, FS-054. -/
def ioLinkLoss (t : Time) (s : State) : State :=
  let s := advance t s
  if s.iol.lost ∨ !socUp s ∨ s.now < s.iol.frameAt + us 200 then s
  else
    let s := { s with iol := { s.iol with lost := true, image := 0, encBad := 3 } }
    detect 54 (locBlock s dieSoc 0x6B) (remeasure (publishImage 0 s))

def execIoLinkLoss (t : Time) (s : State) : Host.Outcome State Fault Refusal := done (ioLinkLoss t s)

/-! ### Input events -/

/-- INPUT_CHANGE_EVENT (12 R319): EV-010 of a change, or of changes merged, at most one per input in 1 ms. -/
def inputChangeEvent (t : Time) (i : Nat) (s : State) : State :=
  let s := advance t s
  let x := s.fin i
  let early := match x.evtAt with | some u => decide (s.now < u + ms 1) | none => false
  if !x.evtDue || early || decide (s.clk.sp ≠ .running) then s
  else
    let s := s.modIn i fun x => { x with evtDue := false, merged := 0, evtAt := some s.now }
    raiseEvent 10 0 [i, b2n (inValue s i), b2n (x.merged ≠ 0), min x.merged 65535, x.evtSample % 2 ^ 32] s

def execInputChangeEvent (t : Time) (i : Fin 32) (s : State) : Host.Outcome State Fault Refusal :=
  done (inputChangeEvent t i.val s)

/-- INPUT_DISCREPANCY (12 R321). -/
def inputDiscrepancy (t : Time) (k : Nat) (s : State) : State :=
  let s := advance t s
  if discDue k s then declareDisc k s else s

def execInputDiscrepancy (t : Time) (k : Fin 16) (s : State) : Host.Outcome State Fault Refusal :=
  done (inputDiscrepancy t k.val s)

/-! ### Test pulses (12 R322 to R324) -/

/-- A sample taken on the start edge of a window, before the window was told of, is masked after all: the filters of its inputs, their
pairs and the image stand as without it (12 R323, R347). What it has counted or raised stands (log 25). -/
def unsample (n : Nat) (s : State) : State :=
  match (instant s).sampled with
  | none => s
  | some (ins, pairs) =>
    let s := forInputs (fun i s =>
      if inTp s.fio.record i = n + 1 then
        (s.modIn i fun _ => tget {} ins i).modPair (i / 2) fun _ => tget {} pairs (i / 2)
      else s) s
    let s := s.modFio fun x => { x with image := inImage s }
    if s.iol.lost = false ∧ s.iol.frameAt = s.now then deliverImage s else s

/-- TEST_PULSE_WINDOW (12 R322 to R324): the window of TPn begins at `t`, in its slot of the 20 ms frame; its inputs are masked for its
400 µs and 100 µs more. `pinOk` says that the pin reads back as it should at the samples; `before`, `mid` and `after` are the samples
before the window, 350 µs into it, and the first one not masked after it; each is judged when it is taken. -/
def testPulseWindow (t : Time) (n : Nat) (pinOk : Bool) (before mid after : BitVec 32) (s : State) : State :=
  let s := advance t s
  if !dieUp s || s.fio.l1Low || !windowDue n s then s
  else
    let s := judgeTests s
    let s := if n = 0 then closeTestFrame s else s
    let s := unsample n s
    let s := forInputs (fun i s =>
      if inTp s.fio.record i = n + 1 then s.modIn i fun x => { x with maskTo := s.now + us 500 } else s) s
    let s := s.modFio fun x => {
      x with
      lastWin := some (n, s.now)
      window := some { n := n, start := s.now, pinOk := pinOk, before := before, mid := mid, after := after } }
    if (instant s).sampled.isSome then judgeTests s else s

def execTestPulseWindow (t : Time) (n : Fin 4) (pinOk : Bool) (before mid after : BitVec 32) (s : State) :
    Host.Outcome State Fault Refusal := done (testPulseWindow t n.val pinOk before mid after s)

/-! ### Encoders (12 R325, R326) -/

/-- The step of a quadrature transition: 1 where A leads B, -1 where B leads A. -/
def quadStep (a b a' b' : Bool) : Int :=
  if a ≠ a' then (if a' = b then -1 else 1) else if b ≠ b' then (if a = b' then 1 else -1) else 0

/-- ENCODER_EDGE (12 R325, R326): accepted levels of a channel. An illegal transition is not counted (DEDUCED, log 40). -/
def encoderEdge (t : Time) (ch : Nat) (a b : Bool) (s : State) : State :=
  let s := advance t s
  if pairMode s.fio.record (14 + ch) ≠ 3 || s.fio.l1Low then s
  else
    let e := s.fenc ch
    let s := s.modEnc ch fun e => { e with a := a, b := b }
    if e.a ≠ a ∧ e.b ≠ b then
      detect 42 (locBlock s dieFio 0x43 ch) (s.modEnc ch fun e => { e with faulted := true })
    else s.modEnc ch fun x => { x with count := w32i (x.count.toInt + quadStep e.a e.b a b) }

def execEncoderEdge (t : Time) (ch : Fin 2) (a b : Bool) (s : State) : Host.Outcome State Fault Refusal :=
  done (encoderEdge t ch.val a b s)

/-! ### Output faults and tests (12 R331 to R336) -/

/-- OUTPUT_OVERLOAD (12 R330, R331): an ON output reads low from 200 µs after switch-on, with L2P at 12.0 V or more, or
meets its current limit for 1 ms. -/
def outputOverload (t : Time) (q : Nat) (limited : Bool) (s : State) : State :=
  let s := advance t s
  let o := s.fout q
  if !o.drive || decide (o.test = some true) ||
      !(limited || (!o.rb && decide (o.switchedAt + us 200 ≤ s.now) && decide (12000 ≤ s.fio.l2mv))) then s
  else if qSafety s q || !bitAt (qCfg s.fio.record q) 4 then forceOff q (latchQ q 43 7 0 s)
  else
    let s := forceOff q (s.modOut q fun o => { o with retryAt := some (s.now + ms 1000) })
    detect 43 (locBlock s dieFio (0x20 + q)) (satField s P.fioCountQ 7 0 1)

def execOutputOverload (t : Time) (q : Fin 16) (limited : Bool) (s : State) : Host.Outcome State Fault Refusal :=
  done (outputOverload t q.val limited s)

/-- OVERLOAD_RETRY (12 R331): 1 s later the output tries ON again. -/
def overloadRetry (t : Time) (q : Nat) (s : State) : State :=
  let s := advance t s
  match (s.fout q).retryAt with
  | none => s
  | some u =>
    if s.now < u then s
    else evalOutput q (settle 43 ((meetExpiry s).modOut q fun o => { o with retryAt := none }))

def execOverloadRetry (t : Time) (q : Fin 16) (s : State) : Host.Outcome State Fault Refusal := done (overloadRetry t q.val s)

/-- EXTERNAL_DRIVE (12 R332): an OFF output reads high from RB_TIME after switch-off on. -/
def externalDrive (t : Time) (q : Nat) (s : State) : State :=
  let s := advance t s
  let o := s.fout q
  if o.drive || !o.rb || o.test.isSome || o.latched.contains 44 ||
      decide (s.now < o.switchedAt + qRbTime s.fio.record q) then s
  else
    let s := latchQ q 44 15 8 (openGroup (q / 4) s)
    s.modOut q fun o => { o with classifyAt := some (s.now + ms 2), external := none }

def execExternalDrive (t : Time) (q : Fin 16) (s : State) : Host.Outcome State Fault Refusal := done (externalDrive t q.val s)

/-- EXTERNAL_DRIVE_CLASSIFY (12 R332): the readback 2 ms later; low, the group's own switch; high, an external source. -/
def externalDriveClassify (t : Time) (q : Nat) (high : Bool) (s : State) : State :=
  let s := advance t s
  match (s.fout q).classifyAt with
  | none => s
  | some u => if s.now < u then s else s.modOut q fun o => { o with classifyAt := none, external := some high, rb := high }

def execExternalDriveClassify (t : Time) (q : Fin 16) (high : Bool) (s : State) : Host.Outcome State Fault Refusal :=
  done (externalDriveClassify t q.val high s)

/-- A test of an output begins (12 R333, R334). -/
def beginTest (q : Nat) (dark : Bool) (s : State) : State :=
  (s.modOut q fun o => { o with test := some dark, testAt := s.now }).modFio fun x => { x with lastTest := some (q, s.now) }

/-- A test of an output has lasted DARK (12 R333, R334). -/
def testOver (q : Nat) (s : State) : Bool := decide ((s.fout q).testAt + qDark s.fio.record q ≤ s.now)

/-- DARK_TEST (12 R333): in its slot, an output ON for 1 ms or more is switched off for DARK. -/
def darkTest (t : Time) (q : Nat) (s : State) : State :=
  let s := meetExpiry (advance t s)
  let o := s.fout q
  if o.drive && o.test.isNone && (qSafety s q || bitAt (qCfg s.fio.record q) 2) && decide (o.switchedAt + ms 1 ≤ s.now) && testDue q s then
    beginTest q true s
  else s

def execDarkTest (t : Time) (q : Fin 16) (s : State) : Host.Outcome State Fault Refusal := done (darkTest t q.val s)

/-- DARK_TEST_END (12 R333): when DARK has ended; a failure opens the group switch and latches FS-045. -/
def darkTestEnd (t : Time) (q : Nat) (wentLow : Bool) (s : State) : State :=
  let s := meetExpiry (advance t s)
  if (s.fout q).test ≠ some true || !testOver q s then s
  else
    let s := endTest q s
    if wentLow then s else latchQ q 45 31 24 (openGroup (q / 4) s)

def execDarkTestEnd (t : Time) (q : Fin 16) (wentLow : Bool) (s : State) : Host.Outcome State Fault Refusal :=
  done (darkTestEnd t q.val wentLow s)

/-- BRIGHT_TEST (12 R334): in its slot, an OFF output with BRIGHT_EN is pulsed ON, where nothing forces it OFF (12 R335; DEDUCED,
log 39) and no OFF vote or forced OFF meets the edge (R347). -/
def brightTest (t : Time) (q : Nat) (s : State) : State :=
  let s := meetExpiry (advance t s)
  let o := s.fout q
  if !o.drive && o.test.isNone && bitAt (qCfg s.fio.record q) 3 && outsReleased s && qClear s q && testDue q s &&
      decide (o.offAt ≠ some s.now) then
    beginTest q false s
  else s

def execBrightTest (t : Time) (q : Fin 16) (s : State) : Host.Outcome State Fault Refusal := done (brightTest t q.val s)

/-- BRIGHT_TEST_END (12 R334): when DARK has ended; a failure latches FS-046; the output is not forced otherwise. -/
def brightTestEnd (t : Time) (q : Nat) (wentHigh : Bool) (s : State) : State :=
  let s := meetExpiry (advance t s)
  if (s.fout q).test ≠ some false || !testOver q s then s
  else
    let s := endTest q s
    if wentHigh then s else latchQ q 46 31 24 s

def execBrightTestEnd (t : Time) (q : Fin 16) (wentHigh : Bool) (s : State) : Host.Outcome State Fault Refusal :=
  done (brightTestEnd t q.val wentHigh s)

/-- FEEDBACK_TIMEOUT (12 R336). -/
def feedbackTimeout (t : Time) (q : Nat) (s : State) : State :=
  let s := advance t s
  if feedbackDue q s then feedbackMiss q s else s

def execFeedbackTimeout (t : Time) (q : Fin 16) (s : State) : Host.Outcome State Fault Refusal :=
  done (feedbackTimeout t q.val s)

/-- GROUP_OVERCURRENT (12 Table 12.2): above 2.2 A for 10 ms, or above 3.5 A at once; FS-048, latched. -/
def groupOvercurrent (t : Time) (g mA durationUs : Nat) (s : State) : State :=
  let s := advance t s
  if (s.fgrp g).closed && (decide (3500 < mA) || (decide (2200 < mA) && decide (10000 ≤ durationUs))) then
    let s := openGroup g (s.modGroup g fun x => { x with fault := true })
    detect 48 (locBlock s dieFio (0x30 + g)) s
  else s

def execGroupOvercurrent (t : Time) (g : Fin 4) (milliamp durationUs : Nat) (s : State) : Host.Outcome State Fault Refusal :=
  done (groupOvercurrent t g.val milliamp durationUs s)

/-! ### Field supplies (12 R338 to R340) -/

/-- L1P_LOW (12 R338, R340): 2 consecutive samples below the minimum. -/
def l1pLow (t : Time) (mv : Nat) (s : State) : State :=
  let s := advance t s
  let min := l1Min s.fio.record
  if s.fio.l1Low || !decide (mv < min) || !borneOut (decide (s.fio.l1mv < min)) s then s
  else l1Falls (measureL1 mv s)

def execL1pLow (t : Time) (mv : Nat) (s : State) : Host.Outcome State Fault Refusal := done (l1pLow t mv s)

/-- L1P_RECOVER (12 R338, R340): 10 ms continuously above the minimum + 0.5 V. -/
def l1pRecover (t : Time) (mv : Nat) (raw : BitVec 32) (s : State) : State :=
  let s := advance t s
  if !s.fio.l1Low || !decide (l1Min s.fio.record + 500 < mv) || !decide (s.fio.l1BadAt + ms 10 ≤ s.now) then s
  else l1Returns raw (measureL1 mv s)

/-- A supply beyond 40 V is beyond the absolute maximum ratings (20 R507). -/
def execL1pRecover (t : Time) (mv : Nat) (raw : BitVec 32) (s : State) : Host.Outcome State Fault Refusal :=
  if 40000 < mv then .fault .absoluteMaximum else done (l1pRecover t mv raw s)

/-- L2P_LOW (12 R338, R339): 2 consecutive samples below the minimum; below the driver minimum every driver is off (R327). -/
def l2pLow (t : Time) (mv : Nat) (s : State) : State :=
  let s := advance t s
  let min := l2Min s.fio.record
  if s.fio.l2Low || !decide (mv < min) || !borneOut (decide (s.fio.l2mv < min)) s then s
  else dropDrivers (l2Falls (measureL2 mv s))

def execL2pLow (t : Time) (mv : Nat) (s : State) : Host.Outcome State Fault Refusal := done (l2pLow t mv s)

/-- L2P_RECOVER (12 R338): 10 ms continuously above the minimum + 0.5 V. -/
def l2pRecover (t : Time) (mv : Nat) (s : State) : State :=
  let s := advance t s
  if !s.fio.l2Low || !decide (l2Min s.fio.record + 500 < mv) || !decide (s.fio.l2BadAt + ms 10 ≤ s.now) then s
  else l2Returns (measureL2 mv s)

def execL2pRecover (t : Time) (mv : Nat) (s : State) : Host.Outcome State Fault Refusal :=
  if 40000 < mv then .fault .absoluteMaximum else done (l2pRecover t mv s)

/-- FIELD_OVERVOLTAGE (12 R338): 2 samples above 32.0 V raise FS-051 and nothing else. -/
def fieldOvervoltage (t : Time) (l2 : Bool) (mv : Nat) (s : State) : State :=
  let s := advance t s
  let was := if l2 then s.fio.l2Over else s.fio.l1Over
  let like := decide (32000 < if l2 then s.fio.l2mv else s.fio.l1mv)
  if mv ≤ 32000 || was || !borneOut like s then s
  else
    let s := if l2 then measureL2 mv s else measureL1 mv s
    let s := s.modFio fun x => if l2 then { x with l2Over := true } else { x with l1Over := true }
    detect 51 (locBlock s dieFio (if l2 then 0x42 else 0x41)) s

def execFieldOvervoltage (t : Time) (l2 : Bool) (mv : Nat) (s : State) : Host.Outcome State Fault Refusal :=
  if 40000 < mv then .fault .absoluteMaximum else done (fieldOvervoltage t l2 mv s)

/-! ### Heartbeat and Quench line (12 R341, R342; 01 R16; 15 R416, R417) -/

/-- HEARTBEAT_SEND (12 R341): sequence and the collector's health word; the Quench request is in it (15 R416). -/
def heartbeatSend (t : Time) (s : State) : State :=
  let s := advance t s
  if !socUp s then s
  else { s with iol := { s.iol with hbSent := some (s.iol.hbNext, s.flt.quench), hbNext := s.iol.hbNext + 1 } }

def execHeartbeatSend (t : Time) (s : State) : Host.Outcome State Fault Refusal := done (heartbeatSend t s)

/-- Content of a heartbeat frame: the sequence, and the health word with the Quench request (12 R341, 15 R416; the layout is a DESIGN
CHOICE, log 207). -/
def heartbeatBytes (seq : Byte) (quench : Bool) : Bytes := [seq, b8 (b2n quench)]

/-- HEARTBEAT_ACCEPT (12 R341, R342): the frame the SoC has sent reaches the die, with the content it was sent with. It is accepted if
its CRC passes, its sequence follows the previous frame's, and no Quench is requested; on the expiry edge it does not prevent the
expiry. -/
def heartbeatAccept (t : Time) (seq : Byte) (crcOk quenchReq : Bool) (s : State) : State :=
  let s := advance t s
  match s.iol.hbSent with
  | none => s
  | some (sq, qr) =>
    let ok := iolArrives crcOk (heartbeatBytes sq qr)
    if ok && decide ((seq, quenchReq) ≠ (sq, qr)) then s
    else
      let s := { s with iol := { s.iol with hbSent := none } }
      if s.fio.shut || decide (s.fio.record = []) then s
      else
        let s := meetExpiry s
        let follows := match s.fio.hbSeq with | some p => decide (sq = p + 1) | none => true
        let s := if ok then s.modFio fun x => { x with hbSeq := some sq } else s
        if !(ok && follows && !qr) then s.modFio fun x => { x with hbRun := 0 }
        else
          let s := s.modFio fun x => {
            x with hbAt := s.now, hbRun := min 4 (x.hbRun + 1), hbExpired := x.hbExpired && decide (x.hbRun + 1 < 4) }
          refreshFio (settle 52 s)

def execHeartbeatAccept (t : Time) (seq : Byte) (crcOk quenchReq : Bool) (s : State) : Host.Outcome State Fault Refusal :=
  done (heartbeatAccept t seq crcOk quenchReq s)

/-- HEARTBEAT_EXPIRY (12 R341). -/
def heartbeatExpiry (t : Time) (s : State) : State :=
  meetExpiry (advance t s)

def execHeartbeatExpiry (t : Time) (s : State) : Host.Outcome State Fault Refusal := done (heartbeatExpiry t s)

/-- QUENCH_LINE_CHANGE (01 R16, 15 R407, R417): the die reads the line on 2 samples. 10 is Quench, 01 none, each as the
collector drives it; 00 and 11 are taken as Quench, with FS-085. -/
def quenchLineChange (t : Time) (pair : BitVec 2) (s : State) : State :=
  let s := advance t s
  if pair = 1 then (if s.flt.quench then s else causeGone 85 (s.modFio fun x => { x with quench := false }))
  else if pair = 2 ∧ s.flt.quench = false then s
  else
    let s := forceSafety (s.modFio fun x => { x with quench := true })
    if pair = 2 then s else detect 85 (locBlock s dieFio 0x44) s (persists := true)

def execQuenchLineChange (t : Time) (pair : BitVec 2) (s : State) : Host.Outcome State Fault Refusal :=
  done (quenchLineChange t pair s)

/-! ### Record, self-test, temperature, supply of the die -/

/-- FIO_RECORD_APPLY (12 R344, R318): the record on its way takes effect; the filters are set from the raw sample. -/
def fioRecordApply (t : Time) (raw : BitVec 32) (s : State) : State :=
  let s := advance t s
  match s.fio.recordNext with
  | none => s
  | some (r, dflt) =>
    let s := s.modFio fun x => { x with record := r, recordNext := none, isDefault := dflt, raw := raw }
    remeasure (refreshFio (setFilters raw s))

def execFioRecordApply (t : Time) (raw : BitVec 32) (s : State) : Host.Outcome State Fault Refusal :=
  done (fioRecordApply t raw s)

/-- FIO_SELFTEST_COMPLETE (17 R444 to R446): the die's self-test ends; while L2P is low its output parts are deferred, and
it completes when they have run; a failure raises FS-088 and keeps every output OFF until the next start-up. -/
def fioSelftestComplete (t : Time) (pass : Bool) (s : State) : State :=
  let s := advance t s
  let x := s.fio
  if x.mode ≠ 1 ∨ x.testFailed ∨ (x.tested ∧ (x.deferred = false ∨ x.l2Low)) then s
  else if pass then refreshFio (s.modFio fun x => { x with tested := true, deferred := x.l2Low })
  else detect 88 (locDie s dieFio) (s.modFio fun x => { x with testFailed := true }) (persists := true)

def execFioSelftestComplete (t : Time) (pass : Bool) (s : State) : Host.Outcome State Fault Refusal :=
  done (fioSelftestComplete t pass s)

/-- Every driver turns off and the die stops sending frames until the module restarts; FS-087 (18 Table 18.1). -/
def shutDrivers (s : State) : State :=
  if s.fio.shut then s
  else
    let s := s.modFio fun x => { x with shut := true }
    let s := forOutputs forceOff s
    detect 87 (locDie s dieFio) s (persists := true)

/-- FIO_DRIVER_SHUTDOWN (20 R516, R523): FS-086 from 140 °C; at 155 °C every driver turns off, with FS-087. -/
def fioDriverShutdown (t : Time) (celsius : Int) (s : State) : State :=
  let s := setReg (advance t s) P.fioTemp (wrapN 32 celsius)
  let s := if 140 ≤ celsius then detect 86 (locDie s dieFio) s (persists := true) else causeGone 86 s
  if 155 ≤ celsius then shutDrivers s else s

/-- A junction above 165 °C is beyond the absolute maximum ratings (20 R507). -/
def execFioDriverShutdown (t : Time) (celsius : Int) (s : State) : Host.Outcome State Fault Refusal :=
  if 165 < celsius then .fault .absoluteMaximum else done (fioDriverShutdown t celsius s)

/-- FIO_INTERNAL_SUPPLY_TRIP (18 Table 18.1, 15 FS-087). -/
def fioInternalSupplyTrip (t : Time) (s : State) : State := shutDrivers (advance t s)

def execFioInternalSupplyTrip (t : Time) (s : State) : Host.Outcome State Fault Refusal := done (fioInternalSupplyTrip t s)

/-! ### Host commands (14 Table 14.10) -/

/-- A unit that owns a Q bit executes or is held by the debugger (12 R344). -/
def qOwnersBusy (s : State) : Bool :=
  (List.range 16).any fun q => match entryUnit (ownerEntry s.owners 0 q) with
    | some u => decide ((s.unit u).st = .run ∨ (s.unit u).st = .debug)
    | none => false

/-- FIO_LOAD (12 R344). -/
def fioLoadBody (rcd : Bytes) (s : State) : Answer :=
  if rcd.length ≠ 336 then reject Status.badParam s
  else if !crcEmbeddedOk rcd 4 then reject Status.checkFail s
  else if !fioFieldsOk rcd then reject Status.badParam s
  else if qOwnersBusy s then reject Status.wrongState s
  else (Status.ok, [], recheck ((storeObj kFioRecord 0 rcd s).modFio fun x => { x with recordNext := some (rcd, false) }))

def execFioLoad (h : Hdr) (rec : Bytes) (s : State) : Host.Outcome State Fault Refusal :=
  done (serve h 0x0601 rec (.fioLoad h rec) (fioLoadBody rec) s)

/-- FIO_READ (14 Table 14.10): the record in force; NOT_PRESENT where the die holds none yet. -/
def fioReadBody (s : State) : Answer :=
  if s.fio.record = [] then reject Status.notPresent s else (Status.ok, s.fio.record, s)

def execFioRead (h : Hdr) (s : State) : Host.Outcome State Fault Refusal :=
  done (serve h 0x0602 [] (.fioRead h) fioReadBody s)

/-- A latched fault is cleared by FIO_ACK, with EV-002. -/
def ackEvent (src : Nat) (loc : BitVec 64) (s : State) : State := raiseEvent 2 1 [0x0603] s src loc

/-- The acknowledgement of one output's faults; the location words of those that stay. -/
def ackOutput (q : Nat) (s : State) : List (BitVec 64) × State :=
  let loc := locBlock s dieFio (0x20 + q)
  let stay := (s.fout q).latched.filter (qCauseStays s q)
  let gone := (s.fout q).latched.filter fun n => !qCauseStays s q n
  let s := s.modOut q fun o => {
    o with
    latched := stay, rearm := o.rearm || (!gone.isEmpty && qSafety s q)
    external := if gone.contains 44 then none else o.external }
  (stay.map fun _ => loc, gone.foldl (fun s n => ackEvent n loc s) s)

/-- The acknowledgement of one group: its switch closes only when every output of it reads low (12 R346). -/
def ackGroup (g : Nat) (s : State) : List (BitVec 64) × State :=
  let loc := locBlock s dieFio (0x30 + g)
  let x := s.fgrp g
  if x.closed then ([], s)
  else if (List.range 4).any fun j => (s.fout (4 * g + j)).rb then (if x.fault then [loc] else [], s)
  else
    let s := s.modGroup g fun _ => { closed := true, fault := false }
    ([], if x.fault then ackEvent 48 loc s else s)

/-- The acknowledgement of one input's latched test faults: they stay while the last frame's checks failed. -/
def ackInput (i : Nat) (s : State) : List (BitVec 64) × State :=
  let loc := locBlock s dieFio i
  let x := s.fin i
  if !bitAt (inCfg s.fio.record i) 4 || !(x.testFault || x.crossFault) then ([], s)
  else if x.dirty || decide (x.clean = 0) then
    ((if x.testFault then [loc] else []) ++ (if x.crossFault then [loc] else []), s)
  else
    let s := s.modIn i fun x => { x with testFault := false, crossFault := false }
    let s := if x.testFault then ackEvent 39 loc s else s
    ([], if x.crossFault then ackEvent 40 loc s else s)

/-- The acknowledgement of an encoder channel (12 R326). -/
def ackEncoder (n : Nat) (s : State) : State :=
  if (s.fenc n).faulted then ackEvent 42 (locBlock s dieFio 0x43 n) (s.modEnc n fun e => { e with faulted := false }) else s

/-- FIO_ACK (12 R346): by block code, the words of the faults still latched. -/
def fioAckBody (s : State) : Answer :=
  let run (n : Nat) (f : Nat → State → List (BitVec 64) × State) (a : List (BitVec 64) × State) : List (BitVec 64) × State :=
    (List.range n).foldl (fun a i => let r := f i a.2; (a.1 ++ r.1, r.2)) a
  let s := { s with inst := { instant s with acked := some ((instant s).acked.getD (s.fio.outs, s.fio.groups)) } }
  let (words, s) := run 4 ackGroup (run 16 ackOutput (run 32 ackInput ([], s)))
  let s := ackEncoder 1 (ackEncoder 0 s)
  let s := [39, 40, 42, 43, 44, 45, 46, 47, 48].foldl (fun s n => settle n s) s
  let words := words.take 64
  (Status.ok, [b8 words.length] ++ words.flatMap (fun w => be 8 w.toNat), s)

def execFioAck (h : Hdr) (s : State) : Host.Outcome State Fault Refusal := done (serve h 0x0603 [] (.fioAck h) fioAckBody s)

end Sys2Proof.Machine
end

