-- ==== Sys2Proof/Machine/Record.lean ====
section
/-! DEFINITION. The records that the module keeps in MRAM in two copies, the configuration record (17 R447, R448) and the soft-repair
table (17 R455): their checks over their bytes, and the copy that serves. With them the checks of a parameter's value alone. -/

namespace Sys2Proof.Machine

/-- CRU_CAPACITY: credits per tick (04 R101). -/
def capacityAt (rate : Nat) : Nat := 1119500000000 / (if rate = 0 then 1 else rate)

/-- The largest value of a parameter: the credits go up to the capacity of the rate set (04 Table 4.7). -/
def paramMax (id : Nat) (r : ParamRow) (s : State) : Int :=
  if 0x302 ≤ id ∧ id ≤ 0x305 then (capacityAt (setRate s) : Int) else r.hi

/-! ### Checks by the value alone (00 R6, R9) -/

/-- The instance number of a parameter of an instance block. -/
def instOf (id : Nat) : Nat := (id % 0x100) / 16

/-- Reserved fields and the ranges of fields of a camera parameter (03 Table 3.6, R57). -/
def camFieldsOk (off v : Nat) : Bool :=
  if off = 3 then decide (v % 2 = 0)
  else if off = 6 then decide (1 ≤ fld v 5 4 ∧ fld v 7 6 = 0)
  else if off = 7 then decide (1 ≤ fld v 1 0 ∧ fld v 1 0 ≤ 2 ∧ fld v 3 3 = 0)
  else if off = 0xC then decide (fld v 7 4 = 0 ∧ 1 ≤ fld v 15 8)
  else true

/-- Of a scan-out parameter (08 Table 8.8, R209). -/
def pipeFieldsOk (off v : Nat) : Bool :=
  if off = 2 then decide (fld v 3 0 ≤ 10 ∧ fld v 7 5 = 0)
  else if off = 4 then decide (v % 2 = 0)
  else if off = 0xA then decide (fld v 2 2 = 0 ∧ fld v 7 5 = 0 ∧ fld v 15 12 = 0)
  else if off = 0xB then decide (fld v 31 24 = 0)
  else true

/-- Of FLT_CFG and FLT_CLASS (15 Table 15.8). -/
def fltCfgOk (v : Nat) : Bool := decide (1 ≤ fld v 7 0 ∧ 1 ≤ fld v 31 8 ∧ fld v 31 8 ≤ 3600000)
def fltClassOk (v : Nat) : Bool :=
  decide (1 ≤ fld v 2 0 ∧ fld v 2 0 ≤ 4 ∧ fld v 5 3 ≤ 4 ∧ fld v 8 6 ≤ 4 ∧ fld v 11 9 ≤ 4 ∧ fld v 15 12 = 0)

/-- The fields of a parameter's value. -/
def fieldsOk (id v : Nat) : Bool :=
  if 0x100 ≤ id ∧ id < 0x200 then camFieldsOk (id % 16) v
  else if 0x200 ≤ id ∧ id < 0x280 then pipeFieldsOk (id % 16) v
  else if 0x700 ≤ id ∧ id < 0x760 then fltCfgOk v
  else if 0x760 ≤ id ∧ id < 0x7C0 then fltClassOk v
  else if 0xA40 ≤ id ∧ id < 0xA56 then decide (1 ≤ fld v 7 0)
  else true

/-- The value lies within the parameter's type and range. -/
def inParamRange (id : Nat) (r : ParamRow) (w : Word) (s : State) : Bool :=
  let v : Int := if r.typ ≤ 3 then (w.toNat : Int) else w.toInt
  decide (r.lo ≤ v ∧ v ≤ paramMax id r s)

/-! ### The copy that serves -/

/-- Serial order of two sequences: `a` is the later (17 R448, R455). -/
def laterSeq (a b : Nat) : Bool := decide (0 < (a + 2 ^ 32 - b) % 2 ^ 32 ∧ (a + 2 ^ 32 - b) % 2 ^ 32 < 2 ^ 31)

/-- A copy that reads damaged: its check field, at `off`, no longer matches (DESIGN CHOICE, log 211). -/
def damaged (off : Nat) (bs : Bytes) : Bytes := splice bs off (le 4 (0xFFFFFFFF - crcEmbedded bs off))

/-- The copies of a record as they read: `last` is copy 1 where it was written last; `bad` says which of the one written last and the
other reads damaged. -/
def readCopies (off : Nat) (last : Bool) (bad : Bool × Bool) (c0 c1 : Bytes) : Bytes × Bytes :=
  let read (b : Bool) (bs : Bytes) : Bytes := if b && !bs.isEmpty then damaged off bs else bs
  if last then (read bad.2 c0, read bad.1 c1) else (read bad.1 c0, read bad.2 c1)

/-- The copy that serves: of those that pass, the one of the later SEQ (at offset 4 of both records): 1 for true. -/
def goodCopy (ok : Bytes → Bool) (c : Bytes × Bytes) : Option Bool :=
  if ok c.1 then (if ok c.2 && laterSeq (u32 c.2 4) (u32 c.1 4) then some true else some false)
  else if ok c.2 then some true else none

def copyAt (b : Bool) (c : Bytes × Bytes) : Bytes := if b then c.2 else c.1

/-! ### The configuration record (17 R447, R448, Table 17.8) -/

/-- The entries of a record, and its pool table. -/
def cfgCount (bs : Bytes) : Nat := min (u16 bs 2) 1152
def cfgEntries (bs : Bytes) : Table (Option Word) :=
  (List.range (cfgCount bs)).foldl (fun t n => tset none t (u16 bs (0x10 + 8 * n)) (some (w32 (u32 bs (0x14 + 8 * n))))) []
def cfgPoolOf (bs : Bytes) : Bytes := sub bs (0x10 + 8 * cfgCount bs) (u16 bs 8)

/-- The registers with the values of a record. -/
def recordRegs (cfg : Table (Option Word)) : Table Word :=
  cfg.foldl (fun t e => match e.2 with | some v => regSet t e.1 v.toNat | none => t) []

/-- CFG_MIN and CFG_MAX of the running firmware's container (19 R486); the factory image supports the FORMAT as shipped (log 6). -/
def cfgFormats (s : State) : Nat × Nat :=
  let i := (activeSlot s).image
  if i = [] then (1, 1) else (u16 i 0x14, u16 i 0x16)

/-- Entry `n` of a record: reserved field, ascending ID, a defined RW parameter, a VALUE in its range (17 R448 check 3), judged with
the record's own registers. -/
def cfgEntryOk (bs : Bytes) (n : Nat) (s : State) : Bool :=
  let id := u16 bs (0x10 + 8 * n)
  let v := w32 (u32 bs (0x14 + 8 * n))
  decide (u16 bs (0x12 + 8 * n) = 0) && decide (n = 0 ∨ u16 bs (0x08 + 8 * n) < id) &&
    match paramRow id with
    | none => false
    | some r => decide (r.acc = 1) && inParamRange id r v s && fieldsOk id v.toNat

/-- The checks of a copy of the configuration record, in the order of 17 R448: RCRC, FORMAT, fields, pool table. -/
def cfgCopyOk (s : State) (bs : Bytes) : Bool :=
  let n := u16 bs 2
  let p := u16 bs 8
  decide (16 ≤ bs.length) && crcEmbeddedOk bs 0x0C &&
    decide ((cfgFormats s).1 ≤ u16 bs 0 ∧ u16 bs 0 ≤ (cfgFormats s).2) &&
    decide (n ≤ 1152 ∧ bs.length = 0x10 + 8 * n + p ∧ u16 bs 0x0A = 0) &&
    ((List.range n).all fun k => cfgEntryOk bs k { s with regs := recordRegs (cfgEntries bs) }) &&
    (decide (p = 0) || (crcEmbeddedOk (cfgPoolOf bs) 4 && poolFieldsOk (cfgPoolOf bs)))

/-- The copy of the configuration record that serves, where one passes. -/
def cfgGood (s : State) : Option Bool := goodCopy (cfgCopyOk s) (s.mram.cfgCopy0, s.mram.cfgCopy1)

/-- What the copies of the configuration record and of the soft-repair table read like in this start-up. -/
def readMram (cfgBad repairBad : Bool × Bool) (s : State) : State :=
  s.modMram fun m =>
    let c := readCopies 0x0C m.cfgLast cfgBad m.cfgCopy0 m.cfgCopy1
    let r := readCopies 0x0C m.repairLast repairBad m.repairCopy0 m.repairCopy1
    { m with cfgCopy0 := c.1, cfgCopy1 := c.2, repairCopy0 := r.1, repairCopy1 := r.2 }

/-- The configuration record that serves is taken (17 R448); with none, FS-096, an empty record, and nothing of the video
configuration. -/
def chooseRecord (s : State) : Bool × State :=
  match cfgGood s with
  | some b =>
    let bs := copyAt b (s.mram.cfgCopy0, s.mram.cfgCopy1)
    (true, s.modMram fun m => {
      m with cfg := cfgEntries bs, cfgPool := cfgPoolOf bs, cfgSeq := w32 (u32 bs 4), cfgFormat := u16 bs 0, cfgLast := b })
  | none =>
    let s := writeCfg [] [] s
    let s := (s.mram.objs.filter fun e => decide (e.1 / 65536 ≤ kIcon)).foldl (fun s e => withhold e.1 s) s
    (false, detect 96 (locAddr s dieMram 0x1000) s (persists := true))

/-- ST_FAST for this start-up: of the copy that serves, else of the copy written last as the MRAM holds it, its check apart
(17 R441, R443; DESIGN CHOICE, log 212). -/
def storedFast (s : State) : Bool :=
  let bs := copyAt ((cfgGood s).getD s.mram.cfgLast) (s.mram.cfgCopy0, s.mram.cfgCopy1)
  decide (tget none (cfgEntries bs) P.stFast = some 1)

/-! ### The soft-repair table (17 R455, Table 17.5) -/

/-- A copy passes: TCRC, FORMAT, length. -/
def repairCopyOk (bs : Bytes) : Bool :=
  decide (16 ≤ bs.length) && crcEmbeddedOk bs 0x0C && decide (u16 bs 0 = 1 ∧ u16 bs 2 ≤ 1024 ∧ bs.length = 0x10 + 16 * u16 bs 2)

/-- Its entries. -/
def repairEntries (bs : Bytes) : List Bytes := (List.range (min (u16 bs 2) 1024)).map fun n => sub bs (0x10 + 16 * n) 16

/-- Is a Crucible page. -/
def isPage (e : Bytes) : Bool := decide (u8 e 8 = 2)

/-- The soft-repair table that serves is taken; with none there is no entry. Its Crucible pages stand in for the pages they name
(17 R452). -/
def chooseRepairs (s : State) : State :=
  let c := (s.mram.repairCopy0, s.mram.repairCopy1)
  let g := goodCopy repairCopyOk c
  let l := match g with | some b => repairEntries (copyAt b c) | none => []
  let pages := l.filter isPage
  let s := s.modMram fun m => {
    m with
    repairs := l
    repairSeq := match g with | some b => w32 (u32 (copyAt b c) 4) | none => m.repairSeq
    repairLast := g.getD m.repairLast }
  let s := s.modCru fun c => {
    c with spares := pages.foldl (fun t e => tset 0 t (((leAt 8 e 0 / 64) % 2 ^ 34) * 8 / 4096) (u16 e 10 + 1)) [] }
  setReg (setReg s P.stRepairs l.length) P.stCruSpares pages.length

/-! ### Stored objects (17 R448, R435 of chapter 16) -/

/-- The check field of a stored object: its offset (Tables 5.1, 5.6, 5.8, 5.10, 8.4, 8.5, 8.7, 7.7, 9.3, 11.6, 12.4, 13.3, 13.7); CCRC of
a context is a trailer, the others are embedded (16 R435). -/
def objCheckOff (kind : Nat) : Nat :=
  if kind = kContext then 0x7C else if kind = kMesh then 0xFC
  else if kind = kOverlay ∨ kind = kLayer ∨ kind = kProgram then 0x0C else 4
def objOk (kind : Nat) (bs : Bytes) : Bool :=
  if kind = kContext then crcTrailerOk bs 0x7C else crcEmbeddedOk bs (objCheckOff kind)

/-- A stored object that reads damaged (DESIGN CHOICE, log 211). -/
def damagedObj (kind : Nat) (bs : Bytes) : Bytes :=
  if kind = kContext then bs.take 0x7C ++ le 4 (0xFFFFFFFF - crcStore (bs.take 0x7C)) else damaged (objCheckOff kind) bs

/-- A stored object that fails its check is not restored, and stays in MRAM; FS-096 with its kind and index. Where the firmware
has placed it in the object store is not stated (log 48). -/
def dropObject (kind ix : Nat) (s : State) : State :=
  let loc := locAddr s dieMram (0x2100000 + (Config.freeWord s.free).toNat % 0x1F00000)
  let s := { s with free := s.free + 1 }
  if kind = kConfirmed then
    (if s.mram.confirmed = none then s else detect 96 loc (withhold (objKey kConfirmed 0) s) 14 true)
  else if kind = 0 ∨ obj s kind ix = [] then s
  else detect 96 loc (withhold (objKey kind ix) s) (kind + 256 * ix) true

/-- Every stored object is checked under its own check value before it is restored (17 R448); `bad` names those that read damaged. How
the confirmed check value is protected is not stated: it comes with the list (log 211). -/
def checkObjects (bad : List (Nat × Nat)) (s : State) : State :=
  let s := s.modMram fun m => {
    m with objs := bad.foldl (fun t e =>
      let k := objKey e.1 e.2
      if tget [] t k = [] then t else tset [] t k (damagedObj e.1 (tget [] t k))) m.objs }
  let s := s.mram.objs.foldl (fun s e =>
    if objOk (e.1 / 65536) e.2 then s else dropObject (e.1 / 65536) (e.1 % 65536) s) s
  if bad.contains (kConfirmed, 0) then dropObject kConfirmed 0 s else s

end Sys2Proof.Machine
end

