-- ==== Sys2Proof/Machine/Boot.lean ====
section
/-! DEFINITION. The start-up sequence (chapter 17) and ROM recovery (19 R500): what a release of nRESET leads to. -/

namespace Sys2Proof.Machine

/-! ### What a reset leaves (18 R479, 17 R441) -/

/-- The field I/O die, which nRESET does not reset: it keeps its filters, and holds every output OFF (18 R479, 17 R444). A
power-up clears it whole. -/
def resetFio (powerOn : Bool) (s : State) : State :=
  if powerOn then { s with fio := {} }
  else
    let s := forOutputs forceOff (s.modFio fun x => {
      x with
      mode := 1
      tested := false
      deferred := false
      testFailed := false
      shut := false })
    s.modFio fun x => { x with recordNext := none }

/-- Everything the module holds outside its non-volatile memories goes to its reset value; SYS_BOOT_ID counts up. -/
def resetAll (powerOn : Bool) (env : StartOutcome) (s : State) : State :=
  let z : State := {
    pending := s.pending
    now := s.now
    startAt := s.now
    free := s.free
    cru := { spares := s.cru.spares }
    fio := (resetFio powerOn s).fio
    erg := { tx := s.erg.tx }
    host := { tx := s.host.tx }
    upd := { s.upd with lock := 0, lockAt := 0, failRun := [], lockout := [] }
    mram := { s.mram with bootId := s.mram.bootId + 1 } }
  let z := setReg z P.sysResetCause (if powerOn then 1 else 2)
  let z := setReg (setReg z P.sysTj (wrapN 32 env.tj)) P.sysTjMax (wrapN 32 env.tj)
  let z := setReg (setReg z P.cruTemp (wrapN 32 env.cruTemp)) P.fioTemp (wrapN 32 env.fioTemp)
  setReg (setReg z P.stRepairs z.mram.repairs.length) P.stCruSpares
    (z.mram.repairs.filter fun e => decide (u8 e 8 = 2)).length

/-- The start-up stops (17 Table 17.2, 19 R504). -/
def stopAt (step : Nat) (s : State) : State := s.modSt fun x => { x with step := step, stopped := true }

/-- A step has completed. -/
def stepDone (n : Nat) (s : State) : State := s.modSt fun x => { x with step := n }

/-! ### Step 1 (19 R501, R503) -/

/-- The erase of RETURN (19 R503): configuration record, objects, journals, confirmed value, event log mirror. -/
def eraseReturn (s : State) : State :=
  (s.modMram fun m => {
    m with
    cfg := []
    cfgPool := []
    cfgCopy0 := []
    cfgCopy1 := []
    objs := []
    confirmed := none
    journals := []
    mirror := [] }).modUpd fun u => { u with eraseDone := true }

/-- The erase of RETURN is still to be made (19 R503); a start-up that makes it finds no configuration record (DEDUCED, log 47). -/
def eraseDue (s : State) : Bool := decide (s.upd.lc = 3) && !s.upd.eraseDone

/-- Step 1: fuses read and voted, the erase, the vendor debug port. -/
def stepRom (env : StartOutcome) (s : State) : State :=
  let s := s.modUpd fun u => { u with lc := max u.lc ((env.lcVoteBad.map (·.val)).getD 0) }
  let s := if env.fuseBad then detect 93 (locDie s dieSoc) s (persists := true) else s
  let s := if eraseDue s then eraseReturn s else s
  stepDone 1 (s.modUpd fun u => { u with debugPort := decide (u.lc = 0) || (decide (u.lc = 3) && u.eraseDone) })

/-! ### Steps 2 to 4 (17 R445, Table 17.2) -/

/-- Units without which the start-up stops: SP, collector, MRAM controller, tick generator, clock generation, I/O link. -/
def vitalBlocks : List Nat := [0x60, 0x68, 0x6A, 0x71, 0x69, 0x6B]

/-- A failure of a unit found at start-up, by its kind (17 Table 17.6): taken out as in service, or kept out until the next start-up;
FS-089 of its logic or its known-answer test, FS-090 or FS-091 of its memory (17 R445, R451). -/
def unitFailed (e : Nat × Nat) (s : State) : State :=
  let logic := decide (e.2 ≠ 2 ∧ e.2 ≠ 3)
  match bistUnit e.1 with
  | some (cls, unit) =>
    let s := confirmFail cls unit e.2 s
    if cls = 0 ∧ e.2 = 1 then detect 89 (locBlock s dieSoc e.1) s else s
  | none =>
    let s := s.modSt fun x => { x with blocksOut := insertNat e.1 x.blocksOut, failUnit := e.1, failKind := e.2 }
    if logic then detect 89 (locBlock s dieSoc e.1) s else memoryFault e.1 e.2 s

/-- The failures that step 2 finds, of logic and of known-answer tests; step 3 finds those of memory (17 Table 17.1). -/
def inStep2 (e : Nat × Nat) : Bool := decide (e.2 ≠ 2 ∧ e.2 ≠ 3)

/-- A unit without which the start-up stops is among failures. -/
def vitalIn (bad : List (Nat × Nat)) : Bool := bad.any fun e => vitalBlocks.contains e.1

/-- The units whose channels test themselves in step 2: by block code, the field I/O die's apart (16 R431, 17 R451). -/
def chanUnits : List (Nat × Nat) :=
  ((List.range 0x20).map fun b => (b, 0)) ++ [(0x20, 0), (0x21, 0), (0x22, 0)] ++ ((List.range 24).map fun c => (0x28 + c, 0)) ++
    [(0x50, 0), (0x5A, 2), (0x60, 0), (0x61, 1), (0x6A, 0), (0x6B, 3), (0x70, 0), (chanFio, 3)]

/-- Step 2: clocks lock, lanes enter service, the channels load their presets and test them, units that fail leave. -/
def stepLogic (bad : List (Nat × Nat)) (s : State) : State :=
  let s := s.modClk fun c => { c with locks := 0x7F }
  let s := (List.range 3).foldl (fun s l => s.modLane l fun x => { x with st := .inService }) s
  let s := chanUnits.foldl (fun s u => useChannel u.1 u.2 0 s) s
  stepDone 2 (bad.foldl (fun s b => unitFailed b s) s)

/-- Step 3: the soft-repair table that serves, the macros repaired now (17 R452, R455); units whose memory fails leave. -/
def stepMemory (bad : List (Nat × Nat)) (repaired : List Nat) (s : State) : State :=
  stepDone 3 (bad.foldl (fun s b => unitFailed b s) (repaired.foldl (fun s b => repairSram b 0 s) (chooseRepairs s)))

/-- Step 4: pages that fail are remapped (17 R452), and the Crucible enters service, or is lost with cause 1 (04 R107). Which macro and
word has failed is not stated (log 43). -/
def stepCrucible (bad : Bool) (repairs : List Nat) (s : State) : State :=
  let s := repairs.foldl (fun s k => repairPage (4096 * k) 0 s) s
  let s := if bad then
      let s := memoryFault 0x50 2 (setCruState .lost (setReg s P.cruLossCause 1))
      detect 9 (locBlock s dieSoc 0x50) (setDom 5 .heldInReset s) 1
    else setCruState .inService s
  stepDone 4 s

/-! ### Step 6 (17 R447, R448) -/

/-- A stored context is restored where it passes the checks of a write against what is restored with it, the pool table first
(05 R115); one that does not is dropped like any object that fails its check (log 185). -/
def restoreContext (v : Nat) (s : State) : State :=
  let c := obj s kContext v
  if cxFieldsOk s v c then s.modView v fun x => { x with ctx := c } else dropObject kContext v s

/-- Contexts, tables and icons are taken from the object store (05 R120, 08 R223); a Mirage context after the envelope context
that it names. -/
def restoreViews (s : State) : State :=
  let s := (List.range 8).foldl (fun s p =>
    reloadIcon p (s.modPipe p fun x => { x with sel := obj s kSelect p, layout := obj s kLayout p, region := obj s kRegion p })) s
  let ix := objIndexes s kContext
  let mirage := ix.filter fun v => cxMirage (obj s kContext v)
  (ix.filter (fun v => !cxMirage (obj s kContext v)) ++ mirage).foldl (fun s v => restoreContext v s) s

/-- The registers take the record's values, those of the tick edge and of the start-up with them. -/
def loadRegs (s : State) : State :=
  let s := s.mram.cfg.foldl (fun s e => match e.2 with | some v => setReg s e.1 v.toNat | none => s) s
  { s with regsEdge := s.regs, regsBoot := s.regs }

/-- The mode of each trio comes into force (09 R252); a split core does not take the state OUT (R254, log 184). -/
def takeModes (s : State) : State :=
  (List.range 8).foldl (fun s t =>
    let split := decide (reg s (P.trioMode t) = 1)
    let s := s.modTrio t fun x => { x with split := split }
    if split then (List.range 3).foldl (fun s k => s.modCore (coreIx t k) fun c => { c with st := .inn }) s else s) s

/-- Step 6. Where the stored meshes, overlays and layers do not all fit the pool table, none of them is placed (DESIGN CHOICE, log
191). -/
def stepConfig (s : State) : State :=
  let s := loadRegs s
  let s := takeSource (reg s P.tickSource) (s.modTick fun k => { k with rate := reg s P.tickRate })
  let s := takeModes s
  let tbl := s.mram.cfgPool
  let s := s.modCru fun c => { c with pool := tbl, runs := (placeAll tbl s (placedObjects s) []).getD [] }
  let s := restoreViews (setOwners (obj s kOwner 0) s)
  stepDone 6 (copyObjects (copyContexts s))

/-! ### Step 7 (11 R292, R300) -/

/-- The units with a program in MRAM. -/
def storedUnits (s : State) : List Nat :=
  (objIndexes s kProgram).filter fun u => decide ((u % 4 = 0) ↔ ((s.trio (u / 4)).split = false))

/-- A program is copied to its cores, its journal restored; without a copy that serves, FS-036 (11 R300). -/
def restoreUnitProgram (u : Nat) (s : State) : State :=
  let ok := (journalBest s u).isSome
  let s := placeProgram u (obj s kProgram u) s
  let s := s.modUnit u fun x => { x with kOk := ok }
  if ok then s else detect 36 (locAddr s dieMram (journalAddr u 0)) s (u / 4 + 256 * (u % 4)) true

/-- Every retentive journal of a trio was restored (11 R292). -/
def journalsOk (t : Nat) (s : State) : Bool := (storedUnits s).all fun u => decide (u / 4 ≠ t) || (s.unit u).kOk

/-- The unit starts by itself (11 R292). -/
def autostarts (u : Nat) (s : State) : Bool :=
  bitAt (u16 (obj s kProgram u) 8) 0 && journalsOk (u / 4) s && mayStart u s

/-- Step 7. -/
def stepPrograms (badJournals : List Nat) (autostart : Bool) (s : State) : State :=
  let s := badJournals.foldl (fun s k => s.modMram fun m => { m with journals := tset [] m.journals k [] }) s
  let us := storedUnits s
  let s := recheck (us.foldl (fun s u => restoreUnitProgram u s) s)
  let s := if autostart then us.foldl (fun s u => if autostarts u s then startUnit u 0 s else s) s else s
  stepDone 7 s

/-! ### Steps 8 to 10 (17 R444, 13 R364, 12 R529) -/

/-- Step 8: the die takes the stored record, or the default record. -/
def stepFio (s : State) : State :=
  let r := obj s kFioRecord 0
  stepDone 8 (s.modFio fun x => { x with mode := 1, recordNext := some (if r = [] then (defaultRecord, true) else (r, false)) })

/-- Blocks of the Erg Link. -/
def ergOut (s : State) : Bool := [0x58, 0x59, 0x5A].any fun b => s.st.blocksOut.contains b

/-- Step 9: each module starts by its role; a worker or the standby is waited for (13 R364). -/
def stepJoin (s : State) : State :=
  let role := regB s P.ergRole
  let s := s.modErg fun e => { e with role := role, device := regB s P.ergDevice, map := obj s kMap 0 }
  if role = 0 ∨ ergOut s then beginCameraStart s
  else
    let s := joinErg s
    if role = 1 then beginCameraStart s else s.modErg fun e => { e with joinWait := true, joinAt := s.now }

/-- The links that a fast start trains from the end of step 2 on (17 R443). -/
def trainEarly (s : State) : State :=
  let s := (List.range 16).foldl (fun s c => if reg s (P.camEnable c) = 1 then trainCamera c s else s) s
  (List.range 8).foldl (fun s p => if reg s (P.soEnable p) = 1 then trainPipe p s else s) s

/-- The segments that steps 2 and 3 of a fast start have run: 0 and 1 of every sliceable unit (17 R449, R461). -/
def markFast (s : State) : State :=
  s.modSt fun x => {
    x with
    fast := true
    passed := ((List.range 8).map (0x10 + ·) ++ (List.range 3).map (0x20 + ·) ++ (List.range 24).map (0x28 + ·)).foldl
      (fun t b => tset 0 t b 3) x.passed }

/-- The ports and pipes that have trained their links before step 10 of a fast start (17 R443). -/
def trainedEarly (l : List (Nat × Nat × Nat)) (s : State) : State :=
  l.foldl (fun s e =>
    if e.1 < 16 then (if (s.cam e.1).st = .training then camLinkLock s.now e.1 e.2.1 e.2.2 s else s)
    else if 0x18 ≤ e.1 ∧ e.1 < 0x20 then pipeTrainingDone s.now (e.1 - 0x18) e.2.1 e.2.2 s else s) s

/-- The end of step 2 of a fast start (17 R443): the ROM checks the configuration record; where it passes, ports and pipes train with
the values it holds; the units count as tested in segments 0 and 1 (R461). Whether the record passes. -/
def fastPrelude (s : State) : Bool × State :=
  let (ok, s) := chooseRecord s
  (ok, if ok then trainEarly (loadRegs (markFast s)) else markFast s)

/-- Steps 6 to 10, with firmware running: `ok` that the configuration record has passed its check. -/
def startConfigured (env : StartOutcome) (ok : Bool) (s : State) : State :=
  let s := stepConfig (checkObjects env.badObjects s)
  let s := stepFio (stepPrograms env.badJournal ok s)
  let s := advance (s.startAt + ms env.elapsedMs) s
  let s := s.modTick fun k => { k with count := w32 env.ticks, lastEdge := s.now, loose := true }
  let s := collectorSelftest s.now (!env.collectorBad) s
  stepJoin (trainedEarly env.trained s)

/-- Steps 2 to 10. -/
def startSteps (env : StartOutcome) (s : State) : State :=
  let logic := env.badBlocks.filter inStep2
  let memory := env.badBlocks.filter fun e => !inStep2 e
  let s := stepLogic logic s
  if vitalIn logic then stopAt 1 s
  else
    let fast := storedFast s
    let (ok, s) := if fast then fastPrelude s else (true, s)
    let s := stepMemory memory env.repaired s
    if vitalIn memory then stopAt 2 s
    else
      let (booted, s) := bootSp env.fwReason (stepCrucible env.cruBad env.cruRepairs s)
      if !booted then (stopAt 4 s).modSt fun x => { x with rom := true }
      else if fast then startConfigured env ok (stepDone 5 s)
      else
        let (ok, s) := chooseRecord (stepDone 5 s)
        startConfigured env ok s

/-- NRESET_RELEASE (17 R441, 19 R500): start-up, or ROM recovery where SVC_BOOT is high. -/
def startUp (powerOn : Bool) (env : StartOutcome) (s : State) : State :=
  let s := readBoot env.bootBad (readMram env.cfgCopyBad env.repairCopyBad (stepRom env (resetAll powerOn env s)))
  if s.upd.lc = 4 then stopAt 1 s
  else if env.svcBoot then
    let cfg := match cfgGood s with
      | some b => cfgEntries (copyAt b (s.mram.cfgCopy0, s.mram.cfgCopy1))
      | none => []
    let s := { s with regsBoot := recordRegs cfg }
    let sp := env.badBlocks.filter fun e => decide (e.1 = 0x60)
    if sp = [] then s.modSt fun x => { x with rom := true } else stopAt 1 (sp.foldl (fun s e => unitFailed e s) s)
  else startSteps env s

/-- nRESET rises after a reset, or power comes up. -/
def nresetRelease (t : Time) (powerOn : Bool) (env : StartOutcome) (s : State) : State :=
  let s := advance t s
  if powerOn || s.st.inReset || decide (s.startAt = 0 ∧ s.st.step = 0) then startUp powerOn env s else s

def execNresetRelease (t : Time) (powerOn : Bool) (env : StartOutcome) (s : State) : Host.Outcome State Fault Refusal :=
  done (nresetRelease t powerOn env s)

end Sys2Proof.Machine
end

