-- ==== Sys2Proof/Machine/ParamRead.lean ====
section
/-! DEFINITION. Reading the parameter space (14 R402, R404): the parameters that show the state of a unit, PARAM_READ and
PARAM_INFO. Every other parameter reads its register. -/

namespace Sys2Proof.Machine

/-! ### Words that show the state of a unit -/

/-- Fields of `w` bits of `n` instances, instance 0 lowest. -/
def fieldsOf (n w : Nat) (f : Nat → Nat) : Nat := (List.range n).foldl (fun a i => a + (f i % 2 ^ w) * 2 ^ (w * i)) 0

def domCode : DomState → Nat
  | .running => 0 | .stopped => 1 | .heldInReset => 2

/-- The state of a domain: a removed lane's is held in reset; one that stops on this very edge still reads as running (18 R469, R480,
Table 18.3). -/
def domainState (d : Nat) (s : State) : DomState :=
  if stopsNow d s then .running
  else if domUp d s && decide (2 ≤ d ∧ d < 5) && (s.lane (d - 2)).removed then .heldInReset else tget .running s.clk.doms d

def laneCode : LaneState → Nat
  | .inService => 0 | .underTest => 1 | .out => 2

def coreCode : CoreState → Nat
  | .inn => 0 | .rejoining => 1 | .underTest => 2 | .out => 3

def trackCode : TrackState → Nat
  | .invalid => 0 | .init => 1 | .run => 2

/-- The link of an output has been lost by the pipe that drives it. -/
def outputLost (o : Nat) (s : State) : Bool :=
  (List.range 8).any fun p => decide (pipeOutput p s = o ∧ (s.pipe p).st = .linkDown)

/-- SYS_DOMAIN_PORTS (18 Table 18.6): camera ports, OUT0 to OUT7, EDP0 and EDP1. The loss of a port's clock is a loss of its link
(18 Table 18.1): a port's domain does not run while a started port has no lock, or its pipe is LINK_DOWN (DEDUCED, log 49). -/
def domainPorts (s : State) : Nat :=
  flagsOf 16 (fun c => decide ((s.cam c).st = .lost ∧ (s.cam c).gear = 0)) + 65536 * flagsOf 10 (fun i => outputLost (i + 1) s)

/-- Active pixel rate of the pipes that are not DISABLED, in 1,000 px/s (08 Table 8.9). -/
def pixelLoad (s : State) : Nat :=
  ((List.range 8).foldl (fun a p => if (s.pipe p).st = .disabled then a else a + hact p s * vact p s * s.tick.rate) 0) / 1000000

/-- TRIO_STATE (09 Table 9.5). -/
def trioStateWord (t : Nat) (s : State) : Nat :=
  if (s.trio t).split then fieldsOf 3 4 fun c => runCode (s.unit (4 * t + 1 + c)).st
  else fieldsOf 3 4 fun _ => runCode (s.unit (4 * t)).st

/-- TRIO_CORES (09 Table 9.5): the next compare slice is that of the cycle number of the next vote (R242). -/
def trioCoresWord (t : Nat) (s : State) : Nat :=
  let u := s.unit (4 * t)
  let next := if u.inCycle then u.cycle - 1 else u.cycle
  fieldsOf 3 2 (fun c => coreCode (s.core (coreIx t c)).st) + 256 * b2n (s.trio t).suspect +
    512 * b2n (!(s.trio t).split && decide ((inCores s t).length = 2)) + 1024 * b2n (s.trio t).split + 65536 * (next % 256)

/-- TRIO_VTEST (09 Table 9.5). -/
def trioVtestWord (t : Nat) (s : State) : Nat :=
  let x := s.trio t
  x.vtests.toNat + 65536 * b2n x.vtestOk + 131072 * x.failed.toNat

/-- TRIO_KJ_STATE (11 Table 11.8). -/
def kjState (s : State) : Nat :=
  flagsOf 32 fun u => (s.unit u).kOk && !(obj s kProgram u).isEmpty && decide ((u % 4 = 0) ↔ ((s.trio (u / 4)).split = false))

/-- TRIO_DEBUG (09 Table 9.6). -/
def debugBits (s : State) : Nat := flagsOf 8 fun t => (List.range 4).any fun c => decide ((s.unit (4 * t + c)).st = .debug)

/-- ERG_PORT (13 Table 13.9). The ring is complete while both ports of a RING schedule carry frames (DEDUCED, log 50). -/
def ergPortWord (s : State) : Nat :=
  let a := s.erg.portA
  let b := s.erg.portB
  packBits [a.up, b.up, a.fault, b.fault,
    schedRing s.erg.sched && portUsable a && portUsable b && decide (a.idle < 16 ∧ b.idle < 16)]

/-- MIR_TRK_STATEn (06 Table 6.4); rounded half away from zero as R161 rounds (DEDUCED, log 51); a value beyond its field
wraps (log 188). -/
def trackWord (n : Nat) (s : State) : Nat :=
  let k := s.track n
  wrapN 16 (roundAway k.theta 65536) + 65536 * wrapN 14 (roundAway k.omega 65536) + 2 ^ 30 * trackCode k.st

/-- SO_LINK (08 Table 8.8). -/
def soLinkWord (p : Nat) (s : State) : Nat :=
  let x := s.pipe p
  x.rate % 16 + 16 * (x.lanes % 8) + 128 * b2n x.trained + 256 * min x.fails 255

/-- What an I16 or I32 parameter holds, as its 32-bit word. -/
def word32 (z : Int) : Nat := wrapN 32 z

/-! ### Parameters by range of IDs -/

/-- System, clocks and self-test (14 Table 14.12, 18 Table 18.6, 17 Table 17.7). -/
def readSys (id : Nat) (s : State) : Option Nat :=
  if id = P.sysSerialLo then some (s.upd.serial.toNat % 2 ^ 32)
  else if id = P.sysSerialHi then some (s.upd.serial.toNat / 2 ^ 32)
  else if id = P.sysFwVersion then some s.upd.running.toNat
  else if id = P.sysBootId then some s.mram.bootId.toNat
  else if id = P.sysSessionIp then some ((s.host.sess.map fun x => x.ip.toNat).getD 0)
  else if id = P.sysSessionPort then some ((s.host.sess.map fun x => x.port.toNat).getD 0)
  else if id = P.sysEseq then some s.host.eseq.toNat
  else if id = P.sysHseqNext then some s.host.hseqNext.toNat
  else if id = P.sysMacHi then some (s.upd.mac.toNat / 2 ^ 32)
  else if id = P.sysMacLo then some (s.upd.mac.toNat % 2 ^ 32)
  else if id = P.sysDomainStatus then some (fieldsOf 8 2 fun d => domCode (domainState d s))
  else if id = P.sysDomainPorts then some (domainPorts s)
  else if id = P.sysPllLock then some s.clk.locks.toNat
  else if id = P.sysRefSource then some (b2n s.clk.backup)
  else if id = P.stStep then some s.st.step
  else if id = P.stPending then some (pendingUnits s)
  else if id = P.stPendingCores then some (pendingCores s)
  else if id = P.stCruPos then some (tget 0 s.st.nextUnit 3)
  else none

/-- Cameras, scan-out, views, Crucible (03 Table 3.6, 08 Tables 8.8 and 8.9, 05 Table 5.10, 04 Table 4.7). -/
def readVideo (id : Nat) (s : State) : Option Nat :=
  if 0x100 ≤ id ∧ id < 0x200 then (if id % 16 = 0 then some (camCode (s.cam ((id - 0x100) / 16)).st) else none)
  else if 0x200 ≤ id ∧ id < 0x280 then
    let p := (id - 0x200) / 16
    if id % 16 = 0 then some (pipeCode (s.pipe p).st) else if id % 16 = 0xD then some (soLinkWord p s) else none
  else if id = P.soPixelLoad then some (pixelLoad s)
  else if id = P.soLayerStoreUsed then some (layerStoreUsed s)
  else if id = P.soIconsLoaded then some (flagsOf 8 fun i => decide (i ≠ 0) && !(obj s kIcon i).isEmpty)
  else if id = P.soRcountAll then some (flagsOf 8 fun p => (s.pipe p).advanced)
  else if id = P.viewEnginePool then some (enginePool s)
  else if id = P.viewEnabled then some (enabledViews s).length
  else if id = P.viewStoreUsed then some (viewStoreUsed s)
  else if id = P.viewSelActive then some (fieldsOf 8 4 fun p => (s.pipe p).entry)
  else if id = P.viewSelDefaulted then some (flagsOf 8 fun p => (s.pipe p).defaulted)
  else if id = P.cruState then some (cruCode s.cru.st)
  else if id = P.cruCapacity then some (capacityAt s.tick.rate)
  else if id = P.cruPoisonLive then some s.cru.poison.length
  else if id = P.cruPoolTcrc then some (u32 s.cru.pool 4)
  else none

/-- Trios (09 Tables 9.5 and 9.6, 11 Table 11.8). -/
def readTrio (id : Nat) (s : State) : Option Nat :=
  if 0x400 ≤ id ∧ id < 0x480 then
    let t := (id - 0x400) / 16
    if id % 16 = 0 then some (trioStateWord t s) else if id % 16 = 2 then some (trioCoresWord t s)
    else if id % 16 = 8 then some (trioVtestWord t s) else none
  else if id = P.trioOwnerMcrc then some (u32 s.owners 4)
  else if id = P.trioDebug then some (debugBits s)
  else if id = P.trioChkComputed then some s.chk.toNat
  else if id = P.trioChkConfirmed then some (((confirmedValue s).map fun w => w.toNat).getD 0)
  else if id = P.trioChkState then some s.chkState
  else if id = P.trioKjState then some (kjState s)
  else none

/-- Field I/O (12 Table 12.7). -/
def readFio (id : Nat) (s : State) : Option Nat :=
  if id = P.fioState then some s.fio.mode
  else if id = P.fioInImage then some s.iol.image.toNat
  else if id = P.fioInRaw then some s.fio.raw.toNat
  else if id = P.fioInFault then some (beAt 4 s.iol.frame 12)
  else if id = P.fioQDrive then some (flagsOf 16 fun q => driverOn s q)
  else if id = P.fioQRb then some (flagsOf 16 fun q => (s.fout q).rb)
  else if id = P.fioQFault then some (beAt 2 s.iol.frame 16)
  else if id = P.fioQInhibit then some (flagsOf 16 fun q => (s.fout q).rearm || (s.fout q).notReady)
  else if id = P.fioGroup then some (u8 s.iol.frame 18)
  else if id = P.fioTpStatus then some (u8 s.iol.frame 19)
  else if id = P.fioL1p then some (beAt 2 s.iol.frame 20)
  else if id = P.fioL2p then some (beAt 2 s.iol.frame 22)
  else if id = P.fioSupply then some (u8 s.iol.frame 24)
  else if id = P.fioEncCount0 then some s.iol.enc0.toNat
  else if id = P.fioEncCount1 then some s.iol.enc1.toNat
  else if id = P.fioEncStatus then some (fioEncStatus s)
  else if id = P.fioRecordCrc then some (u32 s.fio.record 4)
  else none

/-- Erg Link (13 Table 13.9). -/
def readErg (id : Nat) (s : State) : Option Nat :=
  if id = P.ergState then some (ergCode s.erg.st)
  else if id = P.ergHops then some (s.erg.portA.hops % 64 + 256 * (s.erg.portB.hops % 64))
  else if id = P.ergPort then some (ergPortWord s)
  else if id = P.ergSchedCrc then some (u32 (storedSched s) 4)
  else if id = P.ergMembersLo then some (s.erg.members.toNat % 2 ^ 32)
  else if id = P.ergMembersHi then some (s.erg.members.toNat / 2 ^ 32)
  else if id = P.ergCycle then some s.erg.cycle.toNat
  else if id = P.ergCycleDelta then some (s.erg.cycle - s.tick.count).toNat
  else if id = P.ergXStale then some (ergXStaleCount s)
  else if id = P.ergLeadSerialLo then some (s.erg.leadSerial.toNat % 2 ^ 32)
  else if id = P.ergLeadSerialHi then some (s.erg.leadSerial.toNat / 2 ^ 32)
  else if id = P.ergSilentCause then some s.erg.silentCause
  else if id = P.ergGrants then some (flagsOf 8 fun g => decide (tget noGrant s.erg.grants g ≠ noGrant))
  else if id = P.ergMapCrc then some (u32 s.erg.map 4)
  else none

/-- Faults, update and life cycle (15 Table 15.8, 19 Table 19.9). -/
def readFlt (id : Nat) (s : State) : Option Nat :=
  if id = P.fltMode then some (modeCode s.flt.mode)
  else if id = P.fltQuench then some (b2n s.flt.quench + 256 * s.flt.quenchSrc)
  else if id = P.fltFirstSource then some (firstSource s)
  else if id = P.fltLogNewest then some s.mram.logPos
  else if id = P.updLcState then some s.upd.lc
  else if id = P.updActiveSlot then some (b2n s.upd.ctl.activeB)
  else if id = P.updSlotAState then some (slotState false s)
  else if id = P.updSlotBState then some (slotState true s)
  else if id = P.updSlotAVersion then some (slotVersion false s)
  else if id = P.updSlotBVersion then some (slotVersion true s)
  else if id = P.updVersionFloor then some s.upd.floor.toNat
  else if id = P.updRbCount then some s.upd.rbCount
  else if id = P.updTrialLeft then some (trialLeft s)
  else if id = P.updLock then some s.upd.lock
  else if id = P.updCfgFormat then some s.mram.cfgFormat
  else none

/-- Witness, Mirage, tick (07 Table 7.6, 06 Table 6.4, 02 Table 2.3a). -/
def readWitTick (id : Nat) (s : State) : Option Nat :=
  if id = P.witLaneState then some (fieldsOf 3 2 fun l => laneCode (s.lane l).st)
  else if id = P.witRemovals then some (fieldsOf 3 2 fun l => (s.lane l).removals)
  else if id = P.witCrcFail then some (flagsOf 8 fun p => (s.pipe p).crcFail)
  else if id = P.witProbation then some (s.views.filter fun e => e.2.witInvalid).length
  else if id = P.tickStatus then some (tickStatus s)
  else if id = P.tickCount then some s.tick.count.toNat
  else if id = P.mirTrackValid then some (flagsOf 22 fun n => decide ((s.track n).st ≠ .invalid))
  else if 0xA28 ≤ id ∧ id < 0xA38 then some (word32 (tget {} s.erg.angles (id - 0xA28)).value)
  else if 0xA58 ≤ id ∧ id < 0xA6E then some (trackWord (id - 0xA58) s)
  else none

/-- A parameter that shows the state of a unit; none for one that its register holds. -/
def readUnit (id : Nat) (s : State) : Option Nat :=
  if id < 0x100 then readSys id s
  else if id < 0x400 then readVideo id s
  else if id < 0x500 then readTrio id s
  else if id < 0x600 then readFio id s
  else if id < 0x700 then readErg id s
  else if id < 0x900 then readFlt id s
  else readWitTick id s

/-- The value of a parameter, zero- or sign-extended to 32 bits. -/
def paramValue (id : Nat) (s : State) : Nat := (readUnit id s).getD (reg s id)

/-! ### PARAM_READ (14 R402, 00 R9) -/

/-- What an RC read returns: the value before the updates of this very edge (00 R10). -/
def readValue (id : Nat) (s : State) : Nat :=
  match tget none (instant s).counted id with
  | some x => x.1
  | none => paramValue id s

/-- An RC parameter that has been read is zero (00 R9), but for the updates of this very edge, which it keeps (R10); SYS_TJ_MAX then
holds the highest measurement since (R524). -/
def clearRead (id : Nat) (s : State) : State :=
  match tget none (instant s).counted id with
  | some x =>
    let s := setReg s id x.2
    { s with inst := { instant s with counted := tset none (instant s).counted id (some (0, x.2)) } }
  | none =>
    let s := setReg s id 0
    if id = P.sysTjMax then s.modClk fun c => { c with tjRead := true } else s

/-- One item. TYPE and VALUE of an item that is not present, or may not be read, are not stated (log 52). -/
def readItem (id : Nat) (s : State) : Bytes × State :=
  match paramRow id with
  | none =>
    let f := s.free
    (be 2 id ++ [b8 Status.notPresent, Config.freeByte f] ++ be 4 (Config.freeWord f).toNat, { s with free := f + 1 })
  | some r =>
    if r.acc = 2 then
      let f := s.free
      (be 2 id ++ [b8 Status.denied, Config.freeByte f] ++ be 4 (Config.freeWord f).toNat, { s with free := f + 1 })
    else if r.acc = 3 then (be 2 id ++ [0, b8 r.typ] ++ be 4 (readValue id s), clearRead id s)
    else (be 2 id ++ [0, b8 r.typ] ++ be 4 (paramValue id s), s)

/-- The items in order. -/
def readAll : List Nat → State → Bytes × State
  | [], s => ([], s)
  | id :: r, s =>
    let (b, s) := readItem id s
    let (bs, s) := readAll r s
    (b ++ bs, s)

def paramReadBody (count : Nat) (ids : List Nat) (s : State) : Answer :=
  if count = 0 ∨ 64 < count ∨ ids.length ≠ count then reject Status.badParam s
  else
    let (bs, s) := readAll ids s
    (Status.ok, be 2 count ++ bs, s)

def execParamRead (h : Hdr) (count : Nat) (ids : List Nat) (s : State) : Host.Outcome State Fault Refusal :=
  done (serve h 0x0101 (be 2 count ++ ids.flatMap (be 2)) (.paramRead h count ids) (paramReadBody count ids) s)

/-! ### PARAM_INFO (14 Table 14.6) -/

/-- Parameters whose reset value is given as "—": facts of the module (00 R524). -/
def factIds : List Nat :=
  [0x001, 0x002, 0x003, 0x004, 0x015, 0x016, 0x044, 0x046, 0x047, 0x316, 0x514, 0x801, 0x802, 0x803, 0x804, 0x805, 0x806, 0x807, 0x80F]

/-- PARAM_INFO; the RESET of a parameter without a reset value is not stated (log 52). -/
def paramInfoBody (id : Nat) (s : State) : Answer :=
  match paramRow id with
  | none => reject Status.notPresent s
  | some r =>
    let fact := factIds.contains id
    let reset := if fact then (Config.freeWord s.free).toNat else r.reset
    (Status.ok, [b8 r.typ, b8 r.acc, 0, 0] ++ be 4 reset ++ be 4 (word32 r.lo) ++ be 4 (word32 (paramMax id r s)),
      if fact then { s with free := s.free + 1 } else s)

def execParamInfo (h : Hdr) (id : Nat) (s : State) : Host.Outcome State Fault Refusal :=
  done (serve h 0x0103 (be 2 id) (.paramInfo h id) (paramInfoBody id) s)

end Sys2Proof.Machine
end

