-- ==== Sys2Proof/Machine/ParamWrite.lean ====
section
/-! DEFINITION. Writing the parameter space (14 R402): the checks of each parameter and the effects of a write. -/

namespace Sys2Proof.Machine

/-! ### Checks against the other parameters and the state -/

/-- Base class of a source as last written (15 R415). -/
def baseSet (n : Nat) (s : State) : Nat := fld (reg s (P.fltClass n)) 2 0

/-- A write to FLT_CFG or FLT_CLASS that 15 R415 denies. -/
def fltDenied (id v : Nat) (s : State) : Bool :=
  let n := if id < 0x760 then id - 0x6FF else id - 0x75F
  decide (0x700 ≤ id ∧ id < 0x7C0) &&
    (decide (baseSet n s = 4) || (decide (0x760 ≤ id) && decide (fld (fltClassReset n) 2 0 = 3 ∧ fld v 2 0 < 3)))

/-- The four guaranteed allocations stay within 75 % of the capacity of a rate (04 R105). -/
def creditsOk (rate : Nat) (s : State) : Bool :=
  decide (4 * (reg s P.cruCreditIngest + reg s P.cruCreditScanout + reg s P.cruCreditWitness + reg s P.cruCreditTrio) ≤ 3 * capacityAt rate)

/-- The pipes that are not DISABLED stay within 08 R209 and the link checks at a rate (08 R211). -/
def pipesOkAt (rate : Nat) (s : State) : Bool :=
  (List.range 8).all fun p => decide ((s.pipe p).st = .disabled) || (timingOk p rate s && linkOkAt p rate s)

/-- CAM_ENABLE of a camera (03 R59, R61; 04 R91): the status of a write of `v`, in a state that holds it. -/
def camEnableStatus (c v : Nat) (s : State) : Nat :=
  if v = 0 then Status.ok
  else if (s.cam c).st ≠ .linked then Status.wrongState
  else if !rateOk c s || !carriesAt c (s.cam c).gear (setRate s) s then Status.badParam
  else if (placeCamera c s).isNone then Status.denied
  else Status.ok

/-- Cameras: R62's parameters stay while the port is STARTED or LOST. -/
def camStatus (off c v : Nat) (s : State) : Nat :=
  if off = 1 then camEnableStatus c v s
  else if 2 ≤ off ∧ off ≤ 7 ∧ camOn c s then Status.wrongState
  else Status.ok

/-- Scan-out (08 R206, R208): `old` is the value before. -/
def pipeStatus (off p v old : Nat) (s : State) : Nat :=
  if off = 1 then (if v = 1 ∧ soStartOk p s = false then Status.badParam else Status.ok)
  else if (s.pipe p).st = .disabled then Status.ok
  else if 2 ≤ off ∧ off ≤ 9 then Status.wrongState
  else if off = 0xA ∧ (fld v 3 0 ≠ fld old 3 0 ∨ fld v 11 8 ≠ fld old 11 8) then Status.wrongState
  else Status.ok

/-- The checks that read other parameters and the state, in a state that holds the new value. A TICK_RATE that fails the checks of
the credits or the pipes and the one of the cameras is answered BAD_PARAM: the model's choice (log 187). -/
def contextStatus (id v old : Nat) (s : State) : Nat :=
  if 0x100 ≤ id ∧ id < 0x200 then camStatus (id % 16) (instOf id) v s
  else if 0x200 ≤ id ∧ id < 0x280 then pipeStatus (id % 16) (instOf id) v old s
  else if 0x302 ≤ id ∧ id ≤ 0x305 then (if creditsOk (setRate s) s then Status.ok else Status.badParam)
  else if 0x400 ≤ id ∧ id < 0x480 ∧ (id % 16 = 0xA ∨ id % 16 = 0xB) then
    (if reg s (P.trioCycleMin (instOf id)) < reg s (P.trioWdt (instOf id)) then Status.ok else Status.badParam)
  else if id = P.ergRole ∨ id = P.ergDevice then
    -- Device 0 is required for the lead (13 Table 13.9; DEDUCED as a check of the write, log 53).
    (if reg s P.ergRole = 1 ∧ reg s P.ergDevice ≠ 0 then Status.badParam else Status.ok)
  else if id = P.tickRate then
    (if !creditsOk v s || !pipesOkAt v s then Status.badParam else if camBusy s then Status.wrongState else Status.ok)
  else if id = P.tickSource then (if camBusy s then Status.wrongState else Status.ok)
  else Status.ok

/-! ### Effects -/

/-- CAM_ENABLE takes a value (03 R61): 1 starts the port, 0 stops it at the next tick edge. -/
def camEnableEffect (c v : Nat) (s : State) : State :=
  if v = 1 then startCamera c ((placeCamera c s).getD s)
  else if camOn c s then stopCamera c s else s

/-- SO_ENABLE takes a value (08 R206 to R208). -/
def soEnableEffect (p v : Nat) (s : State) : State := if v = 1 then trainPipe p s else stopPipe p s

/-- What a write does besides its register. -/
def writeEffect (id v : Nat) (s : State) : State :=
  if 0x100 ≤ id ∧ id < 0x200 then (if id % 16 = 1 then camEnableEffect (instOf id) v s else s)
  else if 0x200 ≤ id ∧ id < 0x280 then
    (if id % 16 = 1 then soEnableEffect (instOf id) v s
     else if id % 16 = 0xC then s.modPipe (instOf id) fun x => { x with iconReload := true }
     else s)
  else if 0x700 ≤ id ∧ id < 0x7C0 then
    s.modFlt fun f => { f with written := (if id < 0x760 then id - 0x6FF else id - 0x75F, s.now) :: f.written }
  else if id = P.cruPoisonMax then judgePoison s
  else if 0xA20 ≤ id ∧ id < 0xA24 then remeasure { s with hostAge := tset 256 s.hostAge (id - 0xA20) 0 }
  else if id = P.mirAngleLimit ∨ id = P.mirHostTimeout ∨ (0xA24 ≤ id ∧ id < 0xA28) then remeasure s
  else s

/-- The value of an RW parameter in the configuration record: removed where it equals its reset value (17 R447). -/
def recordValue (id : Nat) (w : Word) (cfg : Table (Option Word)) : Table (Option Word) :=
  tset none cfg id (if w = paramReset id then none else some w)

/-! ### PARAM_WRITE (14 R402) -/

/-- One item: its status, and the state with it applied where that is OK. Where two of its checks fail, the order is the model's
choice (log 186): reserved field, ID, access, DENIED of 15 R415, type, range and fields, then the other parameters and the state. -/
def writeItem (i : ParamItem) (s : State) : Nat × State :=
  if i.rsvd ≠ 0 then (Status.badParam, s)
  else match paramRow i.id with
    | none => (Status.notPresent, s)
    | some r =>
      let v := i.value.toNat
      if r.acc = 0 ∨ r.acc = 3 then (Status.denied, s)
      else if fltDenied i.id v s then (Status.denied, s)
      else if !inParamRange i.id r i.value s || !fieldsOk i.id v then (Status.badParam, s)
      else
        let s' := setReg s i.id v
        let st := contextStatus i.id v (reg s i.id) s'
        if st = Status.ok then (Status.ok, writeEffect i.id v s') else (st, s)

/-- The items in order: the first one that fails, and its status; or the state with all applied. -/
def writeItems : Nat → List ParamItem → State → Except (Nat × Nat) State
  | _, [], s => .ok s
  | n, i :: r, s =>
    let (st, s') := writeItem i s
    if st = Status.ok then writeItems (n + 1) r s' else .error (n, st)

/-- PARAM_WRITE: all items apply or none. Accepted values are stored in the configuration record before the reply. -/
def paramWriteBody (lenOk : Bool) (count rsvd : Nat) (items : List ParamItem) (s : State) : Answer :=
  if !lenOk || decide (count = 0 ∨ 32 < count ∨ items.length ≠ count ∨ rsvd ≠ 0) then (Status.badParam, failFields 0xFFFF Status.badParam, s)
  else match writeItems 0 items s with
    | .error (ix, st) => (st, failFields ix st, s)
    | .ok s' =>
      let cfg := items.foldl (fun t i => recordValue i.id i.value t) s'.mram.cfg
      let s' := { s' with inst := { instant s' with regs := some (edgeRegs s) } }
      (Status.ok, failFields 0xFFFF Status.ok, pumpHeld (writeCfg cfg s'.mram.cfgPool s'))

/-- The items as they travel. -/
def itemBytes (i : ParamItem) : Bytes := be 2 i.id ++ be 2 i.rsvd ++ be 4 i.value.toNat

/-- A PARAM_WRITE packet served; its reply carries the fail fields with every status its own checks give. -/
def serveWrite (h : Hdr) (count rsvd : Nat) (items : List ParamItem) (c : Instr) (s : State) : State :=
  serve { h with lenOk := true } 0x0102 (be 2 count ++ be 2 rsvd ++ items.flatMap itemBytes) c (paramWriteBody h.lenOk count rsvd items) s

def execParamWrite (h : Hdr) (count rsvd : Nat) (items : List ParamItem) (s : State) : Host.Outcome State Fault Refusal :=
  done (serveWrite h count rsvd items (.paramWrite h count rsvd items) s)

/-! ### The writes that the table names by themselves: a PARAM_WRITE with one item -/

/-- A PARAM_WRITE with one item. -/
def writeOne (h : Hdr) (id : Nat) (v : Word) (c : Instr) (s : State) : State :=
  serveWrite h 1 0 [{ id := id, rsvd := 0, value := v }] c s

/-- CAM_ENABLE = 1 (03 R59, R61). -/
def execCamEnableStart (h : Hdr) (c : Fin 16) (s : State) : Host.Outcome State Fault Refusal :=
  done (writeOne h (P.camEnable c.val) 1 (.camEnableStart h c) s)

/-- CAM_ENABLE = 0 (03 R61). -/
def execCamEnableStop (h : Hdr) (c : Fin 16) (s : State) : Host.Outcome State Fault Refusal :=
  done (writeOne h (P.camEnable c.val) 0 (.camEnableStop h c) s)

/-- SO_ENABLE = 1 (08 R206, R207). -/
def execSoEnableStart (h : Hdr) (p : Fin 8) (s : State) : Host.Outcome State Fault Refusal :=
  done (writeOne h (P.soEnable p.val) 1 (.soEnableStart h p) s)

/-- SO_ENABLE = 0 (08 R208). -/
def execSoEnableStop (h : Hdr) (p : Fin 8) (s : State) : Host.Outcome State Fault Refusal :=
  done (writeOne h (P.soEnable p.val) 0 (.soEnableStop h p) s)

/-- TICK_RATE (02 R35, 04 R105, 08 R211). -/
def execTickRateWrite (h : Hdr) (value : Word) (s : State) : Host.Outcome State Fault Refusal :=
  done (writeOne h P.tickRate value (.tickRateWrite h value) s)

/-- TICK_SOURCE (02 R35, R525). -/
def execTickSourceWrite (h : Hdr) (value : Word) (s : State) : Host.Outcome State Fault Refusal :=
  done (writeOne h P.tickSource value (.tickSourceWrite h value) s)

/-- MIR_HOST_ANGLEn (06 R157, R158). -/
def execMirHostAngleWrite (h : Hdr) (n : Fin 4) (value : Word) (s : State) : Host.Outcome State Fault Refusal :=
  done (writeOne h (P.mirHostAngle n.val) value (.mirHostAngleWrite h n value) s)

/-- WIT_SEED (07 R183). -/
def execWitSeedWrite (h : Hdr) (value : Word) (s : State) : Host.Outcome State Fault Refusal :=
  done (writeOne h P.witSeed value (.witSeedWrite h value) s)

end Sys2Proof.Machine
end

