-- ==== Sys2Proof/Machine/TickEdge.lean ====
section
/-! DEFINITION. The active tick edge (02 R40): the actions it takes on one clock edge, and what the other chapters let take
effect there. -/

namespace Sys2Proof.Machine

/-! ### Where the edges fall (02 R36, R38, R39; 13 R358) -/

/-- The whole number of REF cycles nearest to a number of 2^-24 REF cycles; of two as near, the one nearer to zero. -/
def nearestCycles (x : Int) : Int := x.sign * ((2 * x.natAbs + (2 ^ 24 - 1)) / 2 ^ 25 : Nat)

/-- By how many REF cycles an edge at `t` is later than the clock edge nearest to the accumulator's: what steering has done. -/
def edgeShift (t : Time) (s : State) : Int := nearestCycles (((t - s.tick.lastEdge : Nat) : Int) * 2 ^ 24 - nominalEdge s)

/-- By how many REF cycles the estimate of the nearest lead time 0 is later than the accumulator's next edge, cycle by cycle at the
lead's measured rate (13 R358, 02 R39). -/
def leadError (s : State) : Int :=
  let p := cyclePeriod s
  let own := 10 * (s.tick.lastEdge : Int) + nominalEdge s * 10 / 2 ^ 24
  let j := (own - s.erg.cycleNs + p / 2) / p
  (s.erg.cycleNs + j * p - own + 5) / 10

/-- The phase error that steering has to remove at the next edge: none in holdover and with the internal source (02 R38). -/
def steerError (s : State) : Int :=
  if s.tick.holdover then 0
  else if s.tick.source = 1 then s.tick.phaseErr
  else if s.tick.source = 2 ∧ s.erg.st = .running then leadError s
  else 0

/-- Steering moves an edge towards the error and not beyond it: not at all where there is none. -/
def steersBy (m e : Int) : Bool :=
  if e = 0 then decide (m = 0) else if 0 < e then decide (1 ≤ m ∧ m ≤ e) else decide (e ≤ m ∧ m ≤ -1)

/-- The generator may put its next edge here (02 R36, R38): on the clock edge nearest to its accumulator, moved by steering, no
tick beyond 0.1 % of the programmed period; where its phase is not fixed yet, anywhere within one period (17 R442). -/
def edgeAllowed (t : Time) (s : State) : Bool :=
  let d := t - s.tick.lastEdge
  if s.tick.lastEdge ≤ t then
    if s.tick.loose then decide (d ≤ tickPeriod s + 1)
    else steersBy (edgeShift t s) (steerError s) &&
      decide (edgeShift t s = 0 ∨ (999 * perRate ≤ 1000 * d * s.tick.rate ∧ 1000 * d * s.tick.rate ≤ 1001 * perRate))
  else false

/-- The edge is made: the accumulator moves on, and what steering has done comes off the error; TICK_LOCKED rises at the first edge
at which the error is at most 10 µs (02 R36, R38). -/
def steer (t : Time) (s : State) : State :=
  let k := s.tick
  let m := if k.loose then 0 else edgeShift t s
  let e := if k.holdover then k.phaseErr else steerError s - m
  let up := k.relocking && decide (e.natAbs ≤ 1000)
  s.modTick fun k => { k with
    frac := if k.loose then 0 else nominalEdge s + (m - ((t - k.lastEdge : Nat) : Int)) * 2 ^ 24
    phaseErr := e
    locked := k.locked || up
    relocking := k.relocking && !up }

/-! ### The tick that ends -/

/-- VIEW_BUSY: the compute clocks of the tick in 0.1 % of the pool's (05 R143). -/
def viewBusy (s : State) : Nat :=
  let n := ((List.range 8).filter fun e => engineInPool e s).length
  if n = 0 then 0 else min 1000 (s.tickClocks * s.tick.rate / (600000000 * n))

/-- The figures of the tick that ends (05 Table 5.10, 07 R179, 04 Table 4.7), and the credits left over expire (04 R102); what this
very edge has granted belongs to the new tick (04 R111). How many
bursts the source reads of the engines and the lanes and the work of the service processor take is not stated (log 30). -/
def closeTick (s : State) : State :=
  let s := setReg s P.viewBusy (viewBusy s)
  let s := setReg s P.viewLatestDone s.tickDone
  let s := setReg s P.witLoad (loadFigure s)
  let s := (List.range 6).foldl (fun s i =>
    let n := usedBy i s - tget 0 (instant s).charged (i + 1)
    if i < 4 then setWide s (P.cruUsedC i) n
    else setWide { s with free := s.free + 1 } (P.cruUsedC i) (n + (Config.freeWord s.free).toNat)) s
  let s := { s with
    tickClocks := 0
    tickDone := 0
    views := tmodAll {} (viewIxs s) (fun _ x => {
      x with
      staleLast := match x.render with | some r => decide (r.tick = s.tick.count) && r.missed | none => false }) s.views }
  s.modCru fun c => { c with used := (instant s).charged, overrun := [] }

/-- The guaranteed classes 1 to 4 are loaded with their allocations (04 R102), from which the grants of this very edge are taken
(R111). -/
def loadCredits (s : State) : State :=
  s.modCru fun c => { c with
    credits := (List.range 4).foldl (fun t i => tset 0 t (i + 1) (regE s (P.cruCreditIngest + i) - tget 0 (instant s).charged (i + 1))) [] }

/-! ### The V snapshot (01 R20 to R23, Table 1.3) -/

/-- CARAVAN_SYNC (13 Table 13.4). -/
def caravanSync (s : State) : Bool :=
  match s.erg.st with
  | .off | .leading => true
  | .running => s.tick.locked
  | _ => false

/-- The V space as it stands. -/
def vSpace (s : State) : BitVec 1024 :=
  let video := domUp 1 s
  let seen := cruOk s && video
  let views (f : ViewSt → Bool) : Nat := flagsOf 256 fun v => f (s.view v)
  let rest := packBits (
    ((List.range 16).map fun c => (s.cam c).fresh) ++ ((List.range 16).map fun c => (s.cam c).linkOk && decide ((s.cam c).gear ≠ 0)) ++
    ((List.range 8).map fun p => (s.pipe p).healthy) ++ ((List.range 8).map fun p => (s.pipe p).fallback) ++
    ((List.range 3).map fun l => (s.lane l).ok) ++ [witMajority s, s.tick.locked, cruOk s, caravanSync s])
  BitVec.ofNat 1024 (views (fun x => seen && x.shownSel && x.verified) +
    2 ^ 256 * views (fun x => seen && x.shownSel && !x.invalid && !x.witInvalid) +
    2 ^ 512 * views (fun x => video && x.shownSel) + 2 ^ 768 * rest)

/-- The bits that a snapshot captured on this edge does not hold yet: those that have risen on it (01 R23), and TICK_LOCKED
where it rises with the edge itself (02 R38; 01 R12). -/
def notYet (wasLocked : Bool) (s : State) : BitVec 1024 :=
  BitVec.ofNat 1024 (((instant s).risen ++ (if wasLocked then [] else [820])).eraseDups.foldl (fun a b => a + 2 ^ b) 0)

/-- The snapshot is captured; the next interval of CAM_LINK begins (03 R82). -/
def takeSnapshot (wasLocked : Bool) (s : State) : State :=
  let s := { s with vsnap := vSpace s &&& ~~~(notYet wasLocked s), inst := {
    instant s with
    snapped := true
    shownBy := (List.range 8).foldl (fun t p => tset [] t p (pipeViews p s)) [] } }
  { s with cams := tmodAll {} (s.cams.map (·.1)) (fun _ p => { p with linkOk := decide (p.gear ≠ 0) }) s.cams }

/-- The S space is sampled, without the writes that complete on this edge (01 R25) and the bits that no owner holds (09 R257); the lanes hold their own sample (07 R181). -/
def sampleS (s : State) : State := 
  holdSample { s with sSample := ((instant s).sBefore.getD s.sNow) &&& ownedS s.owners }

/-! ### What takes effect -/

/-- Registers take effect, but for writes answered on this edge; sources whose tables were written start their windows afresh
(15 R415). -/
def applyRegs (s : State) : State :=
  let due := s.flt.written.filter fun w => decide (w.2 ≠ s.now)
  let s := (due.foldl (fun s w => s.modSrc w.1 fun x => { x with times := x.times.filter (· = s.now) }) s).modFlt fun f => { f with
    written := f.written.filter fun w => decide (w.2 = s.now) }
  reclassify { s with regsEdge := edgeRegs s, inst := { instant s with classWas := some s.regsEdge } }

/-- The trio I/O snapshots of the tick, 32 credits for each trio (04 Tables 4.1 and 4.6; log 11). -/
def snapshotTrios (s : State) : State :=
  if !cruOk s then s
  else
    let k := s.tick.count
    let runs := (List.range 8).map fun t => snapshotBase t k
    let s := runs.foldl (fun s a => noteTiles a 2048 s) s
    charge 4 256 (s.modCru fun c => {
      c with
      snapTick := some k
      poison := c.poison.filter fun p => !(runs.any fun a => coveredTile a 2048 p)
      errs := c.errs.filter fun e => !(runs.any fun a => coveredWord a 2048 e.1) })

/-- The record that an edge finds staged: not one accepted on it (05 R116). -/
def dueRecord (now : Time) (x : ViewSt) : Option Bytes := if x.stagedAt = now then x.stagedWas else x.staged

/-- A staged record takes effect in its context, and one accepted on this edge goes on waiting (05 R116); a context that is enabled or
disabled by it starts afresh. -/
def takeStaged (now : Time) (x : ViewSt) : ViewSt :=
  match dueRecord now x with
  | some c =>
    let rest := if x.stagedAt = now then x.staged else none
    if ctxEnabled c && ctxEnabled x.ctx then { x with ctx := c, staged := rest, stagedWas := none }
    else { ctx := c, staged := rest, stagedAt := x.stagedAt }
  | none => x

/-- Staged context records take effect, in the other bank (05 R116, R119). -/
def applyContexts (s : State) : State :=
  if s.views.all fun e => (dueRecord s.now e.2).isNone then s
  else
    let s := { s with views := tmodAll {} (viewIxs s) (fun _ x => takeStaged s.now x) s.views }
    copyContexts (s.modCru fun c => { c with bank := !c.bank })

/-- Accepted tables of the pipes take effect (05 R149, 08 R216, 07 R200); icons are copied (08 R223). One
accepted on this very edge takes effect at the next (DESIGN CHOICE, log 195). -/
def applyTables (s : State) : State :=
  (List.range 8).foldl (fun s p =>
    let x := s.pipe p
    let sel := takeTable (4 * p) x.selNext s
    let layout := takeTable (4 * p + 1) x.layoutNext s
    let region := takeTable (4 * p + 2) x.regionNext s
    let s := s.modPipe p fun x => {
      x with
      sel := sel.1.getD x.sel
      selNext := sel.2
      layout := layout.1.getD x.layout
      layoutNext := layout.2
      region := region.1.getD x.region
      regionNext := region.2 }
    if (s.pipe p).iconReload then reloadIcon p s else s) s

/-! ### Pipes and ports -/

/-- A pipe at the edge (08 R207, R208, R211): an accepted stop, a rate it cannot carry, the end of its training;
what came on this very edge waits for the next (08 R229). -/
def pipeEdge (p : Nat) (s : State) : State :=
  let x := s.pipe p
  let carries := carriesTiming p x.rate x.lanes s.tick.rate s
  let untrain (s : State) : State := s.modPipe p fun x => { x with trained := false, trainedNext := false }
  if x.stopping && decide (x.stopAt ≠ s.now) then settle 22 (untrain (leaveActive p .disabled (s.modPipe p fun x => { x with stopping := false })))
  else if x.st = .active then (if carries then s else untrain (leaveActive p .training (cutRelay p s)))
  else if x.trainedNext && decide (x.trainedAt ≠ s.now) then
    (if !carries then untrain s
     else if 9 ≤ s.st.step then settle 22 (setPipeState p .active (s.modPipe p fun x => { x with trainedNext := false }))
     else s)
  else s

/-- Verdicts that read frames of a camera are still to come (04 R91, 02 R47). -/
def framesInUse (c : Nat) (s : State) : Bool :=
  let x := s.cam c
  let recent (b : Option CamBuf) : Bool := match b with
    | some b => decide ((s.tick.count - b.tick).toNat < 2)
    | none => false
  x.window.isSome || x.frame.isSome || recent x.settled || recent x.held || recent x.older ||
    (viewIxs s).any fun v => (cxCameras (s.view v).ctx).contains c && !(openTaps v s).isEmpty

/-- A frame whose settle edge is this tick edge, with the next trigger at phase 0, is discarded: its window has ended (03 R72, R83). -/
def lateSettle (c : Nat) (s : State) : State :=
  match tget none (instant s).settles c, (s.cam c).window with
  | some _, some w => if windowOver w s then discardFrame c (unsettle c s) else s
  | _, _ => s

/-- A port at the edge (03 R61, 04 R91): a stop takes effect, a started port triggers from this tick on, and a port that has
returned to LINKED gives up its run after the last verdict. -/
def camEdge (c : Nat) (s : State) : State :=
  let p := s.cam c
  if p.stopping then endTriggers c s
  else if camOn c s then s.modCam c fun p => { p with triggering := true }
  else if p.st = .linked && decide ((tget (0, 0) s.cru.runs c).2 ≠ 0) && !framesInUse c s then releaseCamera c s
  else s

/-! ### Renders -/

/-- Every enabled context begins its render (01 R26). Before the start-up is complete none does (05 R120); with the Crucible lost or
the view clock stopped no render completes (04 R108, 18 R468). -/
def beginRenders (s : State) : State :=
  if s.st.step < 10 then s
  else
    let run := viewsRun s
    (enabledViews s).foldl (fun s v =>
      let s := beginRender v s
      if run then s else modRender v (fun r => { r with halted := true }) s) s

/-! ### The edge -/

/-- The source and the rate that were written take effect (02 R35, R525). -/
def applyTick (s : State) : State :=
  let r := edgeRegs s
  let s := if regGet r P.tickSource = s.tick.source then s else takeSource (regGet r P.tickSource) s
  s.modTick fun k => { k with rate := regGet r P.tickRate }

/-- What counts tick edges: host angles (06 R157), forwarded commands (13 R379), slices (17 R457). -/
def countEdges (s : State) : State :=
  let s := { s with hostAge := tmodAll 256 [0, 1, 2, 3] (fun _ n => min 256 (n + 1)) s.hostAge }
  let s := s.modHost fun h => { h with fwd := h.fwd.map fun f => if f.sent then { f with left := f.left - 1 } else f }
  s.modSt fun x => { x with since := (List.range 4).foldl (fun t c => tmod 0 t c (· + 1)) x.since }

/-- Steps 1 to 4 of 02 R40, with the tables that take effect at the edge. -/
def edgeBegin (s : State) : State :=
  let wasLocked := s.tick.locked
  let s := applyTick (closeTick (steer s.now (feedLanes s)))
  let s := s.modTick fun k => { k with count := k.count + 1, prevEdge := k.lastEdge, lastEdge := s.now, loose := false }
  snapshotTrios (loadCredits (applyRegs (sampleS (takeSnapshot wasLocked s))))

/-- The selections, the pipes and what they show; frames that have begun on this very edge follow them (08 R229). -/
def edgeScan (s : State) : State :=
  let s := applyTables (applyPool (applyContexts (returnCrucible s)))
  let s := (List.range 8).foldl (fun s p => pipeEdge p (evaluate p s)) s
  redoStarts (refreshShown s)

/-- The tracks before the update of this edge are kept, for a measurement that changes on it (06 R175). -/
def keepTracks (s : State) : State := { s with inst := { instant s with tracks := some s.tracks } }

/-- Steps 5 to 7 of 02 R40. -/
def edgeRun (s : State) : State :=
  let s := beginRenders (updateTracks (keepTracks (countEdges s)))
  let s := (List.range 16).foldl (fun s c => camEdge c (lateSettle c s)) s
  ergTickEdge (laneEdge s)

/-- TICK_EDGE (02 R40): at an edge the generator makes (R36, R38). -/
def tickEdge (t : Time) (s : State) : State :=
  let s := advance t s
  if !powered s || decide (s.st.step < 2) || !edgeAllowed s.now s then s else edgeRun (edgeScan (edgeBegin s))

def execTickEdge (t : Time) (s : State) : Host.Outcome State Fault Refusal := done (tickEdge t s)

end Sys2Proof.Machine
end

