-- ==== Sys2Proof/Machine/Dispatch.lean ====
section
/-! DEFINITION. One arm per command: a direct call of its meaning. -/

namespace Sys2Proof.Machine

open Sys2Proof

/-- The effect of a command on everything but the queue of waiting commands. -/
def exec (i : Instr) (s : State) : Host.Outcome State Fault Refusal :=
  match i with
  | .hello h flags rsvd tag => Sys2Proof.Machine.execHello h flags rsvd tag s
  | .resync h => Sys2Proof.Machine.execResync h s
  | .replayReply h hseq => Sys2Proof.Machine.execReplayReply h hseq s
  | .replayEvents h first count => Sys2Proof.Machine.execReplayEvents h first count s
  | .bye h => Sys2Proof.Machine.execBye h s
  | .ping h data => Sys2Proof.Machine.execPing h data s
  | .paramRead h count ids => Sys2Proof.Machine.execParamRead h count ids s
  | .paramWrite h count rsvd items => Sys2Proof.Machine.execParamWrite h count rsvd items s
  | .camEnableStart h c => Sys2Proof.Machine.execCamEnableStart h c s
  | .camEnableStop h c => Sys2Proof.Machine.execCamEnableStop h c s
  | .soEnableStart h p => Sys2Proof.Machine.execSoEnableStart h p s
  | .soEnableStop h p => Sys2Proof.Machine.execSoEnableStop h p s
  | .tickRateWrite h value => Sys2Proof.Machine.execTickRateWrite h value s
  | .tickSourceWrite h value => Sys2Proof.Machine.execTickSourceWrite h value s
  | .mirHostAngleWrite h n value => Sys2Proof.Machine.execMirHostAngleWrite h n value s
  | .witSeedWrite h value => Sys2Proof.Machine.execWitSeedWrite h value s
  | .paramInfo h id => Sys2Proof.Machine.execParamInfo h id s
  | .poolLoad h part => Sys2Proof.Machine.execPoolLoad h part s
  | .evtAck h => Sys2Proof.Machine.execEvtAck h s
  | .evtMute h mute => Sys2Proof.Machine.execEvtMute h mute s
  | .evtLogInfo h => Sys2Proof.Machine.execEvtLogInfo h s
  | .evtMirrorRead h index count => Sys2Proof.Machine.execEvtMirrorRead h index count s
  | .viewWrite h index rsvd rec => Sys2Proof.Machine.execViewWrite h index rsvd rec s
  | .viewRead h index bank => Sys2Proof.Machine.execViewRead h index bank s
  | .viewStatus h first count => Sys2Proof.Machine.execViewStatus h first count s
  | .meshLoad h part => Sys2Proof.Machine.execMeshLoad h part s
  | .meshDelete h index => Sys2Proof.Machine.execMeshDelete h index s
  | .ovlLoad h part => Sys2Proof.Machine.execOvlLoad h part s
  | .ovlDelete h index => Sys2Proof.Machine.execOvlDelete h index s
  | .selLoad h tbl => Sys2Proof.Machine.execSelLoad h tbl s
  | .commitRead h view slot => Sys2Proof.Machine.execCommitRead h view slot s
  | .witnessRead h view slot lane => Sys2Proof.Machine.execWitnessRead h view slot lane s
  | .camDiag h camera => Sys2Proof.Machine.execCamDiag h camera s
  | .camI2c h camera addr wlen rlen data => Sys2Proof.Machine.execCamI2c h camera addr wlen rlen data s
  | .layoutLoad h tbl => Sys2Proof.Machine.execLayoutLoad h tbl s
  | .crcregLoad h tbl => Sys2Proof.Machine.execCrcregLoad h tbl s
  | .layerLoad h part => Sys2Proof.Machine.execLayerLoad h part s
  | .layerDelete h index => Sys2Proof.Machine.execLayerDelete h index s
  | .iconLoad h part => Sys2Proof.Machine.execIconLoad h part s
  | .progLoad h part => Sys2Proof.Machine.execProgLoad h part s
  | .progDelete h trio core => Sys2Proof.Machine.execProgDelete h trio core s
  | .trioStart h trio core kind => Sys2Proof.Machine.execTrioStart h trio core kind s
  | .trioStop h trio core => Sys2Proof.Machine.execTrioStop h trio core s
  | .trioRestart h trio core kind => Sys2Proof.Machine.execTrioRestart h trio core kind s
  | .progExchange h part => Sys2Proof.Machine.execProgExchange h part s
  | .ownerLoad h part => Sys2Proof.Machine.execOwnerLoad h part s
  | .commission h value => Sys2Proof.Machine.execCommission h value s
  | .haltInfo h trio core => Sys2Proof.Machine.execHaltInfo h trio core s
  | .dbgHalt h trio core => Sys2Proof.Machine.execDbgHalt h trio core s
  | .dbgStep h trio core count => Sys2Proof.Machine.execDbgStep h trio core count s
  | .dbgBreak h trio core slot set pc => Sys2Proof.Machine.execDbgBreak h trio core slot set pc s
  | .dbgResume h trio core => Sys2Proof.Machine.execDbgResume h trio core s
  | .dbgRead h trio core area rsvd offset len => Sys2Proof.Machine.execDbgRead h trio core area rsvd offset len s
  | .dbgWrite h trio core offset len data => Sys2Proof.Machine.execDbgWrite h trio core offset len data s
  | .snapshotRead h trio rsvd offset len => Sys2Proof.Machine.execSnapshotRead h trio rsvd offset len s
  | .fioLoad h rec => Sys2Proof.Machine.execFioLoad h rec s
  | .fioRead h => Sys2Proof.Machine.execFioRead h s
  | .fioAck h => Sys2Proof.Machine.execFioAck h s
  | .ergSchedLoad h part => Sys2Proof.Machine.execErgSchedLoad h part s
  | .ergMapLoad h part => Sys2Proof.Machine.execErgMapLoad h part s
  | .ergJoin h => Sys2Proof.Machine.execErgJoin h s
  | .ergLeave h => Sys2Proof.Machine.execErgLeave h s
  | .faultSummary h => Sys2Proof.Machine.execFaultSummary h s
  | .faultRecord h source => Sys2Proof.Machine.execFaultRecord h source s
  | .faultClear h source => Sys2Proof.Machine.execFaultClear h source s
  | .faultLogRead h index count => Sys2Proof.Machine.execFaultLogRead h index count s
  | .cruRecover h => Sys2Proof.Machine.execCruRecover h s
  | .bistRun h block => Sys2Proof.Machine.execBistRun h block s
  | .bistStatus h => Sys2Proof.Machine.execBistStatus h s
  | .lcRead h => Sys2Proof.Machine.execLcRead h s
  | .svcChallenge h => Sys2Proof.Machine.execSvcChallenge h s
  | .svcAuth h response => Sys2Proof.Machine.execSvcAuth h response s
  | .updOpen h => Sys2Proof.Machine.execUpdOpen h s
  | .updDownload h part => Sys2Proof.Machine.execUpdDownload h part s
  | .updVerify h => Sys2Proof.Machine.execUpdVerify h s
  | .updActivate h => Sys2Proof.Machine.execUpdActivate h s
  | .updConfirm h => Sys2Proof.Machine.execUpdConfirm h s
  | .updClose h => Sys2Proof.Machine.execUpdClose h s
  | .lcAdvance h key => Sys2Proof.Machine.execLcAdvance h key s
  | .lcReturn h key sig => Sys2Proof.Machine.execLcReturn h key sig s
  | .lcScrap h key sig => Sys2Proof.Machine.execLcScrap h key sig s
  | .undefinedOpcodePacket h opcode data => Sys2Proof.Machine.execUndefinedOpcodePacket h opcode data s
  | .workerTimeout t hseq => Sys2Proof.Machine.execWorkerTimeout t hseq s
  | .sessionTimeout t which => Sys2Proof.Machine.execSessionTimeout t which s
  | .eventResend t eseq => Sys2Proof.Machine.execEventResend t eseq s
  | .updLockTimeout t => Sys2Proof.Machine.execUpdLockTimeout t s
  | .nonceExpiry t session => Sys2Proof.Machine.execNonceExpiry t session s
  | .authLockoutEnd t link => Sys2Proof.Machine.execAuthLockoutEnd t link s
  | .tickEdge t => Sys2Proof.Machine.execTickEdge t s
  | .tickInEdge t falling => Sys2Proof.Machine.execTickInEdge t falling s
  | .tickHoldover t => Sys2Proof.Machine.execTickHoldover t s
  | .tickRelock t => Sys2Proof.Machine.execTickRelock t s
  | .camTrigger t c => Sys2Proof.Machine.execCamTrigger t c s
  | .camDelayMeasure t c roundTrip => Sys2Proof.Machine.execCamDelayMeasure t c roundTrip s
  | .camFrameStart t c pkt frameNo => Sys2Proof.Machine.execCamFrameStart t c pkt frameNo s
  | .camRowReceive t c row => Sys2Proof.Machine.execCamRowReceive t c row s
  | .camFrameEnd t c pkt => Sys2Proof.Machine.execCamFrameEnd t c pkt s
  | .camFrameSettle t c readBackOk => Sys2Proof.Machine.execCamFrameSettle t c readBackOk s
  | .cameraFrozen t c => Sys2Proof.Machine.execCameraFrozen t c s
  | .camWindowEnd t c => Sys2Proof.Machine.execCamWindowEnd t c s
  | .camLost t c => Sys2Proof.Machine.execCamLost t c s
  | .camLinkLock t c gear roundTrip => Sys2Proof.Machine.execCamLinkLock t c gear roundTrip s
  | .camLinkLoss t c => Sys2Proof.Machine.execCamLinkLoss t c s
  | .cruScrubRead t flips doubles => Sys2Proof.Machine.execCruScrubRead t flips doubles s
  | .creditOverrun t cls => Sys2Proof.Machine.execCreditOverrun t cls s
  | .cruLoss t cause => Sys2Proof.Machine.execCruLoss t cause s
  | .jobDispatch t engine crcBad => Sys2Proof.Machine.execJobDispatch t engine crcBad s
  | .renderComplete t v readBackOk => Sys2Proof.Machine.execRenderComplete t v readBackOk s
  | .viewRecover t v => Sys2Proof.Machine.execViewRecover t v s
  | .renderDeadline t v readBackOk => Sys2Proof.Machine.execRenderDeadline t v readBackOk s
  | .viewInvalid t v => Sys2Proof.Machine.execViewInvalid t v s
  | .mirageCommitPoint t v readBackOk => Sys2Proof.Machine.execMirageCommitPoint t v readBackOk s
  | .hostAngleTimeout t n => Sys2Proof.Machine.execHostAngleTimeout t n s
  | .scanoutFrameStart t p => Sys2Proof.Machine.execScanoutFrameStart t p s
  | .pipeFrameComplete t p wrong => Sys2Proof.Machine.execPipeFrameComplete t p wrong s
  | .pipeTrainingDone t p rate lanes => Sys2Proof.Machine.execPipeTrainingDone t p rate lanes s
  | .pipeLinkLoss t p => Sys2Proof.Machine.execPipeLinkLoss t p s
  | .scanoutUnderrun t p x y => Sys2Proof.Machine.execScanoutUnderrun t p x y s
  | .iconParityError t p => Sys2Proof.Machine.execIconParityError t p s
  | .verdictComplete t v faulty copyFlip => Sys2Proof.Machine.execVerdictComplete t v faulty copyFlip s
  | .witnessInvalid t v => Sys2Proof.Machine.execWitnessInvalid t v s
  | .probationEnd t v => Sys2Proof.Machine.execProbationEnd t v s
  | .laneRemoval t lane => Sys2Proof.Machine.execLaneRemoval t lane s
  | .witVoterTest t wrong => Sys2Proof.Machine.execWitVoterTest t wrong s
  | .trioCycleStart t trio code upsets strays flips => Sys2Proof.Machine.execTrioCycleStart t trio code upsets strays flips s
  | .nop core => Sys2Proof.Machine.execNop core s
  | .endProg core => Sys2Proof.Machine.execEndProg core s
  | .voterSuspect t trio => Sys2Proof.Machine.execVoterSuspect t trio s
  | .voterTest t trio wrong => Sys2Proof.Machine.execVoterTest t trio wrong s
  | .jmp core target => Sys2Proof.Machine.execJmp core target s
  | .jc core target => Sys2Proof.Machine.execJc core target s
  | .jnc core target => Sys2Proof.Machine.execJnc core target s
  | .call core target => Sys2Proof.Machine.execCall core target s
  | .ret core => Sys2Proof.Machine.execRet core s
  | .ld core op => Sys2Proof.Machine.execLd core op s
  | .ldn core op => Sys2Proof.Machine.execLdn core op s
  | .and core op => Sys2Proof.Machine.execAnd core op s
  | .andn core op => Sys2Proof.Machine.execAndn core op s
  | .or core op => Sys2Proof.Machine.execOr core op s
  | .orn core op => Sys2Proof.Machine.execOrn core op s
  | .xor core op => Sys2Proof.Machine.execXor core op s
  | .not core => Sys2Proof.Machine.execNot core s
  | .psh core => Sys2Proof.Machine.execPsh core s
  | .pop core => Sys2Proof.Machine.execPop core s
  | .top core => Sys2Proof.Machine.execTop core s
  | .ands core => Sys2Proof.Machine.execAnds core s
  | .ors core => Sys2Proof.Machine.execOrs core s
  | .st core op => Sys2Proof.Machine.execSt core op s
  | .stn core op => Sys2Proof.Machine.execStn core op s
  | .set core op => Sys2Proof.Machine.execSet core op s
  | .rst core op => Sys2Proof.Machine.execRst core op s
  | .pe core e => Sys2Proof.Machine.execPe core e s
  | .ne core e => Sys2Proof.Machine.execNe core e s
  | .ton core tm => Sys2Proof.Machine.execTon core tm s
  | .tof core tm => Sys2Proof.Machine.execTof core tm s
  | .tp core tm => Sys2Proof.Machine.execTp core tm s
  | .trt core tm => Sys2Proof.Machine.execTrt core tm s
  | .trs core num => Sys2Proof.Machine.execTrs core num s
  | .tps core num => Sys2Proof.Machine.execTps core num s
  | .tle core num => Sys2Proof.Machine.execTle core num s
  | .ctu core num => Sys2Proof.Machine.execCtu core num s
  | .ctd core num => Sys2Proof.Machine.execCtd core num s
  | .crs core num => Sys2Proof.Machine.execCrs core num s
  | .cld core num => Sys2Proof.Machine.execCld core num s
  | .cps core num => Sys2Proof.Machine.execCps core num s
  | .clv core num => Sys2Proof.Machine.execClv core num s
  | .ldw core op => Sys2Proof.Machine.execLdw core op s
  | .ldwu core op => Sys2Proof.Machine.execLdwu core op s
  | .ldd core op => Sys2Proof.Machine.execLdd core op s
  | .ldih core imm => Sys2Proof.Machine.execLdih core imm s
  | .stw core op => Sys2Proof.Machine.execStw core op s
  | .std core op => Sys2Proof.Machine.execStd core op s
  | .ldx core => Sys2Proof.Machine.execLdx core s
  | .ldb core op => Sys2Proof.Machine.execLdb core op s
  | .stb core op => Sys2Proof.Machine.execStb core op s
  | .add core op => Sys2Proof.Machine.execAdd core op s
  | .sub core op => Sys2Proof.Machine.execSub core op s
  | .mul core op => Sys2Proof.Machine.execMul core op s
  | .div core op => Sys2Proof.Machine.execDiv core op s
  | .min core op => Sys2Proof.Machine.execMin core op s
  | .max core op => Sys2Proof.Machine.execMax core op s
  | .neg core => Sys2Proof.Machine.execNeg core s
  | .andw core op => Sys2Proof.Machine.execAndw core op s
  | .orw core op => Sys2Proof.Machine.execOrw core op s
  | .xorw core op => Sys2Proof.Machine.execXorw core op s
  | .shl core op => Sys2Proof.Machine.execShl core op s
  | .shr core op => Sys2Proof.Machine.execShr core op s
  | .sar core op => Sys2Proof.Machine.execSar core op s
  | .btst core bit => Sys2Proof.Machine.execBtst core bit s
  | .ceq core op => Sys2Proof.Machine.execCeq core op s
  | .cne core op => Sys2Proof.Machine.execCne core op s
  | .clt core op => Sys2Proof.Machine.execClt core op s
  | .cle core op => Sys2Proof.Machine.execCle core op s
  | .cgt core op => Sys2Proof.Machine.execCgt core op s
  | .cge core op => Sys2Proof.Machine.execCge core op s
  | .trioWdtExpiry t trio code => Sys2Proof.Machine.execTrioWdtExpiry t trio code s
  | .kcommitDue t trio code => Sys2Proof.Machine.execKcommitDue t trio code s
  | .journalWrite t trio code ok => Sys2Proof.Machine.execJournalWrite t trio code ok s
  | .inputImageFrame t raw readback l1mv l2mv crcOk => Sys2Proof.Machine.execInputImageFrame t raw readback l1mv l2mv crcOk s
  | .outputCommandFrame t crcOk => Sys2Proof.Machine.execOutputCommandFrame t crcOk s
  | .ioLinkLoss t => Sys2Proof.Machine.execIoLinkLoss t s
  | .inputChangeEvent t k => Sys2Proof.Machine.execInputChangeEvent t k s
  | .inputDiscrepancy t k => Sys2Proof.Machine.execInputDiscrepancy t k s
  | .testPulseWindow t n pinOk before mid after => Sys2Proof.Machine.execTestPulseWindow t n pinOk before mid after s
  | .encoderEdge t ch a b => Sys2Proof.Machine.execEncoderEdge t ch a b s
  | .outputOverload t q limited => Sys2Proof.Machine.execOutputOverload t q limited s
  | .overloadRetry t q => Sys2Proof.Machine.execOverloadRetry t q s
  | .externalDrive t q => Sys2Proof.Machine.execExternalDrive t q s
  | .externalDriveClassify t q high => Sys2Proof.Machine.execExternalDriveClassify t q high s
  | .darkTest t q => Sys2Proof.Machine.execDarkTest t q s
  | .darkTestEnd t q wentLow => Sys2Proof.Machine.execDarkTestEnd t q wentLow s
  | .brightTest t q => Sys2Proof.Machine.execBrightTest t q s
  | .brightTestEnd t q wentHigh => Sys2Proof.Machine.execBrightTestEnd t q wentHigh s
  | .feedbackTimeout t q => Sys2Proof.Machine.execFeedbackTimeout t q s
  | .groupOvercurrent t g milliamp durationUs => Sys2Proof.Machine.execGroupOvercurrent t g milliamp durationUs s
  | .l1pLow t mv => Sys2Proof.Machine.execL1pLow t mv s
  | .l1pRecover t mv raw => Sys2Proof.Machine.execL1pRecover t mv raw s
  | .l2pLow t mv => Sys2Proof.Machine.execL2pLow t mv s
  | .l2pRecover t mv => Sys2Proof.Machine.execL2pRecover t mv s
  | .fieldOvervoltage t l2 mv => Sys2Proof.Machine.execFieldOvervoltage t l2 mv s
  | .heartbeatSend t => Sys2Proof.Machine.execHeartbeatSend t s
  | .heartbeatAccept t seq crcOk quenchReq => Sys2Proof.Machine.execHeartbeatAccept t seq crcOk quenchReq s
  | .heartbeatExpiry t => Sys2Proof.Machine.execHeartbeatExpiry t s
  | .quenchLineChange t pair => Sys2Proof.Machine.execQuenchLineChange t pair s
  | .fioRecordApply t raw => Sys2Proof.Machine.execFioRecordApply t raw s
  | .fioSelftestComplete t pass => Sys2Proof.Machine.execFioSelftestComplete t pass s
  | .fioDriverShutdown t celsius => Sys2Proof.Machine.execFioDriverShutdown t celsius s
  | .syncFrameRx t portB stampNs f => Sys2Proof.Machine.execSyncFrameRx t portB stampNs f s
  | .dataFrameRx t portB stampNs f => Sys2Proof.Machine.execDataFrameRx t portB stampNs f s
  | .nullFrameRx t portB stampNs f => Sys2Proof.Machine.execNullFrameRx t portB stampNs f s
  | .claimFrameRx t portB stampNs f => Sys2Proof.Machine.execClaimFrameRx t portB stampNs f s
  | .serviceFrameRx t portB stampNs f => Sys2Proof.Machine.execServiceFrameRx t portB stampNs f s
  | .yCapture t slot => Sys2Proof.Machine.execYCapture t slot s
  | .slotTransmit t slot offsetNs stagingPoisoned => Sys2Proof.Machine.execSlotTransmit t slot offsetNs stagingPoisoned s
  | .guardianCutoff t slot => Sys2Proof.Machine.execGuardianCutoff t slot s
  | .claimTransmit t => Sys2Proof.Machine.execClaimTransmit t s
  | .slotMiss t slot => Sys2Proof.Machine.execSlotMiss t slot s
  | .xStale t slot => Sys2Proof.Machine.execXStale t slot s
  | .ergRunningEntry t => Sys2Proof.Machine.execErgRunningEntry t s
  | .ergHoldover t => Sys2Proof.Machine.execErgHoldover t s
  | .guardianHoldover t => Sys2Proof.Machine.execGuardianHoldover t s
  | .leadConflictEnd t => Sys2Proof.Machine.execLeadConflictEnd t s
  | .grantWithdraw t slot => Sys2Proof.Machine.execGrantWithdraw t slot s
  | .ringOpen t portB => Sys2Proof.Machine.execRingOpen t portB s
  | .ergCableMeasure t portB delayNs => Sys2Proof.Machine.execErgCableMeasure t portB delayNs s
  | .ergJoinTimeout t => Sys2Proof.Machine.execErgJoinTimeout t s
  | .ergPortLink t portB up badPeer => Sys2Proof.Machine.execErgPortLink t portB up badPeer s
  | .hostLinkDown t => Sys2Proof.Machine.execHostLinkDown t s
  | .faultEvent t source pair det persists => Sys2Proof.Machine.execFaultEvent t source pair det persists s
  | .collectorSelftest t pass => Sys2Proof.Machine.execCollectorSelftest t pass s
  | .katRun t block preset answer => Sys2Proof.Machine.execKatRun t block preset answer s
  | .refclkFail t => Sys2Proof.Machine.execRefclkFail t s
  | .pllLockLoss t domain => Sys2Proof.Machine.execPllLockLoss t domain s
  | .domainResetHold t domain => Sys2Proof.Machine.execDomainResetHold t domain s
  | .pllRelock t domain => Sys2Proof.Machine.execPllRelock t domain s
  | .internalRailFault t => Sys2Proof.Machine.execInternalRailFault t s
  | .socTempThreshold t celsius => Sys2Proof.Machine.execSocTempThreshold t celsius s
  | .dramTempThreshold t celsius => Sys2Proof.Machine.execDramTempThreshold t celsius s
  | .spLockstepMismatch t => Sys2Proof.Machine.execSpLockstepMismatch t s
  | .spWatchdogExpiry t => Sys2Proof.Machine.execSpWatchdogExpiry t s
  | .spRestart t containerReason => Sys2Proof.Machine.execSpRestart t containerReason s
  | .spRestartDone t => Sys2Proof.Machine.execSpRestartDone t s
  | .nresetFall t widthNs => Sys2Proof.Machine.execNresetFall t widthNs s
  | .nresetRelease t powerOn env => Sys2Proof.Machine.execNresetRelease t powerOn env s
  | .cameraStartDone t => Sys2Proof.Machine.execCameraStartDone t s
  | .engineSlice t => Sys2Proof.Machine.execEngineSlice t s
  | .laneSlice t => Sys2Proof.Machine.execLaneSlice t s
  | .coreSlice t => Sys2Proof.Machine.execCoreSlice t s
  | .crucibleSlice t => Sys2Proof.Machine.execCrucibleSlice t s
  | .sliceComplete t cls logicFail katFail mem page => Sys2Proof.Machine.execSliceComplete t cls logicFail katFail mem page s
  | .sliceAbort t cls => Sys2Proof.Machine.execSliceAbort t cls s
  | .cruRecoveryDone t result => Sys2Proof.Machine.execCruRecoveryDone t result s
  | .i2cTunnelCompletion t ok index data => Sys2Proof.Machine.execI2cTunnelCompletion t ok index data s
  | .fioInternalSupplyTrip t => Sys2Proof.Machine.execFioInternalSupplyTrip t s
  | .arpRequest t targetIp senderIp => Sys2Proof.Machine.execArpRequest t targetIp senderIp s
  | .icmpEchoRequest t dstIp srcIp data => Sys2Proof.Machine.execIcmpEchoRequest t dstIp srcIp data s
  | .hostPacketDrop t link udpLen packet => Sys2Proof.Machine.execHostPacketDrop t link udpLen packet s

end Sys2Proof.Machine
end

