-- ==== Sys2Proof/Machine/Step.lean ====
section
/-! DEFINITION. One step of the module: the front command of the queue runs on the state with the queue's rest. On an
empty queue the service processor takes the next packet of the command queue, if it is free (14 R390); otherwise the
module idles. -/

namespace Sys2Proof.Machine

/-- With nothing waiting outside, the SP executes the oldest packet of the command queue; else the module idles
(log 3). -/
def idle (s : State) : Host.Outcome State Fault Refusal :=
  match s.host.queue with
  | c :: rest =>
    if s.clk.sp = .running ∧ s.clk.spDue = false ∧ s.host.held = none then
      exec c { s with host := { s.host with queue := rest, fromQueue := true } }
    else .next s
  | [] => .next s

/-- One step. -/
def step (s : State) : Host.Outcome State Fault Refusal :=
  match s.pending with
  | c :: rest => exec c { s with pending := rest }
  | [] => idle s

/-- The state with the command that a table word spells put at the front of the queue. The table gives its rows no
bits, so no word spells a command and the state stays. -/
def State.withFetchWord (s : State) (nbits w : Nat) : State :=
  match decodeTableWord nbits w with
  | some c => { s with pending := c :: s.pending }
  | none => s

end Sys2Proof.Machine
end

