-- ==== Sys2Proof/WellFormed.lean ====
section
/-! DEFINITION. Which commands the module's links, pins and cores can carry: every operand fits its field (14 Tables 14.6 to
14.11, 13 Table 13.1, 03 R70), and an interlock instruction passes the operand checks of 10 Table 10.11. A command outside
these never arrives; one inside may still be turned away by the module's own checks. -/

namespace Sys2Proof

open Machine

/-- A number fits a field of `w` bits. -/
def fits (w n : Nat) : Bool := decide (n < 2 ^ w)

/-- Parameters fit a packet (14 R384: 1,400 bytes at most). -/
def bytesWf (b : Bytes) : Bool := decide (b.length ≤ 1400)

/-- The fields of a bulk part (14 R399). -/
def bulkWf (p : BulkPart) : Bool := fits 16 p.index && fits 16 p.rsvd && fits 32 p.total && fits 32 p.offset && bytesWf p.data

/-- A preset from memory carries no count (10 Table 10.5). -/
def timerWf (t : TimerRef) : Bool := !(t.pv && (decide (t.base ≠ 0) || decide (t.count ≠ 0)))

/-- The fields of a CSI-2 packet (03 R70). -/
def rowWf (r : RowPacket) : Bool := fits 4 r.vc && fits 6 r.dtype && fits 16 r.row

/-- The length of an Erg payload (13 Table 13.1). -/
def ergWf (f : ErgFrame) : Bool := fits 16 f.payload.length

/-- The command is well formed. -/
def Instr.wf : Instr → Bool
  | .hello _ _ rsvd tag => fits 24 rsvd && decide (tag.length = 8)
  | .resync _ => true
  | .replayReply _ _ => true
  | .replayEvents _ _ count => fits 16 count
  | .bye _ => true
  | .ping _ data => bytesWf data
  | .paramRead _ count ids => fits 16 count && ids.all (fits 16)
  | .paramWrite _ count rsvd items => fits 16 count && fits 16 rsvd && (items.all fun i => fits 16 i.id && fits 16 i.rsvd)
  | .camEnableStart _ _ => true
  | .camEnableStop _ _ => true
  | .soEnableStart _ _ => true
  | .soEnableStop _ _ => true
  | .tickRateWrite _ _ => true
  | .tickSourceWrite _ _ => true
  | .mirHostAngleWrite _ _ _ => true
  | .witSeedWrite _ _ => true
  | .paramInfo _ id => fits 16 id
  | .poolLoad _ part => bulkWf part
  | .evtAck _ => true
  | .evtMute _ _ => true
  | .evtLogInfo _ => true
  | .evtMirrorRead _ index count => fits 16 index && fits 8 count
  | .viewWrite _ index rsvd rec => fits 16 index && fits 16 rsvd && bytesWf rec
  | .viewRead _ index bank => fits 16 index && fits 8 bank
  | .viewStatus _ first count => fits 16 first && fits 16 count
  | .meshLoad _ part => bulkWf part
  | .meshDelete _ index => fits 16 index
  | .ovlLoad _ part => bulkWf part
  | .ovlDelete _ index => fits 16 index
  | .selLoad _ tbl => bytesWf tbl
  | .commitRead _ view slot => fits 16 view && fits 8 slot
  | .witnessRead _ view slot lane => fits 16 view && fits 8 slot && fits 8 lane
  | .camDiag _ camera => fits 8 camera
  | .camI2c _ camera addr wlen rlen data => fits 8 camera && fits 8 addr && fits 8 wlen && fits 8 rlen && bytesWf data
  | .layoutLoad _ tbl => bytesWf tbl
  | .crcregLoad _ tbl => bytesWf tbl
  | .layerLoad _ part => bulkWf part
  | .layerDelete _ index => fits 8 index
  | .iconLoad _ part => bulkWf part
  | .progLoad _ part => bulkWf part
  | .progDelete _ trio core => fits 8 trio && fits 8 core
  | .trioStart _ trio core kind => fits 8 trio && fits 8 core && fits 8 kind
  | .trioStop _ trio core => fits 8 trio && fits 8 core
  | .trioRestart _ trio core kind => fits 8 trio && fits 8 core && fits 8 kind
  | .progExchange _ part => bulkWf part
  | .ownerLoad _ part => bulkWf part
  | .commission _ _ => true
  | .haltInfo _ trio core => fits 8 trio && fits 8 core
  | .dbgHalt _ trio core => fits 8 trio && fits 8 core
  | .dbgStep _ trio core count => fits 8 trio && fits 8 core && fits 16 count
  | .dbgBreak _ trio core slot on pc => fits 8 trio && fits 8 core && fits 8 slot && fits 8 on && fits 16 pc
  | .dbgResume _ trio core => fits 8 trio && fits 8 core
  | .dbgRead _ trio core area rsvd offset len => fits 8 trio && fits 8 core && fits 8 area && fits 8 rsvd && fits 16 offset && fits 16 len
  | .dbgWrite _ trio core offset len data => fits 8 trio && fits 8 core && fits 16 offset && fits 16 len && bytesWf data
  | .snapshotRead _ trio rsvd offset len => fits 8 trio && fits 8 rsvd && fits 16 offset && fits 16 len
  | .fioLoad _ rec => bytesWf rec
  | .fioRead _ => true
  | .fioAck _ => true
  | .ergSchedLoad _ part => bulkWf part
  | .ergMapLoad _ part => bulkWf part
  | .ergJoin _ => true
  | .ergLeave _ => true
  | .faultSummary _ => true
  | .faultRecord _ source => fits 16 source
  | .faultClear _ source => fits 16 source
  | .faultLogRead _ index count => fits 16 index && fits 8 count
  | .cruRecover _ => true
  | .bistRun _ block => fits 8 block
  | .bistStatus _ => true
  | .lcRead _ => true
  | .svcChallenge _ => true
  | .svcAuth _ response => bytesWf response
  | .updOpen _ => true
  | .updDownload _ part => bulkWf part
  | .updVerify _ => true
  | .updActivate _ => true
  | .updConfirm _ => true
  | .updClose _ => true
  | .lcAdvance _ key => bytesWf key
  | .lcReturn _ key sig => bytesWf key && bytesWf sig
  | .lcScrap _ key sig => bytesWf key && bytesWf sig
  | .undefinedOpcodePacket _ _ data => bytesWf data
  | .workerTimeout _ _ => true
  | .sessionTimeout _ _ => true
  | .eventResend _ _ => true
  | .updLockTimeout _ => true
  | .nonceExpiry _ _ => true
  | .authLockoutEnd _ _ => true
  | .tickEdge _ => true
  | .tickInEdge _ _ => true
  | .tickHoldover _ => true
  | .tickRelock _ => true
  | .camTrigger _ _ => true
  | .camDelayMeasure _ _ roundTrip => fits 16 roundTrip
  | .camFrameStart _ _ pkt frameNo => fits 4 pkt.vc && fits 16 frameNo
  | .camRowReceive _ _ row => rowWf row
  | .camFrameEnd _ _ pkt => fits 4 pkt.vc
  | .camFrameSettle _ _ _ => true
  | .cameraFrozen _ _ => true
  | .camWindowEnd _ _ => true
  | .camLost _ _ => true
  | .camLinkLock _ _ gear roundTrip => fits 2 gear && fits 16 roundTrip
  | .camLinkLoss _ _ => true
  | .cruScrubRead _ flips doubles => (doubles ++ flips.map (·.addr)).all fun a => decide (a < 0x70000000)
  | .creditOverrun _ _ => true
  | .cruLoss _ _ => true
  | .jobDispatch _ _ _ => true
  | .renderComplete _ _ _ => true
  | .viewRecover _ _ => true
  | .renderDeadline _ _ _ => true
  | .viewInvalid _ _ => true
  | .mirageCommitPoint _ _ _ => true
  | .hostAngleTimeout _ _ => true
  | .scanoutFrameStart _ _ => true
  | .pipeFrameComplete _ _ _ => true
  | .pipeTrainingDone _ _ rate lanes => fits 4 rate && fits 3 lanes
  | .pipeLinkLoss _ _ => true
  | .scanoutUnderrun _ _ x y => fits 12 x && fits 12 y
  | .iconParityError _ _ => true
  | .verdictComplete _ _ _ _ => true
  | .witnessInvalid _ _ => true
  | .probationEnd _ _ => true
  | .laneRemoval _ _ => true
  | .witVoterTest _ _ => true
  | .trioCycleStart _ _ _ _ _ _ => true
  | .nop _ => true
  | .endProg _ => true
  | .voterSuspect _ _ => true
  | .voterTest _ _ _ => true
  | .jmp _ _ => true
  | .jc _ _ => true
  | .jnc _ _ => true
  | .call _ _ => true
  | .ret _ => true
  | .ld _ op => opdOk .readBit op
  | .ldn _ op => opdOk .readBit op
  | .and _ op => opdOk .readBit op
  | .andn _ op => opdOk .readBit op
  | .or _ op => opdOk .readBit op
  | .orn _ op => opdOk .readBit op
  | .xor _ op => opdOk .readBit op
  | .not _ => true
  | .psh _ => true
  | .pop _ => true
  | .top _ => true
  | .ands _ => true
  | .ors _ => true
  | .st _ op => opdOk .writeBit op
  | .stn _ op => opdOk .writeBit op
  | .set _ op => opdOk .writeBit op
  | .rst _ op => opdOk .writeBit op
  | .pe _ _ => true
  | .ne _ _ => true
  | .ton _ tm => timerWf tm
  | .tof _ tm => timerWf tm
  | .tp _ tm => timerWf tm
  | .trt _ tm => timerWf tm
  | .trs _ _ => true
  | .tps _ _ => true
  | .tle _ _ => true
  | .ctu _ _ => true
  | .ctd _ _ => true
  | .crs _ _ => true
  | .cld _ _ => true
  | .cps _ _ => true
  | .clv _ _ => true
  | .ldw _ op => opdOk .word op
  | .ldwu _ op => opdOk .wordMem op
  | .ldd _ op => opdOk .dword op
  | .ldih _ _ => true
  | .stw _ op => opdOk .wordMem op
  | .std _ op => opdOk .dword op
  | .ldx _ => true
  | .ldb _ op => opdOk .readBits op
  | .stb _ op => opdOk .writeBits op
  | .add _ op => opdOk .word op
  | .sub _ op => opdOk .word op
  | .mul _ op => opdOk .word op
  | .div _ op => opdOk .word op
  | .min _ op => opdOk .word op
  | .max _ op => opdOk .word op
  | .neg _ => true
  | .andw _ op => opdOk .word op
  | .orw _ op => opdOk .word op
  | .xorw _ op => opdOk .word op
  | .shl _ op => opdOk .word op
  | .shr _ op => opdOk .word op
  | .sar _ op => opdOk .word op
  | .btst _ _ => true
  | .ceq _ op => opdOk .word op
  | .cne _ op => opdOk .word op
  | .clt _ op => opdOk .word op
  | .cle _ op => opdOk .word op
  | .cgt _ op => opdOk .word op
  | .cge _ op => opdOk .word op
  | .trioWdtExpiry _ _ _ => true
  | .kcommitDue _ _ _ => true
  | .journalWrite _ _ _ _ => true
  | .inputImageFrame _ _ _ l1mv l2mv _ => fits 16 l1mv && fits 16 l2mv
  | .outputCommandFrame _ _ => true
  | .ioLinkLoss _ => true
  | .inputChangeEvent _ _ => true
  | .inputDiscrepancy _ _ => true
  | .testPulseWindow _ _ _ _ _ _ => true
  | .encoderEdge _ _ _ _ => true
  | .outputOverload _ _ _ => true
  | .overloadRetry _ _ => true
  | .externalDrive _ _ => true
  | .externalDriveClassify _ _ _ => true
  | .darkTest _ _ => true
  | .darkTestEnd _ _ _ => true
  | .brightTest _ _ => true
  | .brightTestEnd _ _ _ => true
  | .feedbackTimeout _ _ => true
  | .groupOvercurrent _ _ _ _ => true
  | .l1pLow _ mv => fits 16 mv
  | .l1pRecover _ mv _ => fits 16 mv
  | .l2pLow _ mv => fits 16 mv
  | .l2pRecover _ mv => fits 16 mv
  | .fieldOvervoltage _ _ mv => fits 16 mv
  | .heartbeatSend _ => true
  | .heartbeatAccept _ _ _ _ => true
  | .heartbeatExpiry _ => true
  | .quenchLineChange _ _ => true
  | .fioRecordApply _ _ => true
  | .fioSelftestComplete _ _ => true
  | .fioDriverShutdown _ _ => true
  | .syncFrameRx _ _ _ f => ergWf f
  | .dataFrameRx _ _ _ f => ergWf f
  | .nullFrameRx _ _ _ f => ergWf f
  | .claimFrameRx _ _ _ f => ergWf f
  | .serviceFrameRx _ _ _ f => ergWf f
  | .yCapture _ slot => fits 10 slot
  | .slotTransmit _ slot _ _ => fits 10 slot
  | .guardianCutoff _ slot => fits 10 slot
  | .claimTransmit _ => true
  | .slotMiss _ slot => fits 10 slot
  | .xStale _ slot => fits 10 slot
  | .ergRunningEntry _ => true
  | .ergHoldover _ => true
  | .guardianHoldover _ => true
  | .leadConflictEnd _ => true
  | .grantWithdraw _ slot => fits 10 slot
  | .ringOpen _ _ => true
  | .ergCableMeasure _ _ _ => true
  | .ergJoinTimeout _ => true
  | .ergPortLink _ _ _ _ => true
  | .hostLinkDown _ => true
  | .faultEvent _ _ _ _ _ => true
  | .collectorSelftest _ _ => true
  | .katRun _ block _ _ => fits 8 block
  | .refclkFail _ => true
  | .pllLockLoss _ _ => true
  | .domainResetHold _ _ => true
  | .pllRelock _ _ => true
  | .internalRailFault _ => true
  | .socTempThreshold _ _ => true
  | .dramTempThreshold _ _ => true
  | .spLockstepMismatch _ => true
  | .spWatchdogExpiry _ => true
  | .spRestart _ containerReason => fits 4 containerReason
  | .spRestartDone _ => true
  | .nresetFall _ _ => true
  | .nresetRelease _ _ _ => true
  | .cameraStartDone _ => true
  | .engineSlice _ => true
  | .laneSlice _ => true
  | .coreSlice _ => true
  | .crucibleSlice _ => true
  | .sliceComplete _ _ _ _ _ _ => true
  | .sliceAbort _ _ => true
  | .cruRecoveryDone _ result => result.repairs.all fun k => decide (k < 0x70000)
  | .i2cTunnelCompletion _ _ _ data => bytesWf data
  | .fioInternalSupplyTrip _ => true
  | .arpRequest _ _ _ => true
  | .icmpEchoRequest _ _ _ data => bytesWf data
  | .hostPacketDrop _ _ udpLen packet => fits 16 udpLen && bytesWf packet

end Sys2Proof
end

