-- ==== Sys2Proof/Safety.lean ====
section
/-! DEFINITION. The terms the claims use: the canonical forms that every run keeps, which packets the module executes and
in which state (14 Table 14.3), when a core executes a word of its program, and what a safe step is. -/

namespace Sys2Proof

/-- The temperature or the supplies that a command names lie within the absolute maximum ratings (20 R507, Table 20.1); the other
commands name none. -/
def Instr.withinRatings : Instr → Bool
  | .socTempThreshold _ c | .dramTempThreshold _ c => decide (c ≤ 140)
  | .fioDriverShutdown _ c => decide (c ≤ 165)
  | .inputImageFrame _ _ _ l1mv l2mv _ => decide (l1mv ≤ 40000 ∧ l2mv ≤ 40000)
  | .l1pRecover _ mv _ | .l2pRecover _ mv | .fieldOvervoltage _ _ mv => decide (mv ≤ 40000)
  | _ => true

end Sys2Proof

namespace Sys2Proof.Machine

/-- The byte memories are canonical: the Crucible's contents, and the data SRAM of every core. -/
def State.memOk (s : State) : Prop :=
  Memory.wf s.cru.mem = true ∧ ∀ p ∈ s.cores, Memory.wf p.2.sram = true

/-- A safe step ends in a next state: the module goes on (20 R507 names the only stop). -/
def safeStep (s : State) : Prop := ∃ t, step s = .next t

/-! ### Packets (14 Table 14.3) -/

/-- Steps 6 to 10 of 14 Table 14.3 let a packet of an opcode of the tables through to its own checks, and no domain that it
needs stops on this edge (18 R473, R480). -/
def passes (h : Hdr) (ix op : Nat) (s : State) : Bool :=
  (decide (h.link = .forwarded) || decide (h.target.toNat = deviceNo s) || decide (op = 3)) &&
  carries h op s && !lifeDenied h ix op s && (cruOk s || !needsCrucible op) && (domUp 0 s || !needsTrio op) && h.lenOk &&
    (deadDomain op s).isNone

/-- Steps 3 to 5 of 14 Table 14.3: the session the packet belongs to, and the state with the session's clock and sequence
and the acknowledged events brought up to date; none where a step turns the packet away. -/
def sequenced (h : Hdr) (op : Nat) (s : State) : Option (Nat × State) :=
  let ix := sessionIx h s
  if h.link = .forwarded then some (ix, ackEvents h.dseq (touchLock ix s))
  else
    let s := expire ix s
    if h.version ≠ 1 ∨ h.rsvd ≠ 0 ∨ opensTo h ix op s = false then none
    else
      let s := heardFrom h ix s
      if seqFree h.link op then some (ix, s)
      else if h.hseq = hseqNext s ix then some (ix, setHseq s ix (h.hseq + 1) h.hseq)
      else none

/-- The session a packet belongs to and the state in which its own checks and effect take place, none where a step of
14 Table 14.3 turns it away or makes it wait in the queue, and where its command buffer reads poisoned. -/
def admitted (h : Hdr) (op : Nat) (s : State) : Option (Nat × State) :=
  let base : Option State :=
    if s.host.fromQueue then (if cmdPoisoned h (takeCommand h s) then none else some (takeCommand h s))
    else
      let s := advance h.t s
      let s' := if h.link = .host then settle 83 (s.modHost fun x => { x with linkUp := true }) else s
      if !answers h s || decide (s'.clk.sp = .restarting) || queueFull s' || mustWait s' then none
      else some s'
  match base with
  | none => none
  | some s =>
    match sequenced h op s with
    | none => none
    | some (ix, s) => if passes h ix op s then some (ix, s) else none

/-! ### Words of a core (10 R284, 09 R244, R259, R260) -/

/-- A core is about to execute an instruction of its program undisturbed: the core takes part in the cycle and has not
ended, the word at its PC is the instruction's and passes its checks, no breakpoint stands there, no byte it touches holds an
error, and no debugger write waits. -/
def ready (ci : Nat) (i : TInstr) (s : State) : Bool :=
  let x := s.unit (unitOfCore s ci)
  let c := s.core ci
  mayExecute s ci && decide (x.code[c.pc]? = some (encodeTrio i)) && wordOk x.code.length (encodeTrio i) &&
    !atBreak s ci && (touches i c).all (fun a => !(c.ceAt.any fun b => b / 8 = a) && !c.ueAt.contains a) && x.dbgWrites.isEmpty

/-- The state after an instruction that left a core as `c`: the instruction counted, and F8 to F12 as the flags stand. -/
def ran (ci : Nat) (c : Core) (s : State) : State :=
  s.modCore ci fun _ => syncF { c with steps := c.steps + 1 }

/-- The core one instruction further: its PC and its clocks (10 R277). -/
def further (clk : Nat) (c : Core) : Core := { c with pc := c.pc + 1, clocks := c.clocks + clk }

/-- Clocks of an instruction with an operand: one more when it is indexed (10 R277). -/
def clocksOf (o : OpRef) (clk : Nat) : Nat := clk + (if o.ixf then 1 else 0)

/-- WACC written with a result and its flags: Z and N of the result, V and C as given, OVS kept or set by V (10 R273). -/
def withResult (c : Core) (r : Word) (v cy : Bool) : Core :=
  { c with wacc := r, z := decide (r = 0), n := r.getLsbD 31, v := v, c := cy, ovs := c.ovs || v }

/-- A comparison: ACC takes its result, the flags are those of WACC minus the operand, and WACC stays (10 Table 10.8). -/
def compared (c : Core) (b : Word) (r : Bool) : Core :=
  let d := withResult c (c.wacc - b) (decide (c.wacc.toInt - b.toInt < -2 ^ 31 ∨ 2 ^ 31 ≤ c.wacc.toInt - b.toInt))
    (decide (c.wacc.toNat < b.toNat))
  { d with wacc := c.wacc, acc := r }

/-- The bit of a space that an instruction names, by its address and position in the data SRAM, takes a value (10 R268,
R269). -/
def withBit (c : Core) (sp i : Nat) (v : Bool) : Core :=
  let a := (bitHome sp i).1
  let was := (Memory.read c.sram a).toNat
  { c with sram := Memory.write c.sram a (b8 (setBitN was (bitHome sp i).2 v)) }

end Sys2Proof.Machine
end

