-- ==== Sys2Proof/Certificates/Slice0/Obligations.lean ====
section
/-! DEFINITION. The statements for the provers. Each docstring names the rule of spec/ that its statement formalises. -/

open Sys2Proof Sys2Proof.Machine

/-! ### The trio's instructions (chapter 10)

Each clause says of one instruction, for a core that is ready to execute it: exec answers the state in which that core stands as
stated, one instruction further, and everything else is as before. -/

/-- 10 Table 10.6: LD, LDN, AND, ANDN, OR, ORN and XOR compute ACC from ACC and the operand bit. 10 Table 10.6: NOT, PSH, POP,
TOP, ANDS and ORS on ACC and the logic stack, and LDX. 10 Table 10.6: ST, STN, SET and RST write the operand bit and leave ACC
unchanged. -/
def Obligations.TrioBits : Prop :=
  (∀ (ci : Fin 24) (o : OpRef) (s : State), effIndex (s.core ci) o < spaceSize o.space.toNat →
    let c := s.core ci
    let x := readBit c o.space.toNat (effIndex c o)
    let out (b : Bool) : State := ran ci (further (clocksOf o 4) { c with acc := b }) s
    (ready ci { code := 0x10, arg := .opd o } s → exec (.ld ci o) s = .next (out x)) ∧
    (ready ci { code := 0x11, arg := .opd o } s → exec (.ldn ci o) s = .next (out (!x))) ∧
    (ready ci { code := 0x12, arg := .opd o } s → exec (.and ci o) s = .next (out (c.acc && x))) ∧
    (ready ci { code := 0x13, arg := .opd o } s → exec (.andn ci o) s = .next (out (c.acc && !x))) ∧
    (ready ci { code := 0x14, arg := .opd o } s → exec (.or ci o) s = .next (out (c.acc || x))) ∧
    (ready ci { code := 0x15, arg := .opd o } s → exec (.orn ci o) s = .next (out (c.acc || !x))) ∧
    (ready ci { code := 0x16, arg := .opd o } s → exec (.xor ci o) s = .next (out (xor c.acc x)))) ∧
  (∀ (ci : Fin 24) (s : State),
    let c := s.core ci
    let out (c' : Core) : State := ran ci (further 2 c') s
    (ready ci { code := 0x18, arg := .nil } s → exec (.not ci) s = .next (out { c with acc := !c.acc })) ∧
    (ready ci { code := 0x19, arg := .nil } s → c.ls.length < 16 →
      exec (.psh ci) s = .next (out { c with ls := c.acc :: c.ls })) ∧
    (∀ x r, c.ls = x :: r →
      (ready ci { code := 0x1A, arg := .nil } s → exec (.pop ci) s = .next (out { c with acc := x, ls := r })) ∧
      (ready ci { code := 0x1B, arg := .nil } s → exec (.top ci) s = .next (out { c with acc := x })) ∧
      (ready ci { code := 0x1C, arg := .nil } s → exec (.ands ci) s = .next (out { c with acc := c.acc && x, ls := r })) ∧
      (ready ci { code := 0x1D, arg := .nil } s → exec (.ors ci) s = .next (out { c with acc := c.acc || x, ls := r }))) ∧
    (ready ci { code := 0x46, arg := .nil } s →
      exec (.ldx ci) s = .next (out { c with ix := c.wacc.extractLsb' 0 16 }))) ∧
  (∀ (ci : Fin 24) (o : OpRef) (s : State), effIndex (s.core ci) o < spaceSize o.space.toNat →
    let c := s.core ci
    let x := readBit c o.space.toNat (effIndex c o)
    let out (b : Bool) : State := ran ci (further (clocksOf o 4) (withBit c o.space.toNat (effIndex c o) b)) s
    (ready ci { code := 0x20, arg := .opd o } s → exec (.st ci o) s = .next (out c.acc)) ∧
    (ready ci { code := 0x21, arg := .opd o } s → exec (.stn ci o) s = .next (out (!c.acc))) ∧
    (ready ci { code := 0x22, arg := .opd o } s → exec (.set ci o) s = .next (out (if c.acc then true else x))) ∧
    (ready ci { code := 0x23, arg := .opd o } s → exec (.rst ci o) s = .next (out (if c.acc then false else x))))

/-- 10 Table 10.6: NOP, END, JMP, JC, JNC, CALL and RET. The END that is the last of the unit's executing cores' ends the
cycle (11 Table 11.1); any other leaves the rest of the module as it is. -/
def Obligations.TrioControl : Prop :=
  ∀ (ci : Fin 24) (tgt : BitVec 16) (s : State),
    let c := s.core ci
    let at' (p clk : Nat) (c' : Core) : State := ran ci { c' with pc := p, clocks := c'.clocks + clk } s
    (ready ci { code := 0x00, arg := .nil } s → exec (.nop ci) s = .next (at' (c.pc + 1) 2 c)) ∧
    (ready ci { code := 0x01, arg := .nil } s →
      let e : State := at' (c.pc + 1) 2 { c with ended := true, ls := [], cs := [] }
      exec (.endProg ci) s = .next (settleCycle (unitOfCore s ci) e) ∧
      ((∃ cj ∈ running s (unitOfCore s ci), cj ≠ ci ∧ (s.core cj).ended = false) → exec (.endProg ci) s = .next e)) ∧
    (ready ci { code := 0x02, arg := .target tgt } s → exec (.jmp ci tgt) s = .next (at' tgt.toNat 4 c)) ∧
    (ready ci { code := 0x03, arg := .target tgt } s →
      exec (.jc ci tgt) s = .next (if c.acc then at' tgt.toNat 4 c else at' (c.pc + 1) 2 c)) ∧
    (ready ci { code := 0x04, arg := .target tgt } s →
      exec (.jnc ci tgt) s = .next (if c.acc then at' (c.pc + 1) 2 c else at' tgt.toNat 4 c)) ∧
    (ready ci { code := 0x05, arg := .target tgt } s → c.cs.length < 8 →
      exec (.call ci tgt) s = .next (at' tgt.toNat 5 { c with cs := (c.pc + 1) :: c.cs })) ∧
    (∀ p r, c.cs = p :: r → ready ci { code := 0x06, arg := .nil } s →
      exec (.ret ci) s = .next (at' p 5 { c with cs := r }))

/-- 10 Table 10.6, 11 R308: PE and NE leave the edge in ACC and the previous ACC in the edge bit; at the first execution of
an edge bit in the exchange mask the previous state is the input itself, so the result is 0, and the bit leaves the mask. -/
def Obligations.TrioEdges : Prop :=
  ∀ (ci : Fin 24) (e : BitVec 12) (s : State),
    let c := s.core ci
    let prev := bitAt (Memory.read c.sram (0x700 + e.toNat / 8)).toNat (e.toNat % 8)
    let put := putBit c (0x700 + e.toNat / 8) (e.toNat % 8) c.acc
    let out (b : Bool) : State := ran ci (further 5 (if c.mask.contains (10000 + e.toNat)
      then { put with acc := false, mask := c.mask.filter (· ≠ 10000 + e.toNat) } else { put with acc := b })) s
    (ready ci { code := 0x24, arg := .edge e } s → exec (.pe ci e) s = .next (out (c.acc && !prev))) ∧
    (ready ci { code := 0x25, arg := .edge e } s → exec (.ne ci e) s = .next (out (!c.acc && prev)))

/-- 10 R279: TON, TOF, TP and TRT evaluate the timer's record and leave Q in ACC; a timer in the exchange mask takes IN and LAST
from the input presented and T_NOW (11 R308). 10 R279, R275: TRS resets a timer when ACC is 1; TPS writes PRESET limited at 0,
with V; TLE reads ELAPSED. 10 R282, R275, 11 R308: CTU, CTD, CRS, CLD, CPS and CLV. A count at its limit stays and sets V; a
counter in the exchange mask takes its previous input from the input presented. -/
def Obligations.TrioTimersCounters : Prop :=
  (∀ (ci : Fin 24) (tm : TimerRef) (s : State),
    let c := s.core ci
    let n := tm.num.toNat
    let first := c.mask.contains n
    let preset := if tm.pv then sramNat c (0x1000 + 16 * n) 4 else tm.count.toNat * [100, 1000, 10000, 100000].getD tm.base.toNat 0
    let elapsed := sramNat c (0x1000 + 16 * n + 4) 4
    let flags := (Memory.read c.sram (0x1000 + 16 * n + 12)).toNat
    let q := bitAt flags 0
    let run := bitAt flags 2
    let inp := if first then c.acc else bitAt flags 1
    let last := if first then c.tnow.toNat else sramNat c (0x1000 + 16 * n + 8) 4
    let grown := min (elapsed + (c.tnow.toNat + 2 ^ 32 - last) % 2 ^ 32) preset
    let out (e : Nat) (q run : Bool) : State :=
      let c1 := if first then { c with mask := c.mask.filter (· ≠ n) } else c
      ran ci (further 12 { c1 with
        acc := q,
        sram := Memory.put c.sram (0x1000 + 16 * n)
          (le 4 preset ++ le 4 e ++ le 4 c.tnow.toNat ++ [b8 (b2n q + 2 * b2n c.acc + 4 * b2n run)]) }) s
    (ready ci { code := 0x30, arg := .timer tm } s →
      let e := if c.acc && inp then grown else 0
      exec (.ton ci tm) s = .next (out e (c.acc && decide (preset ≤ e)) (c.acc && !decide (preset ≤ e)))) ∧
    (ready ci { code := 0x31, arg := .timer tm } s →
      exec (.tof ci tm) s = .next (
        if c.acc then out 0 true false
        else if inp then out 0 (decide (0 < preset)) (decide (0 < preset))
        else if q then out grown (decide (grown < preset)) (decide (grown < preset))
        else out elapsed false false)) ∧
    (ready ci { code := 0x32, arg := .timer tm } s →
      exec (.tp ci tm) s = .next (
        if run then (if preset ≤ grown then out grown false false else out grown q true)
        else if c.acc && !inp then out 0 (decide (0 < preset)) (decide (0 < preset))
        else out elapsed q false)) ∧
    (ready ci { code := 0x33, arg := .timer tm } s →
      let e := if c.acc && inp then grown else elapsed
      exec (.trt ci tm) s = .next (out e (decide (preset ≤ e)) (c.acc && !decide (preset ≤ e))))) ∧
  (∀ (ci : Fin 24) (k : BitVec 8) (s : State),
    let c := s.core ci
    let a := 0x1000 + 16 * k.toNat
    let out (c' : Core) : State := ran ci (further 6 c') s
    (ready ci { code := 0x34, arg := .num k } s →
      exec (.trs ci k) s = .next (out (if c.acc then
        { c with sram := Memory.put c.sram a (le 4 (sramNat c a 4) ++ le 4 0 ++ le 4 c.tnow.toNat ++
          [b8 (2 * b2n (bitAt (Memory.read c.sram (a + 12)).toNat 1))]) } else c))) ∧
    (ready ci { code := 0x35, arg := .num k } s →
      exec (.tps ci k) s = .next (out { c with
        sram := Memory.put c.sram a (le 4 (if c.wacc.toInt < 0 then 0 else c.wacc.toNat)),
        v := decide (c.wacc.toInt < 0), ovs := c.ovs || decide (c.wacc.toInt < 0) })) ∧
    (ready ci { code := 0x36, arg := .num k } s →
      exec (.tle ci k) s = .next (out (withResult c (BitVec.ofNat 32 (sramNat c (a + 4) 4)) false false)))) ∧
  (∀ (ci : Fin 24) (k : BitVec 8) (s : State),
    let c := s.core ci
    let a := 0x3400 + 16 * k.toNat
    let value : Int := signed 32 (sramNat c a 4)
    let preset : Int := signed 32 (sramNat c (a + 4) 4)
    let flag (b : Nat) : Bool := bitAt (Memory.read c.sram (a + 8)).toNat b
    let put (d : Core) (v : Int) : Core := { d with sram := Memory.put d.sram a (le 4 (v % 2 ^ 32).toNat) }
    (ready ci { code := 0x38, arg := .num k } s →
      let was := if c.mask.contains (1000 + k.toNat) then c.acc else flag 1
      let full := decide (value = 2 ^ 31 - 1)
      let v := if c.acc && !was && !full then value + 1 else value
      let q := decide (preset ≤ v)
      let d := putBit (putBit (put { c with mask := c.mask.filter (· ≠ 1000 + k.toNat) } v) (a + 8) 1 c.acc) (a + 8) 0 q
      let atEnd := c.acc && !was && full
      exec (.ctu ci k) s = .next (ran ci (further 10 { d with acc := q, v := atEnd, ovs := c.ovs || atEnd }) s)) ∧
    (ready ci { code := 0x39, arg := .num k } s →
      let was := if c.mask.contains (2000 + k.toNat) then c.acc else flag 2
      let empty := decide (value = -2 ^ 31)
      let v := if c.acc && !was && !empty then value - 1 else value
      let q := decide (v ≤ 0)
      let d := putBit (putBit (put { c with mask := c.mask.filter (· ≠ 2000 + k.toNat) } v) (a + 8) 2 c.acc) (a + 8) 0 q
      let atEnd := c.acc && !was && empty
      exec (.ctd ci k) s = .next (ran ci (further 10 { d with acc := q, v := atEnd, ovs := c.ovs || atEnd }) s)) ∧
    (ready ci { code := 0x3A, arg := .num k } s →
      exec (.crs ci k) s = .next (ran ci (further 6 (if c.acc then putBit (put c 0) (a + 8) 0 false else c)) s)) ∧
    (ready ci { code := 0x3B, arg := .num k } s →
      exec (.cld ci k) s = .next (ran ci (further 6 (if c.acc then putBit (put c preset) (a + 8) 0 false else c)) s)) ∧
    (ready ci { code := 0x3C, arg := .num k } s →
      exec (.cps ci k) s = .next (ran ci (further 6 { c with sram := Memory.put c.sram (a + 4) (le 4 c.wacc.toNat) }) s)) ∧
    (ready ci { code := 0x3D, arg := .num k } s →
      exec (.clv ci k) s = .next (ran ci (further 6 (withResult c (BitVec.ofInt 32 value) false false)) s)))

/-- 10 Table 10.8: the loads and stores of words and bit groups: LDW, LDWU, LDD, LDIH, STW, STD, LDB and STB. -/
def Obligations.TrioWordMoves : Prop :=
  ∀ (ci : Fin 24) (o : OpRef) (imm : BitVec 16) (s : State),
    let c := s.core ci
    let i := effIndex c o
    let sp := o.space.toNat
    let word (j : Nat) : Nat := sramNat c (spaceBase sp + 2 * j) 2
    let out (clk : Nat) (c' : Core) : State := ran ci (further (clocksOf o clk) c') s
    let load (r : Word) : Core := withResult c r false false
    (∀ b, wordOperand c o = .ok b →
      (ready ci { code := 0x40, arg := .opd o } s → exec (.ldw ci o) s = .next (out 4 (load b))) ∧
      (ready ci { code := 0x41, arg := .opd o } s → exec (.ldwu ci o) s = .next (out 4 (load (b &&& 0xFFFF))))) ∧
    (ready ci { code := 0x42, arg := .opd o } s → i + 1 < spaceSize sp →
      exec (.ldd ci o) s = .next (out 5 (load (BitVec.ofNat 32 (word (i + 1) * 65536 + word i))))) ∧
    (ready ci { code := 0x43, arg := .opd { space := 0xE, ixf := false, addr := imm } } s →
      exec (.ldih ci imm) s = .next (ran ci (further 2 (load (BitVec.ofNat 32 (imm.toNat * 65536 + c.wacc.toNat % 65536)))) s)) ∧
    (ready ci { code := 0x44, arg := .opd o } s → i < spaceSize sp →
      exec (.stw ci o) s = .next (out 4 (putSram c (spaceBase sp + 2 * i) (le 2 (c.wacc.toNat % 65536))))) ∧
    (ready ci { code := 0x45, arg := .opd o } s → i + 1 < spaceSize sp →
      exec (.std ci o) s = .next (out 5 (putSram (putSram c (spaceBase sp + 2 * i) (le 2 (c.wacc.toNat % 65536)))
        (spaceBase sp + 2 * (i + 1)) (le 2 (c.wacc.toNat / 65536 % 65536))))) ∧
    (ready ci { code := 0x47, arg := .opd o } s → i % 16 = 0 → i + 15 < spaceSize sp →
      exec (.ldb ci o) s = .next (out 4 (load (BitVec.ofNat 32 (packBits ((List.range 16).map fun j => readBit c sp (i + j))))))) ∧
    (ready ci { code := 0x48, arg := .opd o } s → i % 16 = 0 → i + 15 < spaceSize sp →
      exec (.stb ci o) s = .next (out 6 (putSram c (spaceBase sp + i / 8) (le 2 (c.wacc.toNat % 65536)))))

/-- 10 Table 10.8: ADD, SUB, MUL, DIV, MIN, MAX and NEG, with their flags. 10 Table 10.8, R276: ANDW, ORW, XORW, the shifts SHL,
SHR and SAR with the last bit shifted out in C, and BTST. -/
def Obligations.TrioWordResults : Prop :=
  (∀ (ci : Fin 24) (o : OpRef) (b : Word) (s : State), wordOperand (s.core ci) o = .ok b →
    let c := s.core ci
    let w := c.wacc
    let lost (z : Int) : Bool := decide (z < -2 ^ 31 ∨ 2 ^ 31 ≤ z)
    let out (clk : Nat) (r : Word) (v cy : Bool) : State := ran ci (further (clocksOf o clk) (withResult c r v cy)) s
    (ready ci { code := 0x50, arg := .opd o } s → exec (.add ci o) s =
      .next (out 3 (w + b) (lost (w.toInt + b.toInt)) (decide (2 ^ 32 ≤ w.toNat + b.toNat)))) ∧
    (ready ci { code := 0x51, arg := .opd o } s → exec (.sub ci o) s =
      .next (out 3 (w - b) (lost (w.toInt - b.toInt)) (decide (w.toNat < b.toNat)))) ∧
    (ready ci { code := 0x52, arg := .opd o } s → exec (.mul ci o) s =
      .next (out 6 (BitVec.ofInt 32 (w.toInt * b.toInt)) (lost (w.toInt * b.toInt)) false)) ∧
    (ready ci { code := 0x53, arg := .opd o } s → exec (.div ci o) s =
      .next (if b = 0 then out 34 w true false
        else out 34 (BitVec.ofInt 32 (w.toInt.tdiv b.toInt)) (decide (w.toInt = -2 ^ 31 ∧ b.toInt = -1)) false)) ∧
    (ready ci { code := 0x54, arg := .opd o } s → exec (.min ci o) s =
      .next (out 3 (if b.toInt < w.toInt then b else w) false false)) ∧
    (ready ci { code := 0x55, arg := .opd o } s → exec (.max ci o) s =
      .next (out 3 (if w.toInt < b.toInt then b else w) false false)) ∧
    (ready ci { code := 0x56, arg := .nil } s → exec (.neg ci) s =
      .next (ran ci (further 2 (withResult c (0 - w) (decide (w = 0x80000000)) false)) s))) ∧
  (∀ (ci : Fin 24) (o : OpRef) (k : BitVec 5) (b : Word) (s : State), wordOperand (s.core ci) o = .ok b →
    let c := s.core ci
    let w := c.wacc
    let n := b.toNat % 32
    let out (r : Word) (cy : Bool) : State := ran ci (further (clocksOf o 3) (withResult c r false cy)) s
    (ready ci { code := 0x60, arg := .opd o } s → exec (.andw ci o) s = .next (out (w &&& b) false)) ∧
    (ready ci { code := 0x61, arg := .opd o } s → exec (.orw ci o) s = .next (out (w ||| b) false)) ∧
    (ready ci { code := 0x62, arg := .opd o } s → exec (.xorw ci o) s = .next (out (w ^^^ b) false)) ∧
    (ready ci { code := 0x63, arg := .opd o } s → exec (.shl ci o) s =
      .next (out (w <<< n) (if n = 0 then false else w.getLsbD (32 - n)))) ∧
    (ready ci { code := 0x64, arg := .opd o } s → exec (.shr ci o) s =
      .next (out (w >>> n) (if n = 0 then false else w.getLsbD (n - 1)))) ∧
    (ready ci { code := 0x65, arg := .opd o } s → exec (.sar ci o) s =
      .next (out (w.sshiftRight n) (if n = 0 then false else w.getLsbD (n - 1)))) ∧
    (ready ci { code := 0x66, arg := .opd { space := 0xE, ixf := false, addr := k.setWidth 16 } } s → exec (.btst ci k) s =
      .next (ran ci (further 2 { c with acc := w.getLsbD k.toNat }) s)))

/-- 10 Table 10.8: the comparisons leave their result in ACC, the flags of WACC minus the operand, and WACC unchanged. -/
def Obligations.TrioCompare : Prop :=
  ∀ (ci : Fin 24) (o : OpRef) (b : Word) (s : State), wordOperand (s.core ci) o = .ok b →
    let c := s.core ci
    let x := c.wacc.toInt
    let y := b.toInt
    let out (r : Bool) : State := ran ci (further (clocksOf o 3) (compared c b r)) s
    (ready ci { code := 0x70, arg := .opd o } s → exec (.ceq ci o) s = .next (out (decide (x = y)))) ∧
    (ready ci { code := 0x71, arg := .opd o } s → exec (.cne ci o) s = .next (out (decide (x ≠ y)))) ∧
    (ready ci { code := 0x72, arg := .opd o } s → exec (.clt ci o) s = .next (out (decide (x < y)))) ∧
    (ready ci { code := 0x73, arg := .opd o } s → exec (.cle ci o) s = .next (out (decide (x ≤ y)))) ∧
    (ready ci { code := 0x74, arg := .opd o } s → exec (.cgt ci o) s = .next (out (decide (y < x)))) ∧
    (ready ci { code := 0x75, arg := .opd o } s → exec (.cge ci o) s = .next (out (decide (y ≤ x))))

/-- 10 R284, R285, Table 10.12: an instruction that overruns a stack, pops an empty one, or indexes outside its space writes
nothing and halts its unit with cause 7, the exception's code, the core and its PC; on the edge of the watchdog's expiry the cause is
the expiry's, 6. -/
def Obligations.TrioExceptions : Prop :=
  ∀ (ci : Fin 24) (o : OpRef) (tgt : BitVec 16) (s : State),
    let c := s.core ci
    let u := unitOfCore s ci
    let raises (e : Nat) (i : Instr) : Prop := ∃ t, exec i s = .next t ∧ t.cores = s.cores ∧ (t.unit u).st = .halted ∧
      (t.unit u).cause = (if wdtOver u s then 6 else 7) ∧
      (wdtOver u s = false → (t.unit u).excCode = e ∧ (t.unit u).excCore = ci.val % 3 ∧
        (t.unit u).excPc = (s.core (coreIx (u / 4) (ci.val % 3))).pc)
    ((s.unit u).st = .run ∨ (s.unit u).st = .debug) →
    (ready ci { code := 0x19, arg := .nil } s → 16 ≤ c.ls.length → raises 1 (.psh ci)) ∧
    (c.ls = [] →
      (ready ci { code := 0x1A, arg := .nil } s → raises 2 (.pop ci)) ∧
      (ready ci { code := 0x1B, arg := .nil } s → raises 2 (.top ci)) ∧
      (ready ci { code := 0x1C, arg := .nil } s → raises 2 (.ands ci)) ∧
      (ready ci { code := 0x1D, arg := .nil } s → raises 2 (.ors ci))) ∧
    (ready ci { code := 0x05, arg := .target tgt } s → 8 ≤ c.cs.length → raises 3 (.call ci tgt)) ∧
    (ready ci { code := 0x06, arg := .nil } s → c.cs = [] → raises 4 (.ret ci)) ∧
    (spaceSize o.space.toNat ≤ effIndex c o →
      (ready ci { code := 0x10, arg := .opd o } s → raises 5 (.ld ci o)) ∧
      (ready ci { code := 0x20, arg := .opd o } s → raises 5 (.st ci o)) ∧
      (ready ci { code := 0x44, arg := .opd o } s → raises 5 (.stw ci o)))

/-- 10 R268, R269: a store changes the bytes of its operand and the byte of the flags F8 to F12 only; every other byte of the
core's data SRAM reads as before, as does all of it but the flags after an instruction that stores nothing. -/
def Obligations.TrioStoreFrame : Prop :=
  ∀ (ci : Fin 24) (o : OpRef) (s t : State) (a : Nat), Memory.wf (s.core ci).sram = true → a ≠ 9 →
    let c := s.core ci
    let i := effIndex c o
    let sp := o.space.toNat
    let same : Prop := Memory.read (t.core ci).sram a = Memory.read c.sram a
    ((i < spaceSize sp → a ≠ (bitHome sp i).1 →
      (ready ci { code := 0x20, arg := .opd o } s → exec (.st ci o) s = .next t → same) ∧
      (ready ci { code := 0x21, arg := .opd o } s → exec (.stn ci o) s = .next t → same) ∧
      (ready ci { code := 0x22, arg := .opd o } s → exec (.set ci o) s = .next t → same) ∧
      (ready ci { code := 0x23, arg := .opd o } s → exec (.rst ci o) s = .next t → same)) ∧
    ((a < wordHome sp i ∨ wordHome sp i + 2 ≤ a) → i < spaceSize sp →
      ready ci { code := 0x44, arg := .opd o } s → exec (.stw ci o) s = .next t → same) ∧
    ((a < wordHome sp i ∨ wordHome sp i + 4 ≤ a) → i + 1 < spaceSize sp →
      ready ci { code := 0x45, arg := .opd o } s → exec (.std ci o) s = .next t → same) ∧
    ((a < spaceBase sp + i / 8 ∨ spaceBase sp + i / 8 + 2 ≤ a) → i % 16 = 0 → i + 15 < spaceSize sp →
      ready ci { code := 0x48, arg := .opd o } s → exec (.stb ci o) s = .next t → same) ∧
    (i < spaceSize sp →
      (ready ci { code := 0x10, arg := .opd o } s → exec (.ld ci o) s = .next t → same) ∧
      (ready ci { code := 0x16, arg := .opd o } s → exec (.xor ci o) s = .next t → same)) ∧
    (∀ b, wordOperand c o = .ok b →
      (ready ci { code := 0x40, arg := .opd o } s → exec (.ldw ci o) s = .next t → same) ∧
      (ready ci { code := 0x50, arg := .opd o } s → exec (.add ci o) s = .next t → same) ∧
      (ready ci { code := 0x70, arg := .opd o } s → exec (.ceq ci o) s = .next t → same)))

/-- 10 R271, Table 10.5: decoding and encoding of the trio's instructions agree: every instruction whose operand part has the
form of its opcode decodes from its own word, and a word that decodes is the word of what it decodes to. -/
def Obligations.TrioEncoding : Prop :=
  (∀ i : TInstr, argFits i = true → decodeTrio (encodeTrio i) = some i) ∧
  (∀ (w : Word) (i : TInstr), decodeTrio w = some i → encodeTrio i = w ∧ argFits i = true)

/-! ### The host interface (chapter 14)

A host command whose packet is admitted (14 Table 14.3) runs in the state that the admission leaves, and is answered. -/

/-- 14 Table 14.3, R388, R390, R394, 19 R498: what the admission of a packet changes: the time and what has happened at its edge, the
host interface (its sessions, sequences, event window and queue), the fault source of the host link, the update lock, the SERVICE
payloads of a worker with their staging, the interface's channel, the Crucible's use, the count of resends where one is taken back (14
R406) and, where a session has just timed out, the event log and mirror. Every unit, every other register, object and fuse stays, and every
byte of the Crucible outside the event log and staging. A packet taken from a command buffer in which an error waits, or an event read from
a log in which one waits, also meets that error (04 R93): the units, cores, ports and outputs still stay. -/
def Obligations.AdmissionFrame : Prop :=
  ∀ (h : Hdr) (op ix : Nat) (s s1 : State), admitted h op s = some (ix, s1) →
    (s1.cams = s.cams ∧ s1.pipes = s.pipes ∧ s1.lanes = s.lanes ∧ s1.cores = s.cores ∧ s1.units = s.units ∧ s1.trios = s.trios ∧
      s1.fio = s.fio ∧ s1.iol = s.iol ∧ s1.tick = s.tick ∧ s1.owners = s.owners ∧ s1.st = s.st) ∧
    ((s.host.fromQueue = false ∨ ∀ w, tget 0 s.cru.errs w ≠ 0 → 8 * w + 8 ≤ cmdBuffer h ∨ cmdBuffer h + 2048 ≤ 8 * w) →
      (∀ w, tget 0 s.cru.errs w ≠ 0 → 8 * w + 8 ≤ 0x6C100000 ∨ 0x6C140000 ≤ 8 * w) →
      (∀ id, id ≠ P.sysReplays → reg s1 id = reg s id) ∧
      { s1 with
        now := s.now, inst := s.inst, host := s.host, regs := s.regs, chans := s.chans, flt := { s1.flt with srcs := s.flt.srcs },
        upd := { s1.upd with lock := s.upd.lock, lockAt := s.upd.lockAt },
        erg := { s1.erg with serviceOut := s.erg.serviceOut, stagingAt := s.erg.stagingAt },
        cru := { s1.cru with
          mem := s.cru.mem, poison := s.cru.poison, errs := s.cru.errs, used := s.cru.used, credits := s.cru.credits },
        mram := { s1.mram with mirror := s.mram.mirror } } = s ∧
      (Memory.wf s.cru.mem = true → Memory.wf s1.cru.mem = true ∧
        ∀ a, (a < 0x6C100000 ∨ 0x6C140000 ≤ a) → (a < 0x6D000000 ∨ 0x6E000000 ≤ a) →
          Memory.read s1.cru.mem a = Memory.read s.cru.mem a))

/-- 14 Table 14.1, R389: a reply carries the packet's HSEQ and opcode, a status and parameters (PARAM_WRITE's fields with every
status, R400), and goes back where the packet came from, by the gateway where that lies in another subnet (Table 14.12); a sequenced one is
kept as the newest of the replay window; nothing else changes but the channel that forms its check value. -/
def Obligations.ReplyForm : Prop :=
  ∀ (h : Hdr) (ix op st : Nat) (out : Bytes) (s : State), h.link ≠ .forwarded →
    let t := reply h ix op st out s
    let p : OutPkt := {
      kind := .reply, link := h.link, ip := h.srcIp, port := h.srcPort, hseq := h.hseq, dseq := s.host.eseq,
      target := deviceNo s, status := st, opcode := op, params := replyParams op st out }
    t.host.tx = { p with via := nextHop p s } :: s.host.tx ∧ { t with host := s.host } = useChannel 0x61 1 1 s ∧ sessOf t ix = sessOf s ix ∧ hseqNext t ix = hseqNext s ix ∧
    (seqFree h.link op = true → windowOf t ix = windowOf s ix) ∧
    (seqFree h.link op = false → (hseqNext s ix - h.hseq).toNat ≤ windowSize ix → (windowOf t ix).head? = some p)

/-- 14 R389, R392, 13 R379: a sequenced packet of the session whose HSEQ is not the next one does not run its body: where the
replay window holds the reply to that HSEQ it is sent once more with REPLAY set; a sequenced command of the session that still
awaits its worker's reply is answered BUSY; every other HSEQ is answered SEQ_GAP with HSEQ_NEXT and counted. 14 R390: a packet
that arrives while the SP executes another command, others wait, or the SP is held in reset or about to restart takes its place at
the end of the queue and its buffer in the Crucible, and nothing else changes; with 16 places taken, on the edge one of 16 is
left, or while the SP restarts, it is answered BUSY and counted. -/
def Obligations.SequenceAndQueue : Prop :=
  (∀ (h : Hdr) (op : Nat) (params : Bytes) (body : State → Answer) (s : State), h.link ≠ .forwarded → seqFree h.link op = false →
    h.version = 1 → h.rsvd = 0 →
    let ix := sessionIx h s
    let s1 := heardFrom h ix (expire ix s)
    opensTo h ix op (expire ix s) = true → h.hseq ≠ hseqNext s1 ix →
    (∀ p, stored s1 ix h.hseq = some p → ∃ t, handle h op params true body s = t ∧
      (let q := { p with replay := true, link := h.link, ip := h.srcIp, port := h.srcPort }
       t.host.tx.head? = some { q with via := nextHop q s1 }) ∧
      { t with host := s1.host, regs := s1.regs, free := s1.free, inst := s1.inst, chans := s1.chans } = s1) ∧
    (stored s1 ix h.hseq = none → (∀ f ∈ s1.host.fwd, awaits h.hseq ix f = false) →
      handle h op params true body s = answer h op Status.seqGap (be 4 (hseqNext s1 ix).toNat) (countReg s1 P.sysSeqGaps)) ∧
    (∀ f, stored s1 ix h.hseq = none → f ∈ s1.host.fwd → awaits h.hseq ix f = true →
      handle h op params true body s = answer h op Status.busy [] (countReg s1 P.sysBusy))) ∧
  (∀ (h : Hdr) (op : Nat) (params : Bytes) (c : Instr) (body : State → Answer) (s : State), s.host.fromQueue = false →
    answers h (advance h.t s) = true →
    let s1 := if h.link = .host then settle 83 ((advance h.t s).modHost fun x => { x with linkUp := true }) else advance h.t s
    ((s.clk.sp = .restarting ∨ queueFull s1 = true) →
      serve h op params c body s = answer h op Status.busy [] (countReg s1 P.sysBusy)) ∧
    (s.clk.sp ≠ .restarting → queueFull s1 = false → mustWait s = true →
      serve h op params c body s = enqueue h op params c s1 ∧
      (let t := enqueue h op params c s1
       t.host = { s1.host with queue := s.host.queue ++ [c] } ∧
       { t with host := s1.host, inst := s1.inst, cru := { t.cru with
          mem := s1.cru.mem, poison := s1.cru.poison, errs := s1.cru.errs, used := s1.cru.used, credits := s1.cru.credits } } = s1 ∧
       (Memory.wf s1.cru.mem = true → ∀ a, (a < cmdBuffer h ∨ cmdBuffer h + 2048 ≤ a) →
          Memory.read t.cru.mem a = Memory.read s1.cru.mem a))))

/-- 14 R388, R391, R392, R397, Table 14.6: HELLO opens the session and sets HSEQ_NEXT to its own HSEQ plus one with an empty
replay window; RESYNC rebinds it and changes neither; BYE ends it; PING echoes its data. 14 R389, R394, R395, Table 14.6:
REPLAY_REPLY resends a stored reply; REPLAY_EVENTS sends the requested events held and answers their number, or CHECK_FAIL with
the ESEQ of an entry of the log that reads poisoned (04 Table 4.4); EVT_ACK does nothing beyond what its admission has done by its
DSEQ; EVT_MUTE stops or resumes the sending; EVT_LOG_INFO and EVT_MIRROR_READ read without changing anything. -/
def Obligations.SessionAndEventCommands : Prop :=
  (∀ (h : Hdr) (ix : Nat) (s s1 : State),
    let jx := sessionIx h s1
    let here : Session := { ip := h.srcIp, port := h.srcPort, lastAt := s1.now }
    (∀ (flags : Byte) (tag : Bytes), admitted h 0x0001 s = some (ix, s1) → flags.toNat ≤ 1 →
      ∃ t, exec (.hello h flags 0 tag) s = .next t ∧ sessOf t jx = some here ∧ hseqNext t jx = h.hseq + 1 ∧
        windowOf t jx = [] ∧ t.now = s1.now ∧ (flags = 0 → t.regs = s1.regs)) ∧
    (admitted h 0x0002 s = some (ix, s1) →
      ∃ t, exec (.resync h) s = .next t ∧ sessOf t jx = some here ∧ hseqNext t jx = hseqNext s1 jx ∧
        windowOf t jx = windowOf s1 jx ∧ t.regs = s1.regs) ∧
    (admitted h 0x0005 s = some (ix, s1) →
      ∃ t, exec (.bye h) s = .next t ∧ sessOf t jx = none ∧ t.regs = s1.regs) ∧
    (∀ data : Bytes, admitted h 0x0006 s = some (ix, s1) → data.length ≤ 64 →
      exec (.ping h data) s = .next (reply h ix 0x0006 Status.ok data s1))) ∧
  (∀ (h : Hdr) (ix : Nat) (s s1 : State),
    (∀ (q : Word) (p : OutPkt), admitted h 0x0003 s = some (ix, s1) → stored s1 (sessionIx h s1) q = some p →
      exec (.replayReply h q) s = .next (resend h p s1)) ∧
    (∀ (first : Word) (count : Nat) (e : Bytes) (r : List Bytes), admitted h 0x0004 s = some (ix, s1) →
      h.link = .host → 1 ≤ count → count ≤ 64 →
      let es := eseqRange count first
      let inLog := es.filter fun q => (logEntry s1 q).isSome
      let s2 := touchAll 0x60 6 (inLog.map fun q => (logAddr q, 64)) s1
      (∀ q, inLog.find? (fun q => tilePoisoned s2 (logAddr q)) = some q →
        exec (.replayEvents h first count) s = .next (reply h ix 0x0004 Status.checkFail (be 4 q.toNat) s2)) ∧
      (inLog.find? (fun q => tilePoisoned s2 (logAddr q)) = none → es.filterMap (eventEntry s2) = e :: r →
        exec (.replayEvents h first count) s = .next (reply h ix 0x0004 Status.ok (be 2 (e :: r).length)
          ((e :: r).foldl (fun s e => sendEvent true e s) s2)))) ∧
    (admitted h 0x0A01 s = some (ix, s1) →
      exec (.evtAck h) s = .next (reply h ix 0x0A01 Status.ok [] s1)) ∧
    (admitted h 0x0A02 s = some (ix, s1) →
      exec (.evtMute h 1) s = .next (reply h ix 0x0A02 Status.ok [] (pumpHeld (s1.modHost fun x => { x with muted := true }))) ∧
      exec (.evtMute h 0) s = .next (reply h ix 0x0A02 Status.ok [] (pumpHeld (s1.modHost fun x => { x with muted := false })))) ∧
    (admitted h 0x0A03 s = some (ix, s1) →
      exec (.evtLogInfo h) s = .next (reply h ix 0x0A03 Status.ok (be 4 s1.host.eseq.toNat ++ be 4 (logOldest s1).toNat ++
        be 2 s1.mram.mirror.length ++ [0, 0] ++ be 4 s1.host.lost) s1)) ∧
    (∀ index count : Nat, admitted h 0x0A04 s = some (ix, s1) → index ≤ 1023 → 1 ≤ count → count ≤ 16 →
      index < s1.mram.mirror.length →
      exec (.evtMirrorRead h index count) s = .next (reply h ix 0x0A04 Status.ok
        (((s1.mram.mirror.drop index).take count).flatMap entryBeFull) s1)))

/-- 14 R383, R386, R388, R394, 13 R379: what happens at the interface by itself: a session times out with EV-080 and its bulk
staging gone; an unacknowledged event is sent again; a forwarded command without a reply is answered WORKER_TIMEOUT; ARP and
ICMP requests for the module's address are answered; a malformed packet is counted and dropped; an opcode of no table gets
BAD_OPCODE. -/
def Obligations.InterfaceEvents : Prop :=
  ∀ (h : Hdr) (at' : Time) (ix : Nat) (s s1 : State),
    (∀ (x : Session), s.host.sess = some x → x.lastAt + ms 100 * reg s P.sysSessionTimeout ≤ (advance at' s).now →
      ∃ t, exec (.sessionTimeout at' 0) s = .next t ∧ t.host.sess = none ∧ t.host.staging = s.host.staging.filter (0x0E00 ≤ ·.1) ∧
        t.host.eseq ≠ s.host.eseq ∧ t.regs = s.regs ∧ t.cams = s.cams ∧ t.pipes = s.pipes ∧ t.units = s.units) ∧
    (∀ (e : Word) (u : Unacked) (ent : Bytes), s.host.unacked.find? (fun u => u.eseq = e) = some u →
      eventEntry s e = some ent → u.resends < 3 → u.sentAt + ms (reg s P.sysEvtResend) ≤ (advance at' s).now →
      canSend s = true → isWorker s = false →
      (∀ w, tget 0 s.cru.errs w ≠ 0 → 8 * w + 8 ≤ logAddr e ∨ logAddr e + 64 ≤ 8 * w) →
      ∃ t p, exec (.eventResend at' e) s = .next t ∧ t.host.tx = p :: s.host.tx ∧ p.kind = .event ∧ p.replay = true ∧
        p.params = entryBe ent ∧ p.dseq = entryEseq ent ∧ { t with
          now := s.now, inst := s.inst, host := s.host, regs := s.regs, free := s.free, chans := s.chans,
          cru := { t.cru with used := s.cru.used, credits := s.cru.credits } } = s) ∧
    (∀ (q : Word) (f : Fwd), s.host.fwd.find? (fun f => f.h.hseq = q && f.sent && decide (f.left = 0)) = some f →
      let s0 := leaveQueue (queuePlaces s) (advance at' s)
      let s1 := { s0 with host := { s.host with fwd := s.host.fwd.erase f } }
      let s' := { s1 with inst := { instant s1 with timedOut := f :: (instant s1).timedOut } }
      exec (.workerTimeout at' q) s = .next (reply f.h f.ix f.opcode Status.workerTimeout [] s')) ∧
    (∀ (ip src : BitVec 32) (data : Bytes), unitUp s = true → ip.toNat = regB s P.sysIpAddr →
      (∃ t, exec (.arpRequest at' ip src) s = .next t ∧
        t.host.tx = { kind := .arp, ip := src, via := src, params := be 6 s.upd.mac.toNat } :: s.host.tx) ∧
      (∃ t, exec (.icmpEchoRequest at' ip src data) s = .next t ∧
        t.host.tx = { kind := .icmp, ip := src, params := data, via := nextHop { kind := .icmp, ip := src, params := data } s } ::
          s.host.tx)) ∧
    (∀ (n : Nat) (p : Bytes), unitUp s = true → malformed n p = true →
      exec (.hostPacketDrop at' .host n p) s = .next (countReg (advance at' s) P.sysHostDrops)) ∧
    (∀ (op : BitVec 16) (data : Bytes), admitted h op.toNat s = some (ix, s1) → definedOps.contains op.toNat = false →
      exec (.undefinedOpcodePacket h op data) s = .next (reply h ix op.toNat Status.badOpcode [] s1))

/-! ### The fault collector (chapter 15) -/

/-- 14 Table 14.10, 15 R422 to R426: FAULT_SUMMARY, FAULT_RECORD and FAULT_LOG_READ read; FAULT_CLEAR clears the records of an
inactive source, with EV-002 where it had any, and keeps those of an active one, and of one with an event on this very edge (R427), which
it reports. -/
def Obligations.FaultCommands : Prop :=
  ∀ (h : Hdr) (ix : Nat) (s s1 : State),
    (admitted h 0x0801 s = some (ix, s1) →
      exec (.faultSummary h) s = .next (reply h ix 0x0801 Status.ok
        (be 12 (packBits ((List.range 96).map fun i => sourceActive (i + 1) s1)) ++
          be 12 (packBits ((List.range 96).map fun i => (s1.src (i + 1)).first.isSome)) ++ zeros 8) s1)) ∧
    (∀ (n : Nat) (f l : FaultRec), admitted h 0x0802 s = some (ix, s1) → 1 ≤ n → n ≤ 96 → (s1.src n).first = some f →
      (s1.src n).latest = some l →
      exec (.faultRecord h n) s = .next (reply h ix 0x0802 Status.ok
        (recordBytes be n (sourceActive n s1) f ++ recordBytes be n (sourceActive n s1) l) s1)) ∧
    (∀ n : Nat, admitted h 0x0803 s = some (ix, s1) → 1 ≤ n → n ≤ 96 →
      (keepsRecord n s1 = true → s1.flt.quench = false →
        exec (.faultClear h n) s = .next (reply h ix 0x0803 Status.ok ([1] ++ be 2 n) s1)) ∧
      (sourceActive n s1 = false → (∀ e ∈ (instant s1).fltEvents, e.src ≠ n) → s1.flt.quench = false →
        ∃ u, exec (.faultClear h n) s = .next (reply h ix 0x0803 Status.ok [0]
            (if (s1.src n).first.isSome then raiseEvent 2 1 [0x0803] u n else u)) ∧
          u.src n = { s1.src n with first := none, latest := none, count := 0, times := [], escalated := false } ∧
          (∀ k, k ≠ n → u.src k = s1.src k) ∧ { u with inst := s1.inst, flt := { u.flt with srcs := s1.flt.srcs } } = s1)) ∧
    (∀ index count : Nat, admitted h 0x0804 s = some (ix, s1) → index < s1.mram.log.length → index ≤ 511 → 1 ≤ count →
      count ≤ 16 →
      exec (.faultLogRead h index count) s = .next (reply h ix 0x0804 Status.ok
        (((s1.mram.log.drop index).take count).flatMap (swapFields logFields)) s1))

/-- 15 R408, R413, R417 to R422: a fault event at the collector is counted, numbered, recorded and reported: the record carries
the class, the DETAIL and location the source may give (01 R29, R30, Table 15.5), the tick and the time; the first record stays
until a clear; class quench asserts Quench at once; a source in class 0 leaves no record. The edge has had no other event, and the
source's pair had returned to OK. 15 R420, R421, 15 FS-083: the collector's self-test, with no real event on its edge, is counted
with its result, and a failure makes source 84 active; the loss of the host link makes source 83 active. -/
def Obligations.FaultCollector : Prop :=
  (∀ (at' : Time) (n : Fin 97) (det : Detection) (p : Bool) (s : State), 1 ≤ n.val → (s.src n.val).held = none →
    (s.src n.val).active = false → (∀ t, (s.src n.val).badAt = some t → t + 3 ≤ (advance at' s).now) →
    s.inst.at' ≠ (advance at' s).now →
    let s0 := advance at' s
    let loc := sourceLoc n.val det.loc s0
    let cls := (eventClass n.val loc s0).1
    (cls ≠ 0 → s.clk.sp = .running →
      ∃ t r, exec (.faultEvent at' n 2 det p) s = .next t ∧ (t.src n.val).latest = some r ∧ r.cls = cls ∧
        r.detail = w32 (sourceDetail n.val det.detail) ∧ r.loc = loc ∧ r.tick = s.tick.count ∧ r.rail = false ∧ r.time = timeUs s0 ∧
        (t.src n.val).first = some ((s.src n.val).first.getD r) ∧ t.host.eseq ≠ s.host.eseq ∧
        (cls = 4 → t.flt.quench = true) ∧ (cls ≠ 4 → t.flt.quench = s.flt.quench) ∧
        t.cams = s.cams ∧ t.pipes = s.pipes ∧ t.views = s.views ∧ t.units = s.units ∧ t.cores = s.cores ∧ t.fio = s.fio) ∧
    (cls = 0 → canonical {} s.flt.srcs = true → ∃ t, exec (.faultEvent at' n 2 det p) s = .next t ∧
      (t.src n.val).latest = (s.src n.val).latest ∧ (t.src n.val).first = (s.src n.val).first ∧ t.host = s.host ∧
        t.mram = s.mram ∧ t.regs = s.regs)) ∧
  (∀ (at' : Time) (s : State),
    let counted (b : Nat) : State :=
      setField (setField s P.fltSelftest 15 0 (fld (reg s P.fltSelftest) 15 0 + 1)) P.fltSelftest 16 16 b
    (collectorRuns s = true → s.inst.at' ≠ (advance at' s).now →
      ∃ t, exec (.collectorSelftest at' true) s = .next t ∧ t.flt.selfOk = true ∧ t.regs = (counted 1).regs ∧
      (s.flt.mode ≠ .start → t.flt.quench = s.flt.quench) ∧ t.cams = s.cams ∧ t.units = s.units ∧ t.pipes = s.pipes) ∧
    (collectorRuns s = true → s.inst.at' ≠ (advance at' s).now →
      ∃ t, exec (.collectorSelftest at' false) s = .next t ∧ t.flt.selfOk = false ∧ t.regs = (counted 0).regs ∧
      sourceActive 84 t = true ∧ t.flt.quench = s.flt.quench ∧ t.host = s.host) ∧
    (∃ t, exec (.hostLinkDown at') s = .next t ∧ t.host = { s.host with linkUp := false } ∧ sourceActive 83 t = true ∧
      { t with now := s.now, host := s.host, flt := s.flt } = s))

/-! ### Parameters (chapter 14 R402, R404; chapter 00) -/

/-- 14 R402, 00 R9, R10: PARAM_READ answers each parameter's type and value; an RC parameter is cleared by the read, any other one
stays; an RC parameter updated on the same edge reads as before the update and keeps what the update adds; a parameter that no
table defines is answered NOT_PRESENT, whatever the others (no table holds one that may only be written); PARAM_INFO answers type,
access, reset value and range and changes nothing. 14 R402, 17 R447: PARAM_WRITE applies all its items or none: where every item
passes its checks the values are applied in order and stored in the configuration record (the edge of the reply keeps the
registers as a tick edge on it finds them, the model's own, log 162); where one fails, its index and status are answered and
nothing is applied. -/
def Obligations.ParamAccess : Prop :=
  (∀ (h : Hdr) (ix id : Nat) (s s1 : State),
    (admitted h 0x0101 s = some (ix, s1) →
      (∀ ids : List Nat, 1 ≤ ids.length → ids.length ≤ 64 →
        exec (.paramRead h ids.length ids) s =
          .next (reply h ix 0x0101 Status.ok (be 2 ids.length ++ (readAll ids s1).1) (readAll ids s1).2)) ∧
      (∀ r, paramRow id = some r → r.acc ≠ 2 → r.acc ≠ 3 → exec (.paramRead h 1 [id]) s =
        .next (reply h ix 0x0101 Status.ok (be 2 1 ++ be 2 id ++ [0, b8 r.typ] ++ be 4 (paramValue id s1)) s1)) ∧
      (∀ r, paramRow id = some r → r.acc = 3 →
        (tget none (instant s1).counted id = none → id ≠ P.sysTjMax → exec (.paramRead h 1 [id]) s =
          .next (reply h ix 0x0101 Status.ok (be 2 1 ++ be 2 id ++ [0, b8 r.typ] ++ be 4 (paramValue id s1)) (setReg s1 id 0))) ∧
        (∀ was more, tget none (instant s1).counted id = some (was, more) → ∃ t, exec (.paramRead h 1 [id]) s =
          .next (reply h ix 0x0101 Status.ok (be 2 1 ++ be 2 id ++ [0, b8 r.typ] ++ be 4 was) t) ∧
          t.regs = (setReg s1 id more).regs ∧ { t with regs := s1.regs, inst := s1.inst } = s1)) ∧
      (paramRow id = none → ∃ x, exec (.paramRead h 1 [id]) s =
        .next (reply h ix 0x0101 Status.ok (be 2 1 ++ be 2 id ++ [b8 Status.notPresent] ++ x) { s1 with free := s1.free + 1 }) ∧
          x.length = 5)) ∧
    (admitted h 0x0103 s = some (ix, s1) → ∀ r, paramRow id = some r → factIds.contains id = false →
      exec (.paramInfo h id) s = .next (reply h ix 0x0103 Status.ok
        ([b8 r.typ, b8 r.acc, 0, 0] ++ be 4 r.reset ++ be 4 (wrapN 32 r.lo) ++ be 4 (wrapN 32 (paramMax id r s1))) s1))) ∧
  (∀ (h : Hdr) (ix : Nat) (items : List ParamItem) (s s1 : State), admitted { h with lenOk := true } 0x0102 s = some (ix, s1) →
    h.lenOk = true → 1 ≤ items.length → items.length ≤ 32 →
    (∀ s2, writeItems 0 items s1 = .ok s2 →
      exec (.paramWrite h items.length 0 items) s = .next (reply { h with lenOk := true } ix 0x0102 Status.ok [0xFF, 0xFF, 0, 0]
        (pumpHeld (writeCfg (items.foldl (fun t i => tset none t i.id (if i.value = paramReset i.id then none else some i.value))
          s2.mram.cfg) s2.mram.cfgPool { s2 with inst := { instant s2 with regs := some (edgeRegs s1) } })))) ∧
    (∀ n st, writeItems 0 items s1 = .error (n, st) → st ≠ Status.held →
      exec (.paramWrite h items.length 0 items) s =
        .next (reply { h with lenOk := true } ix 0x0102 st (be 2 n ++ [b8 st, 0]) s1)))

/-- 03 R61, 08 R206 to R208, 02 R35, R525, 06 R158, 07 R183: the writes that start and stop something. A camera that is LINKED
starts, and one that triggers stops at the next tick edge, or at the tick edge of this very time, whose trigger is then not sent
(03 R83); a pipe goes into TRAINING, and one that is not DISABLED stops at the
next tick edge; the tick rate and source, the witness seed and a host angle are written and take effect later: the tick generator
stays as it is, and the angle's age is zero; on an edge that is no tick edge and no commit point the tracks and the views stay too
(06 R158). No error waits in the event log, from which held-back events are then read (04 R93). -/
def Obligations.StartStopWrites : Prop :=
  ∀ (h : Hdr) (ix : Nat) (s s1 : State), admitted { h with lenOk := true } 0x0102 s = some (ix, s1) → h.lenOk = true →
    (∀ w, tget 0 s1.cru.errs w ≠ 0 → 8 * w + 8 ≤ 0x6C100000 ∨ 0x6C140000 ≤ 8 * w) →
    let set (id : Nat) (v : Word) : State := setReg s1 id v.toNat
    (∀ (c : Fin 16) (s2 : State), (s1.cam c).st = .linked → rateOk c (set (P.camEnable c) 1) = true →
      carriesAt c (s1.cam c).gear (setRate s1) (set (P.camEnable c) 1) = true → placeCamera c (set (P.camEnable c) 1) = some s2 →
      ∃ t, exec (.camEnableStart h c) s = .next t ∧ (t.cam c).st = .started ∧ (t.cam c).triggering = false ∧
        t.regs = s2.regs ∧ t.tick = s1.tick ∧ t.pipes = s1.pipes ∧ t.units = s1.units ∧ t.views = s1.views) ∧
    (∀ c : Fin 16, camOn c s1 = true →
      ∃ t, exec (.camEnableStop h c) s = .next t ∧ t.regs = (set (P.camEnable c) 0).regs ∧ t.tick = s1.tick ∧ t.pipes = s1.pipes ∧
        ((s1.tick.lastEdge ≠ s1.now ∨ s1.tick.loose = true) →
          (t.cam c).stopping = true ∧ (t.cam c).st = (s1.cam c).st ∧ (t.cam c).window = (s1.cam c).window) ∧
        (s1.tick.lastEdge = s1.now → s1.tick.loose = false →
          (t.cam c).stopping = false ∧ (t.cam c).triggering = false ∧
            (t.cam c).st = (if (s1.cam c).gear = 0 then .training else .linked) ∧
            ∀ w, (t.cam c).window = some w → (s1.cam c).window = some w ∧ w.trigAt ≠ s1.now)) ∧
    (∀ p : Fin 8, (s1.pipe p).st = .disabled → canonical {} s1.pipes = true → pipeOut p s1 = false →
      soStartOk p (set (P.soEnable p) 1) = true →
      ∃ t, exec (.soEnableStart h p) s = .next t ∧ (t.pipe p).st = .training ∧ t.regs = (set (P.soEnable p) 1).regs ∧
        t.cams = s1.cams ∧ t.tick = s1.tick) ∧
    (∀ p : Fin 8, (s1.pipe p).st ≠ .disabled →
      ∃ t, exec (.soEnableStop h p) s = .next t ∧ (t.pipe p).stopping = true ∧ (t.pipe p).st = (s1.pipe p).st ∧
        t.regs = (set (P.soEnable p) 0).regs ∧ t.cams = s1.cams) ∧
    (∀ v : Word, 30000 ≤ v.toNat → v.toNat ≤ 120000 → creditsOk v.toNat (set P.tickRate v) = true →
      pipesOkAt v.toNat (set P.tickRate v) = true → camBusy s1 = false →
      ∃ t, exec (.tickRateWrite h v) s = .next t ∧ t.regs = (set P.tickRate v).regs ∧ t.tick = s1.tick ∧ t.cams = s1.cams) ∧
    (∀ v : Word, v.toNat ≤ 2 → camBusy s1 = false →
      ∃ t, exec (.tickSourceWrite h v) s = .next t ∧ t.regs = (set P.tickSource v).regs ∧ t.tick = s1.tick ∧ t.cams = s1.cams) ∧
    (∀ (n : Fin 4) (v : Word), -18000 ≤ v.toInt → v.toInt ≤ 18000 →
      ∃ t, exec (.mirHostAngleWrite h n v) s = .next t ∧
        ((instant s1).tracks = none → (instant s1).commits = [] → t.regs = (set (P.mirHostAngle n) v).regs ∧
          t.hostAge = tset 256 s1.hostAge n 0 ∧ t.tracks = s1.tracks ∧ t.views = s1.views)) ∧
    (∀ v : Word, ∃ t, exec (.witSeedWrite h v) s = .next t ∧ t.regs = (set P.witSeed v).regs ∧ t.views = s1.views ∧
      t.lanes = s1.lanes ∧ t.pipes = s1.pipes)

/-- 14 R399: the parts of a bulk object: a part of OFFSET 0 starts a staging, a part that goes on where the staging of the same
INDEX and TOTAL stands extends it, and the part that completes it hands the whole object on and empties the staging; any other
part is answered BAD_PARAM and discards the staging. Nothing but the staging changes. -/
def Obligations.BulkStaging : Prop :=
  ∀ (op : Nat) (p : BulkPart) (s : State), p.rsvd = 0 → 1 ≤ p.data.length → p.data.length ≤ 1388 →
    p.offset + p.data.length ≤ p.total →
    let put (x : Option Staging) : State := { s with host := { s.host with staging := tset none s.host.staging op x } }
    (p.offset = 0 → p.data.length < p.total →
      bulkStep op p s = .more p.data.length (put (some { index := p.index, total := p.total, data := p.data }))) ∧
    (p.offset = 0 → p.data.length = p.total → bulkStep op p s = .whole p.index p.data (put none)) ∧
    (∀ d, p.offset ≠ 0 → tget none s.host.staging op = some { index := p.index, total := p.total, data := d } →
      d.length = p.offset →
      (p.offset + p.data.length < p.total → bulkStep op p s =
        .more (p.offset + p.data.length) (put (some { index := p.index, total := p.total, data := d ++ p.data }))) ∧
      (p.offset + p.data.length = p.total → bulkStep op p s = .whole p.index (d ++ p.data) (put none))) ∧
    (∀ g, p.offset ≠ 0 → tget none s.host.staging op = some g →
      (g.index ≠ p.index ∨ g.total ≠ p.total ∨ g.data.length ≠ p.offset) → bulkStep op p s = .bad (put none)) ∧
    (p.offset ≠ 0 → tget none s.host.staging op = none → bulkStep op p s = .bad (put none))

/-! ### Objects of the views and pipes (chapters 04, 05, 07, 08) -/

/-- 04 R90, 05 R125, R136, 08 R220, R222: the bulk loads of the video path. The part that completes an object checks it; a pool
table waits for the next tick edge and enters the configuration record; a mesh, an overlay list and an image are stored and take
their runs; an icon is stored and the pipes that select it reload it. 05 R114, R119, R149, R151, 06 R171, 07 R200, R202, 08 R216,
14 Table 14.7: the other commands of views and pipes: an accepted context record is stored and staged for the next tick edge and
the check value is computed anew; tables of a pipe wait for the next tick edge; deletions drop the object and its run; the
read-outs of records meet the errors that lie there, and change nothing else; a poisoned record is answered CHECK_FAIL (DEDUCED,
log 33). -/
def Obligations.VideoObjectCommands : Prop :=
  (∀ (h : Hdr) (part : BulkPart) (ix i : Nat) (bs : Bytes) (s s1 s2 : State),
    (admitted h 0x0110 s = some (ix, s1) → bulkStep 0x0110 part s1 = .whole 0 bs s2 → 16 ≤ bs.length →
      crcEmbeddedOk bs 4 = true → poolFieldsOk bs = true → (placeAll bs s2 (placedObjects s2) (cameraRuns s2)).isSome = true →
      camBusy s2 = false → (∀ v ∈ viewIxs s2, viewOn s2 v = false) →
      exec (.poolLoad h part) s = .next (reply h ix 0x0110 Status.ok []
        (writeCfg s2.mram.cfg bs ((noteLoad 64 s2.cru.poolNext s2).modCru fun c => { c with poolNext := some bs })))) ∧
    (∀ s3, admitted h 0x0204 s = some (ix, s1) → bulkStep 0x0204 part s1 = .whole i bs s2 → i ≤ 511 → 256 ≤ bs.length →
      crcEmbeddedOk bs 0xFC = true → meshFieldsOk bs = true → ctxNames s2 cxMesh i = false →
      viewStoreUsed s2 - storedLength kMesh i s2 + bs.length ≤ 16777216 → placeObject kMesh i (storeObj kMesh i bs s2) = some s3 →
      exec (.meshLoad h part) s = .next (reply h ix 0x0204 Status.ok [] s3)) ∧
    (∀ s3, admitted h 0x0206 s = some (ix, s1) → bulkStep 0x0206 part s1 = .whole i bs s2 → i ≤ 255 → 16 ≤ bs.length →
      crcEmbeddedOk bs 0x0C = true → ovlFieldsOk bs = true → ctxNames s2 cxOvl i = false →
      viewStoreUsed s2 - storedLength kOverlay i s2 + bs.length ≤ 16777216 → placeObject kOverlay i (storeObj kOverlay i bs s2) = some s3 →
      exec (.ovlLoad h part) s = .next (reply h ix 0x0206 Status.ok [] s3)) ∧
    (∀ s3, admitted h 0x0403 s = some (ix, s1) → bulkStep 0x0403 part s1 = .whole i bs s2 → i ≤ 255 → 256 ≤ bs.length →
      crcEmbeddedOk bs 0x0C = true → u8 bs 0 = i → u8 bs 1 = 0 → 1 ≤ u16 bs 2 → u16 bs 2 ≤ 2560 → 1 ≤ u16 bs 4 →
      u16 bs 4 ≤ 1600 → u16 bs 6 % 256 = 0 → 4 * u16 bs 2 ≤ u16 bs 6 → u32 bs 8 = 256 + u16 bs 4 * u16 bs 6 →
      bs.length = u32 bs 8 → allZero (sub bs 0x10 240) = true → selNamesImage s2 i = false →
      layerStoreUsed s2 - storedLength kLayer i s2 + bs.length ≤ 8388608 → placeObject kLayer i (storeObj kLayer i bs s2) = some s3 →
      exec (.layerLoad h part) s = .next (reply h ix 0x0403 Status.ok [] s3)) ∧
    (admitted h 0x0405 s = some (ix, s1) → bulkStep 0x0405 part s1 = .whole i bs s2 → 1 ≤ i → i ≤ 7 → bs.length = 16416 →
      crcEmbeddedOk bs 4 = true → u8 bs 0 = i → allZero (sub bs 1 3) = true → allZero (sub bs 8 8) = true →
      allZero (sub bs 0x10 4) = true → u8 bs 0x17 = 0 → u8 bs 0x1B = 0 → u8 bs 0x1F = 0 →
      (∀ p < 8, reg s2 (P.soFbIcon p) ≠ i) →
      exec (.iconLoad h part) s = .next (reply h ix 0x0405 Status.ok [] (storeObj kIcon i bs s2)))) ∧
  (∀ (h : Hdr) (ix i n : Nat) (rec : Bytes) (s s1 : State),
    (admitted h 0x0201 s = some (ix, s1) → i ≤ 255 → rec.length = 128 → crcTrailerOk rec 0x7C = true →
      cxFieldsOk s1 i rec = true → cxStateOk s1 i rec = true →
      exec (.viewWrite h i 0 rec) s = .next (reply h ix 0x0201 Status.ok []
        (recheck (storeObj kContext i rec (s1.modView i (stageCtx s1.now rec)))))) ∧
    (admitted h 0x0202 s = some (ix, s1) → i ≤ 255 →
      exec (.viewRead h i 0) s = .next (reply h ix 0x0202 Status.ok (pad 128 (s1.view i).ctx) s1) ∧
      ((s1.view i).staged = some rec → exec (.viewRead h i 1) s = .next (reply h ix 0x0202 Status.ok rec s1))) ∧
    (admitted h 0x0203 s = some (ix, s1) → 1 ≤ n → i + n ≤ 256 →
      exec (.viewStatus h i n) s = .next (reply h ix 0x0203 Status.ok
        (be 2 n ++ (List.range n).flatMap fun k => be 4 (viewWord (s1.view (i + k)))) s1)) ∧
    (admitted h 0x0205 s = some (ix, s1) → i ≤ 511 → (mesh s1 i).isEmpty = false → ctxNames s1 cxMesh i = false →
      exec (.meshDelete h i) s = .next (reply h ix 0x0205 Status.ok [] (dropRun kMesh i (storeObj kMesh i [] s1)))) ∧
    (admitted h 0x0207 s = some (ix, s1) → i ≤ 255 → (ovlList s1 i).isEmpty = false → ctxNames s1 cxOvl i = false →
      exec (.ovlDelete h i) s = .next (reply h ix 0x0207 Status.ok [] (dropRun kOverlay i (storeObj kOverlay i [] s1)))) ∧
    (admitted h 0x0404 s = some (ix, s1) → i ≤ 255 → (obj s1 kLayer i).isEmpty = false → selNamesImage s1 i = false →
      exec (.layerDelete h i) s = .next (reply h ix 0x0404 Status.ok [] (dropRun kLayer i (storeObj kLayer i [] s1)))) ∧
    (admitted h 0x0208 s = some (ix, s1) → 48 ≤ rec.length → crcEmbeddedOk rec 4 = true → selFieldsOk s1 rec = true →
      placesOk s1 (u8 rec 0) rec (latestLayout s1 (u8 rec 0)) 256 [] = true →
      fetchOk s1 (u8 rec 0) rec (latestLayout s1 (u8 rec 0)) = true →
      exec (.selLoad h rec) s = .next (reply h ix 0x0208 Status.ok []
        (recheck (storeObj kSelect (u8 rec 0) rec ((noteLoad (4 * u8 rec 0) (s1.pipe (u8 rec 0)).selNext s1).modPipe (u8 rec 0) fun x => { x with selNext := some rec }))))) ∧
    (admitted h 0x0401 s = some (ix, s1) → rec.length = 528 → crcEmbeddedOk rec 4 = true → u8 rec 0 ≤ 7 →
      allZero (sub rec 1 3) = true → allZero (sub rec 8 8) = true →
      placesOk s1 (u8 rec 0) (latestSel s1 (u8 rec 0)) rec 256 [] = true → fetchOk s1 (u8 rec 0) (latestSel s1 (u8 rec 0)) rec = true →
      exec (.layoutLoad h rec) s = .next (reply h ix 0x0401 Status.ok []
        (storeObj kLayout (u8 rec 0) rec ((noteLoad (4 * u8 rec 0 + 1) (s1.pipe (u8 rec 0)).layoutNext s1).modPipe (u8 rec 0) fun x => { x with layoutNext := some rec })))) ∧
    (admitted h 0x0402 s = some (ix, s1) → crcEmbeddedOk rec 4 = true → u8 rec 0 ≤ 7 → u8 rec 1 ≤ 16 →
      rec.length = 16 + 32 * u8 rec 1 → u16 rec 2 = 0 → allZero (sub rec 8 8) = true →
      (∀ r < u8 rec 1, regionOk (u8 rec 0) rec r s1 = true) →
      exec (.crcregLoad h rec) s = .next (reply h ix 0x0402 Status.ok []
        (storeObj kRegion (u8 rec 0) rec ((noteLoad (4 * u8 rec 0 + 2) (s1.pipe (u8 rec 0)).regionNext s1).modPipe (u8 rec 0) fun x => { x with regionNext := some rec })))) ∧
    (admitted h 0x0209 s = some (ix, s1) → i ≤ 255 → n ≤ 1 →
      let a := 0x6C180000 + 1024 * i + 512 * n
      let s2 := touch 0x60 6 a 512 s1
      exec (.commitRead h i n) s = .next (if runPoisoned s2 a 512 then reply h ix 0x0209 Status.checkFail [] s2
        else reply h ix 0x0209 Status.ok (Memory.bytes s2.cru.mem a 512) s2)) ∧
    (∀ l ≤ 2, admitted h 0x020A s = some (ix, s1) → i ≤ 255 → n ≤ 1 →
      let a := 0x6C1C0000 + 8192 * i + 4096 * n + 1024 * l
      let s2 := touch 0x60 6 a 1024 s1
      exec (.witnessRead h i n l) s = .next (if runPoisoned s2 a 1024 then reply h ix 0x020A Status.checkFail [] s2
        else reply h ix 0x020A Status.ok (Memory.bytes s2.cru.mem a 1024) s2)))

/-! ### Cameras (chapter 03) -/

/-- 03 R56, R63, R64, R67, R82, R83: a link that locks takes its gear and its delay, half the round trip: a port in TRAINING
becomes LINKED while CAM_ENABLE is 0 or the camera-start step has not come; with CAM_ENABLE 1 it starts where the gear serves and
a run is free, stays LINKED without a run (the model's choice, log 174), and enters LOST where the gear does not serve; a port in
LOST stays there. A measurement once in 1,024 ticks, clear of the trigger, writes the delay; an odd round trip leaves the half
open. A started port whose link loses lock enters LOST, a LINKED one trains, both counted; a frame that has settled on this very
edge is discarded. 03 R64, R65, R66, R68, R73, R80: a trigger that is due ends the window before it and opens the window of its
tick, with the limits as they are then; its pulse goes out on the GPIO, with the polarity and width of CAM_TRIG, and a control
segment that waits, or would begin on the same edge, begins when the pulse has been sent; the settled buffer becomes held, beside
the one held before. A window ends when the next trigger's time comes and, without a settled frame, counts and clears CAM_FRESH;
CAM_LOSS_TICKS such windows in a row bring a started port to LOST. -/
def Obligations.CameraLinksWindows : Prop :=
  (∀ (at' : Time) (c : Fin 16) (g n : Nat) (s : State),
    let s0 := advance at' s
    let locked : State := s0.modCam c fun p => { p with gear := g, stream := .unknown }
    let measured : State := locked.modCam c fun p => { p with delay := n % 65536, measuredAt := s.tick.count }
    (1 ≤ g → g ≤ 3 → (s.cam c).gear = 0 →
      ((s.cam c).st = .training → (s.st.step < 9 ∨ reg s (P.camEnable c) = 0) →
        ∃ t, exec (.camLinkLock at' c g (2 * n)) s = .next t ∧ (t.cam c).st = .linked ∧ (t.cam c).gear = g ∧
          (t.cam c).delay = n % 65536 ∧ t.regs = s.regs ∧ t.flt = s.flt ∧ t.tick = s.tick ∧ t.views = s.views ∧ t.pipes = s.pipes) ∧
      ((s.cam c).st = .training → 9 ≤ s.st.step → reg s (P.camEnable c) ≠ 0 →
        (∀ s2, gearServes c measured = true → placeCamera c measured = some s2 →
          exec (.camLinkLock at' c g (2 * n)) s = .next (startCamera c s2)) ∧
        (gearServes c measured = true → placeCamera c measured = none →
          exec (.camLinkLock at' c g (2 * n)) s = .next (setCamState c .linked measured)) ∧
        (gearServes c measured = false → ∃ t, exec (.camLinkLock at' c g (2 * n)) s = .next t ∧ (t.cam c).st = .lost ∧
          t.regs = (satField s (P.camCountA c) 31 24 1).regs ∧ sourceActive 2 t = true ∧ t.tick = s.tick ∧ t.views = s.views)) ∧
      ((s.cam c).st = .lost → exec (.camLinkLock at' c g (2 * n)) s = .next measured)) ∧
    ((s.cam c).gear ≠ 0 → 1024 ≤ (s.tick.count - (s.cam c).measuredAt).toNat →
      (sendsTrigger c s = false ∨ triggered c s = true) → pulsing c s0 = false →
      exec (.camDelayMeasure at' c (2 * n)) s =
        .next (s0.modCam c fun p => { p with delay := n % 65536, measuredAt := s.tick.count }) ∧
      (∃ k ≤ 1, exec (.camDelayMeasure at' c (2 * n + 1)) s = .next ({ s0 with free := s0.free + 1 }.modCam c fun p =>
        { p with delay := (n + k) % 65536, measuredAt := s.tick.count }))) ∧
    ((s.cam c).gear ≠ 0 → (s.cam c).frame = none → tget none (instant s0).settles c = none →
      ((s.cam c).st = .started →
        ∃ t, exec (.camLinkLoss at' c) s = .next t ∧ (t.cam c).st = .lost ∧ (t.cam c).gear = 0 ∧ (t.cam c).linkOk = false ∧
          t.regs = (satField s (P.camCountA c) 31 24 1).regs ∧ sourceActive 2 t = true ∧ t.tick = s.tick ∧ t.views = s.views ∧
          t.pipes = s.pipes ∧ t.units = s.units) ∧
      ((s.cam c).st = .linked →
        ∃ t, exec (.camLinkLoss at' c) s = .next t ∧ (t.cam c).st = .training ∧ (t.cam c).gear = 0 ∧
          t.regs = (satField s (P.camCountA c) 31 24 1).regs ∧ t.flt = s.flt ∧ t.tick = s.tick ∧ t.views = s.views)) ∧
    (∀ u, (s.cam c).gear ≠ 0 → tget none (instant s0).settles c = some u → u.port.gear ≠ 0 → u.port.frame.isSome = true →
      ∃ t, exec (.camLinkLoss at' c) s = .next t ∧ (t.cam c).frame = none ∧ (t.cam c).settled = u.port.settled ∧
        (t.cam c).gear = 0 ∧ t.views = s.views ∧ t.pipes = s.pipes ∧ t.tick = s.tick)) ∧
  (∀ (at' : Time) (c : Fin 16) (w : CamWindow) (s : State),
    let s0 := advance at' s
    (sendsTrigger c s = true → triggered c s = false → trigDue c s0 = true →
      let b := closeWindow c s0
      exec (.camTrigger at' c) s = .next (b.modCam c fun p => { p with
        window := some {
          tick := b.tick.count, trigAt := b.now, freeze := reg b (P.camFreeze c), fswin := reg b (P.camFswin c),
          errmax := reg b (P.camErrmax c), phase := reg b (P.camPhase c) }
        lossTicks := reg b (P.camLossTicks c)
        pulse := some {
          at' := b.now, gpio := fld (reg b (P.camTrig c)) 2 0, low := bitAt (reg b (P.camTrig c)) 3,
          widthUs := fld (reg b (P.camTrig c)) 15 8 }
        segment := p.segment.map (yieldSegment b.now (b.now + us (fld (reg b (P.camTrig c)) 15 8)))
        older := if p.settled.isSome then p.held else p.older
        held := if p.settled.isSome then p.settled else p.held
        settled := none })) ∧
    ((s.cam c).window = some w → (s.cam c).frame = none → windowOver w s0 = true →
      let closed : State := s0.modCam c fun p => { p with window := none }
      (w.settled = true → exec (.camWindowEnd at' c) s = .next closed) ∧
      (w.settled = false → exec (.camWindowEnd at' c) s = .next (satField
        (fall [768 + c.val] ((closed.modCam c fun p => { p with missRun := p.missRun + 1 }).modCam c fun p => { p with fresh := false }))
        (P.camCountA c) 7 0 1))) ∧
    ((s.cam c).st = .started → (s.cam c).lossTicks ≤ (s.cam c).missRun →
      ∃ t, exec (.camLost at' c) s = .next t ∧ (t.cam c).st = .lost ∧ (t.cam c).window = (s.cam c).window ∧
        (t.cam c).gear = (s.cam c).gear ∧ t.regs = (satField s (P.camCountA c) 31 24 1).regs ∧ sourceActive 2 t = true ∧
        t.tick = s.tick ∧ t.views = s.views ∧ t.pipes = s.pipes ∧ t.units = s.units))

/-- 03 R68 to R71, R75, R76, R82: a Frame Start within its window begins the frame in the lowest buffer without a role (the
model's choice, log 27) and writes nothing but its first 256 bytes; a further one ends the taking in of rows and is counted, as
are one outside its window and a packet on another channel; a row is written with its padding, a bad one becomes an error row; at
the Frame End every row that has not come is an error row. 03 R64, R72, R76 to R81: a frame that ended in its window with no more
than CAM_ERRMAX error rows settles: its buffer takes the settled role with its GEN, CAM_FRESH says whether its counter advanced
and its header stands as written, a port in LOST starts again, and nothing is written but 64 bytes of its header (and the event
log); one with more error rows, or past its window, or without the Crucible, is discarded. CAM_FREEZE frames in a row without
advance declare the camera frozen, with every view that uses it. -/
def Obligations.CameraFramesSettling : Prop :=
  (∀ (at' : Time) (c : Fin 16) (no : Nat) (w : CamWindow) (fr : CamFrame) (r : RowPacket) (e : Fin 3) (s : State),
    let s0 := advance at' s
    let p := s.cam c
    let lo := w.trigAt + p.delay
    let vc := fld (reg s (P.camVcgear c)) 3 0
    let heard (s' : State) : State := s'.modCam c fun p =>
      { p with stream := .discarded, rowsSeen := [], rowsDue := reg s (P.camHeight c) }
    let new : State := heard (if p.stream = .taken ∨ p.stream = .discarded then spoilLink c s0 else s0)
    let came (s' : State) : State := s'.modCam c fun p => { p with rowsSeen := insertNat r.row p.rowsSeen }
    p.gear ≠ 0 →
    (p.window = some w → e ≠ 2 →
      (windowOver w s0 = false → w.begun = false → lo < s0.now →
        (s0.now - lo) * 100 * s.tick.rate ≤ w.fswin * perRate → writesFrames c s = true →
        ∃ t f, exec (.camFrameStart at' c ⟨vc, e⟩ no) s = .next t ∧ (t.cam c).frame = some f ∧ f.tick = w.tick ∧ f.buf = fillBuf p ∧
          f.frameNo = no % 65536 ∧ f.startAt = s0.now ∧ f.okRows = [] ∧ f.errRows = [] ∧ f.addr = camBufAddr c (fillBuf p) s ∧
          (t.cam c).gen = p.gen + 1 ∧ (t.cam c).window = some { w with begun := true } ∧ (t.cam c).stream = .taken ∧
          (t.cam c).st = p.st ∧ t.tick = s.tick ∧ t.views = s.views ∧ t.pipes = s.pipes ∧
          (Memory.wf s.cru.mem = true → ∀ a, (a < camBufAddr c (fillBuf p) s ∨ camBufAddr c (fillBuf p) s + 256 ≤ a) →
            Memory.read t.cru.mem a = Memory.read s.cru.mem a)) ∧
      (windowOver w s0 = false → w.begun = true → exec (.camFrameStart at' c ⟨vc, e⟩ no) s = .next (countStray c new)) ∧
      ((windowOver w s0 = true ∨
          (w.begun = false ∧ (s0.now ≤ lo ∨ w.fswin * perRate < (s0.now - lo) * 100 * s.tick.rate))) →
        exec (.camFrameStart at' c ⟨vc, e⟩ no) s = .next (satField new (P.camCountA c) 15 8 1))) ∧
    (p.window = none → e ≠ 2 →
      exec (.camFrameStart at' c ⟨vc, e⟩ no) s = .next (if camOn c s then satField new (P.camCountA c) 15 8 1 else new)) ∧
    exec (.camFrameStart at' c ⟨vc, 2⟩ no) s = .next (heard (spoilLink c s0)) ∧
    exec (.camFrameEnd at' c ⟨vc, 2⟩) s = .next (spoilLink c s0) ∧
    (∀ k, k ≠ vc → exec (.camFrameStart at' c ⟨k, e⟩ no) s = .next (satField s0 (P.camCountB c) 31 24 1) ∧
      exec (.camFrameEnd at' c ⟨k, e⟩) s = .next (satField s0 (P.camCountB c) 31 24 1)) ∧
    (r.vc ≠ vc → exec (.camRowReceive at' c r) s = .next (satField s0 (P.camCountB c) 31 24 1)) ∧
    (p.frame = some fr → p.stream = .taken →
      (r.vc = vc → r.dtype = dataType fr.fmt → r.row < fr.height → fr.okRows.contains r.row = false →
        fr.errRows.contains r.row = false → r.lenBits = fr.width * wireBits fr.fmt →
        (r.ecc ≠ 2 → r.crcOk = true → exec (.camRowReceive at' c r) s = .next
          ((camStore c (fr.addr + 256 + r.row * framePitch fr) (framePitch fr) (some (storedRow fr r.bytes))
              (cruWrite .camera c 1 (fr.addr + 256 + r.row * framePitch fr) (storedRow fr r.bytes)) (came s0)).modCam c fun p =>
            { p with frame := p.frame.map fun f => arrive r.row s0.now { f with okRows := f.okRows ++ [r.row] } })) ∧
        ((r.ecc = 2 ∨ r.crcOk = false) → exec (.camRowReceive at' c r) s = .next (errorRow c fr r.row (came (spoilLink c s0))))) ∧
      (e ≠ 2 →
        let miss := (List.range fr.height).filter fun k => !(fr.okRows.contains k || fr.errRows.contains k)
        let s2 := miss.foldl (fun s k => errorRow c fr k s)
          ((if rowsLost p then spoilLink c s0 else s0).modCam c fun p => { p with stream := .idle })
        exec (.camFrameEnd at' c ⟨vc, e⟩) s = .next ((if miss.isEmpty then s2 else spoilLink c s2).modCam c fun p =>
          { p with frame := p.frame.map fun f => { f with ended := true } })))) ∧
  (∀ (at' : Time) (c : Fin 16) (w : CamWindow) (fr : CamFrame) (ok : Bool) (s : State),
    let s0 := advance at' s
    let p := s.cam c
    (p.window = some w → p.frame = some fr → fr.ended = true →
      (windowOver w s0 = false → cruOk s = true → fr.errRows.length ≤ w.errmax →
        let j := judgeFrame p fr
        let hd := settledHeader fr j s0.now
        let s2 := readHeader c fr.addr (writeHeader c fr.addr hd settleParts (keepPort c fr j.skip (useChannel c 0 1 s0)))
        let fresh := j.advanced && (ok && headerStands fr.addr hd s2)
        ∃ t, exec (.camFrameSettle at' c ok) s = .next t ∧ (t.cam c).window = some { w with settled := true } ∧
          (t.cam c).frame = none ∧ (t.cam c).settled = some {
            buf := fr.buf, tick := fr.tick, gen := p.gen, fresh := fresh, at' := s0.now, addr := fr.addr, width := fr.width,
            height := fr.height, fmt := fr.fmt, newRows := fr.newRows, newAt := fr.newAt } ∧
          (t.cam c).fresh = fresh ∧ (t.cam c).prevCount = some (w32 j.fcount) ∧ (t.cam c).missRun = 0 ∧
          (t.cam c).lastHdr = hd ∧ (t.cam c).st = (if p.st = .lost then .started else p.st) ∧ (t.cam c).held = p.held ∧
          (t.cam c).gen = p.gen ∧ ((ok && headerStands fr.addr hd s2) = false → sourceActive 4 t = true ∨ (s.src 4).active = true) ∧
          t.tick = s.tick ∧ t.pipes = s.pipes ∧ t.units = s.units ∧
          (Memory.wf s.cru.mem = true → p.st ≠ .lost → fr.addr % 8 = 0 → cruOk s2 = true → t.views = s.views ∧ ∀ a,
            (a < fr.addr ∨ fr.addr + 64 ≤ a) → Memory.read t.cru.mem a = Memory.read s.cru.mem a)) ∧
      ((windowOver w s0 = true ∨ cruOk s = false ∨ w.errmax < fr.errRows.length) → exec (.camFrameSettle at' c ok) s =
        .next (satField (s0.modCam c fun p => { p with frame := none }) (P.camCountA c) 15 8 1))) ∧
    (p.frozen = false → p.window = some w → w.freeze ≤ p.repeats → canonical {} s.views = true →
      ∃ t, exec (.cameraFrozen at' c) s = .next t ∧ (t.cam c).frozen = true ∧ sourceActive 3 t = true ∧
        (∀ v ∈ viewIxs s, usesCamera (s.view v).ctx c = true → (t.view v).freezeDue = true) ∧ t.tick = s.tick ∧ t.pipes = s.pipes ∧
        t.units = s.units))

/-- 03 R66, R67, R85, 14 Table 14.8: CAM_DIAG answers the link word, the state and the header of the latest settled frame, whose fields
before any frame are open but for the reserved ones, 0; CAM_I2C is taken while the link is locked, its segment waits where the trigger
is near or its pulse is being sent, and it holds the SP until its transfer ends, which answers the bytes read or CHECK_FAIL; a segment that still waits does not
end. -/
def Obligations.CameraCommands : Prop :=
  ∀ (h : Hdr) (at' : Time) (ix c : Nat) (s s1 : State),
    let s0 := advance at' s
    (admitted h 0x0301 s = some (ix, s1) → c ≤ 15 →
      ((s1.cam c).lastHdr.isEmpty = false → exec (.camDiag h c) s = .next (reply h ix 0x0301 Status.ok
        (be 4 (camLinkWord (s1.cam c)) ++ [b8 (camCode (s1.cam c).st), 0, 0, 0] ++ (s1.cam c).lastHdr) s1)) ∧
      ((s1.cam c).lastHdr.isEmpty = true → ∃ x, x.length = 64 ∧ (∀ i, 0x24 ≤ i → i < 0x3C → u8 x i = 0) ∧
        exec (.camDiag h c) s = .next (reply h ix 0x0301 Status.ok
          (be 4 (camLinkWord (s1.cam c)) ++ [b8 (camCode (s1.cam c).st), 0, 0, 0] ++ x) { s1 with free := s1.free + 64 }))) ∧
    (∀ (addr rlen : Nat) (data : Bytes), admitted h 0x0302 s = some (ix, s1) → c ≤ 15 → addr ≤ 127 → data.length ≤ 64 → rlen ≤ 64 →
      (s1.cam c).gear ≠ 0 →
      let s2 := s1.modCam c fun p =>
        { p with segment := some {
          ready := s1.now
          begun := if pulsing c s1 then pulseEnd p else if triggerNear c s1 then none else some s1.now } }
      exec (.camI2c h c addr data.length rlen data) s =
        .next { s2 with host := { s2.host with held := some { h := h, opcode := 0x0302, arg := rlen, camera := c } } }) ∧
    (∀ (x : Held) (i : Byte) (data : Bytes), s.host.held = some x → x.opcode = 0x0302 →
      (segmentWaits x.camera s0 = true →
        exec (.i2cTunnelCompletion at' true i data) s = .next s0 ∧ exec (.i2cTunnelCompletion at' false i data) s = .next s0) ∧
      (segmentWaits x.camera s0 = false →
        let s2 := s0.modCam x.camera fun p => { p with segment := none }
        exec (.i2cTunnelCompletion at' true i data) s = .next (finishHeld x.h 0x0302 Status.ok (pad x.arg data) s2) ∧
        exec (.i2cTunnelCompletion at' false i data) s = .next (finishHeld x.h 0x0302 Status.checkFail [i] s2)))

/-! ### The tick generator (chapter 02) -/

/-- 02 R37, R38, R525, R39: an edge on TICK_IN is taken as the reference, measured and counted where it lies in its window, and
ends the run of accepted edges where it does not; without two expected edges in a row the generator enters holdover, which is
counted and raised; three accepted edges bring it to relocking. 02 R36, R40, 01 R20, R22, R23, R25, 03 R61, 08 R208, R229, 09
R257: at a tick edge TICK_COUNT goes on by one; the snapshot is captured without the bits that rise or fall on the edge (CAM_FRESH
and CAM_LINK are as they stood, but for rises), and the S space sampled without the writes that complete on it and the bits
without an owner; a camera port whose stop was accepted stops, and a pipe whose stop was accepted before the edge. -/
def Obligations.TickEvents : Prop :=
  (∀ (at' : Time) (f : Bool) (s : State),
    let s0 := advance at' s
    (s.tick.source ≠ 1 → exec (.tickInEdge at' f) s = .next s0) ∧
    (s.tick.source = 1 → f = decide (reg s P.tickInEdge = 1) →
      (s.tick.ref = none → exec (.tickInEdge at' f) s = .next (s0.modTick fun k => { k with ref := some s0.now })) ∧
      (∀ r, s.tick.ref = some r → refExpired s0.now s0 = false →
        let x := (s0.now - r) * s.tick.rate
        let n := nearestPeriods x
        let measured : State := if n = 0 then s0 else setReg s0 P.tickMeasured ((s0.now - r) * 10 / n)
        (inWindowOf x n = true → exec (.tickInEdge at' f) s = .next (measured.modTick fun k => { k with
          ref := some s0.now, accepted := (if n ≤ 1 then k.accepted else 0) + 1, phaseErr := phaseOf s0.now measured })) ∧
        (inWindowOf x n = false → exec (.tickInEdge at' f) s = .next (s0.modTick fun k => { k with accepted := 0 })))) ∧
    (refExpired s0.now s0 = true → s.tick.holdover = false →
      ∃ t, exec (.tickHoldover at') s = .next t ∧ t.tick.holdover = true ∧ t.tick.locked = false ∧ t.tick.ref = none ∧
        t.tick.accepted = 0 ∧ t.tick.count = s.tick.count ∧ sourceActive 1 t = true ∧
        (reg s P.tickLossCount + 1 < 65536 → t.regs = (setReg s P.tickLossCount (reg s P.tickLossCount + 1)).regs) ∧
        { t with now := s.now, inst := s.inst, tick := s.tick, regs := s.regs, flt := s.flt, free := s.free } = s) ∧
    (s.tick.source = 1 → s.tick.holdover = true → 3 ≤ s.tick.accepted → exec (.tickRelock at') s =
      .next (settle 1 (s0.modTick fun k => { k with holdover := false, relocking := true })))) ∧
  (∀ (at' : Time) (s : State),
    let s0 := advance at' s
    powered s = true → 2 ≤ s.st.step → edgeAllowed s0.now s0 = true → canonical {} s.views = true → canonical {} s.cams = true →
    canonical {} s.pipes = true →
    ∃ t, exec (.tickEdge at') s = .next t ∧ t.now = s0.now ∧ t.tick.count = s.tick.count + 1 ∧ t.tick.lastEdge = s0.now ∧
      t.sSample = ((instant s0).sBefore.getD s.sNow) &&& ownedS s.owners ∧ t.sNow = s.sNow ∧ t.mram.objs = s.mram.objs ∧
      t.fio = s.fio ∧ t.upd = s.upd ∧ t.units = s.units ∧
      (regGet (edgeRegs s0) P.tickSource = s.tick.source →
        let v := vSpace (steer s0.now s0) &&& ~~~(notYet s.tick.locked s0)
        t.vsnap &&& ~~~v = 0 ∧ ∀ i, 768 ≤ i → i < 800 → t.vsnap.getLsbD i = v.getLsbD i) ∧
      (∀ c < 16, (s.cam c).stopping = true →
        (t.cam c).st = (if (s.cam c).gear = 0 then .training else .linked) ∧ (t.cam c).triggering = false) ∧
      (∀ p < 8, (s.pipe p).stopping = true → (s.pipe p).stopAt ≠ s0.now → (t.pipe p).st = .disabled))

/-! ### The Crucible (chapter 04) -/

/-- 04 R86, R92, R93, R96, R98, R101: a write within a writer's regions reads the words it covers in part, is stored, clears the poison of
the tiles it covers whole and is charged by its bursts; a read within the map meets the errors that lie there and is charged; a write
outside the writer's regions, or an access past the usable map, changes no byte, is counted and raises the access fault. -/
def Obligations.CrucibleAccess : Prop :=
  ∀ (w : Writer) (b k a n : Nat) (bs : Bytes) (s : State), s.cru.st = .inService →
    let t := cruWrite w b k a bs s
    (a + bs.length ≤ 0x70000000 → mayWrite s w a bs.length = true →
      let s2 := noteTiles a bs.length (meetEdges a bs.length s)
      t = charge k (bursts a bs.length) (s2.modCru fun c => { c with
        mem := Memory.put c.mem a bs
        poison := c.poison.filter fun n => !decide (a ≤ 256 * n ∧ 256 * n + 256 ≤ a + bs.length)
        errs := c.errs.filter fun e => !decide (a ≤ 8 * e.1 ∧ 8 * e.1 + 8 ≤ a + bs.length) }) ∧
      (Memory.wf s.cru.mem = true → Memory.bytes t.cru.mem a bs.length = bs ∧
        ((∀ x, tget 0 s.cru.errs x ≠ 0 → x ≠ a / 8 ∧ x ≠ (a + bs.length) / 8) →
          ∀ x, (x < a ∨ a + bs.length ≤ x) → Memory.read t.cru.mem x = Memory.read s.cru.mem x))) ∧
    ((0x70000000 < a + bs.length ∨ mayWrite s w a bs.length = false) →
      t.cru = s.cru ∧ t.regs = (satField s P.cruAccessFaults 15 0 1).regs ∧
        ((t.src 5).active = true ∨ (s.src 5).held.isSome = true)) ∧
    (a + n ≤ 0x70000000 → touch b k a n s = charge k (bursts a n) (meetErrors a n s)) ∧
    (0x70000000 < a + n → touch b k a n s = accessFault b s)

/-- 04 R93 to R97, R100, R102, R106: the scrub reads the words in ascending order and counts its passes; a corrected error is
counted and reported to its bit, and the third of a word within a pass remaps its page; an uncorrectable one poisons its tile,
once, and touches no other word; more poisoned tiles than CRU_POISON_MAX declare the loss; a guaranteed class that exhausts its
credits is counted once a tick. 04 R107 to R110: the Crucible is lost with its cause, its controller held in reset and its
contents as they are; CRU_RECOVER is taken only then and holds the SP; a recovery whose steps pass leaves the Crucible empty and
unpoisoned, its repaired pages remapped, to return at the next tick edge, and one that fails leaves it lost and answers
CHECK_FAIL. -/
def Obligations.CrucibleUpkeepRecovery : Prop :=
  (∀ (at' : Time) (fs : List DramFlip) (ds : List Nat) (cls : Fin 4) (s : State), s.cru.st = .inService →
    let s0 := advance at' s
    let a := s.cru.scrubAt
    let b := 8 * (a / 8)
    let s1 := takeUpsets fs ds s0
    let e := tget 0 s1.cru.errs (a / 8)
    (a + 8 < 0x70000000 → e = 0 → exec (.cruScrubRead at' fs ds) s =
      .next (setReg (s1.modCru fun c => { c with scrubAt := a + 8 }) P.cruScrubPos ((a + 8) / 256))) ∧
    (0x70000000 ≤ a + 8 → e = 0 → exec (.cruScrubRead at' fs ds) s =
      .next (wrapReg (setReg (s1.modCru fun c => { c with scrubAt := 0, ceWords := [] }) P.cruScrubPos 0) P.cruScrubPasses)) ∧
    (a + 8 < 0x70000000 → tilePoisoned s b = false → 1 ≤ e → e ≤ 64 →
      let clean : State := s1.modCru fun c => { c with errs := tset 0 c.errs (a / 8) 0 }
      let met : State := (detect 6 (locAddr s dieDram b ((e - 1) % 64)) (countReg clean P.cruCeCount)).modCru fun c =>
        { c with ceWords := tset 0 c.ceWords (b / 8) (tget 0 s.cru.ceWords (b / 8) + 1) }
      exec (.cruScrubRead at' fs ds) s = .next (setReg ((if tget 0 s.cru.ceWords (b / 8) + 1 = 3 then repairPage b 2 met else met).modCru
        fun c => { c with scrubAt := a + 8 }) P.cruScrubPos ((a + 8) / 256))) ∧
    (a + 8 < 0x70000000 → tilePoisoned s b = false → e = 65 → (instant s0).wrote.contains (b / 256) = false →
      ∃ t, exec (.cruScrubRead at' fs ds) s = .next t ∧ t.cru.poison = insertNat (b / 256) s.cru.poison ∧ t.cru.scrubAt = a + 8 ∧
        ((t.src 7).active = true ∨ (s.src 7).held.isSome) ∧ t.cams = s.cams ∧ t.pipes = s.pipes ∧ t.units = s.units ∧
        ((insertNat (b / 256) s.cru.poison).length + (instant s0).cleared ≤ reg s P.cruPoisonMax →
          t.cru.st = .inService ∧ t.views = s.views ∧ (Memory.wf s.cru.mem = true → ∀ x, (x < b ∨ b + 8 ≤ x) →
            Memory.read t.cru.mem x = Memory.read s.cru.mem x)) ∧
        (reg s P.cruPoisonMax < (insertNat (b / 256) s.cru.poison).length + (instant s0).cleared →
          t.cru.st = .lost ∧ reg t P.cruLossCause = 4)) ∧
    (s.cru.overrun.contains cls.val = false → exec (.creditOverrun at' cls) s =
      .next (if exhausted cls s then
        detect 8 (locBlock s dieSoc 0x51 (cls + 1)) (satField (s0.modCru fun c =>
          { c with overrun := insertNat cls.val c.overrun }) P.cruOverrun (8 * cls + 7) (8 * cls) 1)
        else s0))) ∧
  (∀ (h : Hdr) (at' : Time) (ix : Nat) (cause : Fin 6) (reps : List Nat) (s s1 : State),
    let s0 := advance at' s
    (s.cru.st = .inService → 2 ≤ cause.val → (cause.val = 4 → reg s P.cruPoisonMax < poisonCount s0) →
      ∃ t, exec (.cruLoss at' cause) s = .next t ∧ t.cru = { s.cru with st := .lost } ∧
        tget .running t.clk.doms 5 = .heldInReset ∧ t.regs = (setReg s P.cruLossCause cause).regs ∧ sourceActive 9 t = true ∧
        t.cams = s.cams ∧ t.pipes = s.pipes ∧ t.units = s.units ∧ t.cores = s.cores) ∧
    (admitted h 0x0901 s = some (ix, s1) → s1.cru.st = .lost →
      ∃ t, exec (.cruRecover h) s = .next t ∧ t.cru = { s1.cru with st := .recovering } ∧ t.flt.mode = .recovery ∧
        t.host.held = some { h := h, opcode := 0x0901 } ∧ ((instant s1).fltEvents = [] →
          t.regs = (if s1.clk.locks.getLsbD 5 then satField s1 P.sysDomainResets 31 24 1 else s1).regs) ∧
        (s1.clk.locks.getLsbD 5 = true → domUp 5 t = true) ∧ t.cams = s1.cams ∧ t.units = s1.units) ∧
    (admitted h 0x0901 s = some (ix, s1) → s1.cru.st ≠ .lost →
      exec (.cruRecover h) s = .next (reply h ix 0x0901 Status.wrongState [] s1)) ∧
    (s.cru.st = .recovering → s.cru.returning = false → s.clk.sp = .running →
      let r := reps.foldl (fun s k => repairPage (4096 * k) 0 s) s0
      (domUp 5 s = true → ∃ t, exec (.cruRecoveryDone at' ⟨true, reps⟩) s = .next t ∧
        t.cru = { r.cru with mem := [], poison := [], errs := [], ceWords := [], snapTick := none, returning := true } ∧
        t.host = s.host ∧ t.regs = r.regs ∧ t.mram = r.mram ∧ t.units = s.units) ∧
      (∃ t, exec (.cruRecoveryDone at' ⟨false, reps⟩) s = .next t ∧ t.cru = { r.cru with st := .lost } ∧
        (∀ x, s.host.held = some x → x.opcode = 0x0901 → s.clk.spDue = false → t.host.held = none) ∧
        ((instant s0).fltEvents = [] → t.regs = r.regs) ∧ t.units = s.units)))

/-! ### Renders and Mirage (chapters 02, 05, 06) -/

/-- 05 R129, R140 to R144: a free engine of the pool takes the ready job that ranks first, and renders one tile row of its view;
without a ready job nothing but the header checks happens. -/
def Obligations.RenderJobs : Prop :=
  ∀ (at' : Time) (e : Fin 8) (bad : Bool) (s : State),
    let s1 := (enabledViews s).foldl (fun s v => checkHeaders v s) (advance at' s)
    viewsRun s = true → engineInPool e s = true →
    (firstJob s1 = none → exec (.jobDispatch at' e bad) s = .next s1) ∧
    (∀ v, firstJob s1 = some v →
      jobReady v s1 = true ∧ (∀ w ∈ enabledViews s1, jobReady w s1 = true → jobRank v s1 ≤ jobRank w s1) ∧
      ∃ r, (s1.view v).render = some r ∧ (let t := keepJob v e (renderRow v e bad r) s1
       exec (.jobDispatch at' e bad) s = .next t ∧ (t.view v).render.map (·.rows) = some (r.rows + 1) ∧
         t.cams = s1.cams ∧ t.pipes = s1.pipes ∧ t.units = s1.units))

/-- 02 R47, R48, R51, 05 R145: a view whose tile rows and source frames are complete before its deadline flips: its buffer takes
the ready role with the tick of the render, and the view counts as on time. 02 R44, R48, R50, R51, R52: a render that has not
completed at its deadline is a miss: the stale count goes up and the run of recovery ends; a view is invalid when the stale count
reaches its limit, in the frames that begin on this very edge too, and a recovery from probation that completes on the edge
restarts; it is valid again after the renders in a row that recovery asks for. -/
def Obligations.RenderOutcomes : Prop :=
  (∀ (at' : Time) (v : Fin 256) (r : Render) (s : State),
    let s0 := advance at' s
    liveRender v s0 = some r → viewsRun s = true → tileRows r.ctx ≤ r.rows → r.done = none → r.decision = some .plain →
    sourcesSettled r s = true → canonical {} s.views = true →
    ∃ t r' f fs, exec (.renderComplete at' v true) s = .next t ∧ (t.view v).render = some r' ∧ r'.flipped = true ∧
      r'.settled = true ∧ r'.done = some (tickMilli s0) ∧ (t.view v).frames = f :: fs ∧ f.buf = r.buf ∧ f.tick = r.tick ∧
      f.env = none ∧ (t.view v).invalid = (s.view v).invalid ∧
      ((s.view v).invalid = false → (t.view v).stale = 0) ∧
      ((s.view v).invalid = true → (t.view v).recover = min ((s.view v).recover + 1) 8) ∧
      t.cams = s.cams ∧ t.pipes = s.pipes ∧ t.tick = s.tick ∧ t.units = s.units) ∧
  (∀ (at' : Time) (v : Fin 256) (r : Render) (s : State),
    let s0 := advance at' s
    ((s.view v).render = some r → r.tick = s.tick.count → r.settled = false → cxMirage r.ctx = false →
      reached (cxDeadline r.ctx) s0 = true →
      ∃ t, exec (.renderDeadline at' v true) s = .next t ∧ (t.view v).render = some { r with settled := true, missed := true } ∧
        (t.view v).recover = 0 ∧ (t.view v).verified = false ∧ (t.view v).frames = (s.view v).frames ∧
        (t.view v).stale = (if (s.view v).invalid then (s.view v).stale else min ((s.view v).stale + 1) 8) ∧
        t.cams = s.cams ∧ t.pipes = s.pipes ∧ t.tick = s.tick ∧ t.units = s.units) ∧
    ((s.view v).invalid = false → reg s P.tickStaleLimit ≤ (s.view v).stale → ctxEnabled (s.view v).ctx = true →
      let s1 : State := { s0 with inst := { instant s0 with declared := v.val :: (instant s0).declared } }
      let again := (instant s0).recovered.contains v.val
      exec (.viewInvalid at' v) s = .next (raiseEvent 20 2 [v, 1] (countReg (redoStarts (fall [256 + v.val] (s1.modView v fun x =>
        { x with
          invalid := true, stale := reg s P.tickStaleLimit, recover := 0, probRun := if again then 0 else x.probRun
          witInvalid := x.witInvalid || again }))) P.tickInvalidEvents))) ∧
    ((s.view v).invalid = true → reg s P.tickRecoverCount ≤ (s.view v).recover →
      exec (.viewRecover at' v) s = .next (raiseEvent 20 1 [v, 0] (rise (256 + v) (s0.modView v fun x =>
        { x with invalid := false, stale := 0, recover := 0 })))))

/-- 06 R157, R164 to R167: at its commit point a Mirage render is a hit where the measurement lies within the tolerance of the
prediction, is rendered again where it does not and the budget allows, and gives way to its envelope otherwise, with each decision
counted; one decided from the tick edge on latches its measurement; an angle of the host that is too old counts as 256 ticks old. -/
def Obligations.MirageDecisions : Prop :=
  ∀ (at' : Time) (v : Fin 256) (r : Render) (s : State),
    let s0 := advance at' s
    let z := measure ((trackOf (cxAngleSrc r.ctx)).getD 0) s
    let decided (f : Render → Render) : State :=
      tallyCommit v (fun x => modRender v f (stopSuspect v r x)) (keepCommit v true s0)
    (commitRender v s0 = some r → viewsRun s = true →
      (r.decision ≠ some .envelope →
        (∀ a, z = some a → (a - r.thetaPred).natAbs ≤ 5 * cxAngleTol r.ctx → r.done = none →
          ∃ t, exec (.mirageCommitPoint at' v true) s = .next t ∧
            (t.view v).render = some { r with latched := true, thetaMeas := a, decision := some .hit } ∧
            (t.view v).hits = sat32 (s.view v).hits ∧ (t.view v).frames = (s.view v).frames ∧
            t.regs = (countReg s P.mirHits).regs ∧ t.cams = s.cams ∧ t.pipes = s.pipes) ∧
        (∀ a, z = some a → 5 * cxAngleTol r.ctx < (a - r.thetaPred).natAbs → budgetOk v r.ctx s0 = true →
          ∃ t, exec (.mirageCommitPoint at' v true) s = .next t ∧
            (t.view v).render = some { r with
              latched := true, thetaMeas := a, decision := some .rerender, again := true, checked := false, rows := 0, clocks := 0
              done := none, poison := false, suspect := false, pan := panOf r.ctx a } ∧
            (t.view v).rerenders = sat32 (s.view v).rerenders ∧ t.regs = (countReg (stopSuspect v r s) P.mirRerenders).regs ∧ t.cams = s.cams) ∧
        (∀ a, z = some a → 5 * cxAngleTol r.ctx < (a - r.thetaPred).natAbs → budgetOk v r.ctx s0 = false →
          envelopeDone r s = false → exec (.mirageCommitPoint at' v true) s = .next (decided fun _ =>
            { r with latched := true, thetaMeas := a, budget := true, decision := some .envelope }))) ∧
      (r.decision = some .envelope → envelopeDone r s = false → ∀ a, z = some a → exec (.mirageCommitPoint at' v true) s =
        .next (decided fun _ => { r with latched := true, thetaMeas := a })) ∧
      (z = none → envelopeDone r s = false → exec (.mirageCommitPoint at' v true) s = .next (decided fun _ =>
        { r with latched := true, sourceInvalid := true, decision := some .envelope }))) ∧
    (∀ n : Fin 4, reg s P.mirHostTimeout < tget 256 s.hostAge n → exec (.hostAngleTimeout at' n) s =
      .next { s0 with hostAge := tset 256 s.hostAge n 256 })

/-! ### Scan-out (chapter 08) -/

/-- 02 R46, R49, 08 R210, R221, 07 R181, R183: a pipe whose first active line is due begins the frame that shows the renders of
the tick before (at SO_PHASE 0 within the two pixel clocks ahead of the edge too): its layers are those of the entry in force,
with the lanes in service; a frame with a fallback layer, or with the store lost, is counted; no frame begins at another time. 08
R214, R215, R223, R224, 07 R527: training ends with a configuration that carries the timing, or fails, and the eighth failure in a
row raises FS-023; an ACTIVE pipe that loses its link, or underruns, is not healthy; the loss ends the frame in progress where it
stands, and a frame that starts on the edge of the loss has not started (R229); a parity error leaves the icon black until it is
reloaded. -/
def Obligations.PipeFramesLinks : Prop :=
  (∀ (at' : Time) (p : Fin 8) (f : OutFrame) (wrong : BitVec 3) (s : State),
    let s0 := advance at' s
    let x := s.pipe p
    (startTick p s0 = none → exec (.scanoutFrameStart at' p) s = .next s0) ∧
    (∀ k, x.st = .active → startTick p s0 = some k → (∀ g, x.frame = some g → g.tick ≠ k) →
      let s2 := keepStart p (feedLanes s0)
      ∃ t g, exec (.scanoutFrameStart at' p) s = .next t ∧ (t.pipe p).frame = some g ∧ (t.pipe p).prev = x.frame ∧
        g.tick = k ∧ g.entry = x.entry ∧ g.startAt = s0.now ∧ g.lanes = lanesIn s2 ∧ g.seed = w32 (regE s P.witSeed) ∧
        g.layers.map (fun l => { l with record := [], recPoison := false }) =
          (List.range 8).map (fun l => { layerShown p x k l s2 with record := [], recPoison := false }) ∧ g.complete = false ∧
        (t.pipe p).fallback = (g.full || g.layers.any fun l => decide (l.mode = .fallback)) ∧
        (cruOk s = false → g.full = true) ∧ t.cams = s.cams ∧ t.tick = s.tick ∧ t.units = s.units) ∧
    (x.frame = some f → f.complete = false → f.lostAt = none → activeOver p f s0 = true → x.st = .active →
      staticPoisoned f s = false →
      (failingRegions p x f wrong s0 = [] →
        let ok := f.underrun.isNone
        exec (.pipeFrameComplete at' p wrong) s = .next (fallIf (!ok) [800 + p.val] (riseIf (ok && !x.healthy) (800 + p)
          (s0.modPipe p fun y => { y with
            frame := some { f with complete := true }, healthy := ok, crcFail := false
            sent := if y.sent.isEmpty then [] else y.sent ++ relayLines p y f (vact p s) s0 ++ [.frameEnd (relayVc p s)] })))) ∧
      (∀ r rs, failingRegions p x f wrong s0 = r :: rs →
        ∃ t, exec (.pipeFrameComplete at' p wrong) s = .next t ∧ (t.pipe p).healthy = false ∧ (t.pipe p).crcFail = true ∧
          t.regs = (countReg s P.witCrcEvents).regs ∧ ((t.src 20).active = true ∨ (s.src 20).held.isSome = true) ∧
          t.views = s.views ∧ t.cams = s.cams))) ∧
  (∀ (at' : Time) (p : Fin 8) (rate lanes : Nat) (f : OutFrame) (s : State),
    let s0 := advance at' s
    let y := s.pipe p
    ((y.st = .training ∨ y.st = .linkDown) → y.trainedNext = false →
      (carriesTiming p rate lanes s.tick.rate s = true → exec (.pipeTrainingDone at' p rate lanes) s =
        .next (causeGone 23 (s0.modPipe p fun x => { x with
          rate := rate, lanes := lanes % 8, trained := true, trainedNext := true, trainedAt := s0.now, fails := 0 }))) ∧
      (carriesTiming p rate lanes s.tick.rate s = false → ∃ t, exec (.pipeTrainingDone at' p rate lanes) s = .next t ∧
        (t.pipe p).st = .training ∧ (t.pipe p).fails = min (y.fails + 1) 255 ∧ (t.pipe p).trained = false ∧
        (y.fails = 7 → sourceActive 23 t = true) ∧ t.cams = s.cams ∧ t.views = s.views ∧ t.regs = s.regs)) ∧
    (y.st = .active → tget none (instant s0).started p = none → ∃ t, exec (.pipeLinkLoss at' p) s = .next t ∧
      (t.pipe p).st = .linkDown ∧ (t.pipe p).healthy = false ∧
      (t.pipe p).fallback = false ∧ (t.pipe p).trained = false ∧ t.regs = (satField s (P.soCount p) 7 0 1).regs ∧
      sourceActive 22 t = true ∧ t.cams = s.cams ∧ t.units = s.units ∧
      (∀ g, y.frame = some g → g.complete = false → g.lostAt = none → (t.pipe p).frame = some { g with lostAt := some (scannedTo p g s0) })) ∧
    (∀ u, y.st = .active → tget none (instant s0).started p = some u → u.frame = none →
      ∃ t, exec (.pipeLinkLoss at' p) s = .next t ∧ (t.pipe p).st = .linkDown ∧ (t.pipe p).frame = none ∧ (t.pipe p).prev = u.prev) ∧
    (∀ px py : Nat, y.st = .active → y.frame = some f → f.complete = false → f.full = false → f.underrun = none →
      px < hact p s → py < vact p s →
      ∃ t, exec (.scanoutUnderrun at' p px py) s = .next t ∧
        (t.pipe p).frame = some { f with underrun := some (py * hact p s + px) } ∧ (t.pipe p).healthy = false ∧
        (t.pipe p).fallback = true ∧ t.regs = (satField (if y.fallback then s else satField s (P.soCount p) 23 16 1)
          (P.soCount p) 15 8 1).regs ∧ ((t.src 24).active = true ∨ (s.src 24).held.isSome = true) ∧ t.cams = s.cams ∧ t.views = s.views) ∧
    exec (.iconParityError at' p) s = .next (detect 25 (locBlock s dieSoc (0x18 + p)) (satField
      (s0.modPipe p fun x => { x with iconBlack := true, iconReload := true }) (P.soCount p) 31 24 1)))

/-! ### Witness verification (chapter 07) -/

/-- 07 R191: of the lanes in the vote, three verify a view by at least two passes, two by both, and fewer verify nothing; a vote that
does not verify fails where the lanes that fail are more than half; with no copy wrong, every copy gives the voted result. -/
def Obligations.WitnessVote : Prop :=
  ∀ (parts : List LanePart),
    let ins := parts.filter fun p => p.verdict ≠ .notChecked
    let passes := ins.filter fun p => p.verdict = .pass
    let bad := ins.filter fun p => p.verdict = .fail && failBits p.reason
    let x := castVote parts 0
    (x.verified = true ↔ (ins.length = 3 ∧ 2 ≤ passes.length) ∨ (ins.length = 2 ∧ passes.length = 2)) ∧
    (x.failed = true ↔ x.verified = false ∧ ins.length < 2 * bad.length) ∧
    (2 ≤ ins.length → ins.length ≤ 3 → ∀ y ∈ x.copies, y.2 = x.verified)

/-- 07 R185, R191, R192, R197 to R199, 02 R47: a verdict is given on the oldest frame of the view whose verdict is due, once the
last pipe that shows it has scanned it out: where lanes checked it, by their vote; where nothing was checked, or a pipe repeated
the frame, it counts as not checked; the source frames that wait for no other verdict are held no more. A verified view has no
failures in a row any more, and is no VERIFIED one where R197 declares it invalid on the same edge (R204); a failed one has one
more and raises FS-014. 07 R193, R194, R197, R199, 18 Table 18.3: a view with WIT_INVALID_AFTER failures in a row, or of a frozen
camera, is invalid, in the frames that begin on this very edge too, until its probation has passed; a declaration of R50 on that
edge starts the recovery again (02 R52); a lane that disagreed for WIT_BLAME_TICKS ticks is taken OUT and held in reset, with a
self-test due after its first removal; the voter test takes the lanes of wrong copies OUT. -/
def Obligations.WitnessOutcomesVerdicts : Prop :=
  (∀ (at' : Time) (v : Fin 256) (faulty : List LaneReport) (flip : BitVec 3) (k : Word) (p : Nat) (l : LayerShown) (s : State),
    let s0 := advance at' s
    let ts := openTaps v s
    let group := ts.filter fun t => t.2.2.1.tick = k
    (ts = [] → exec (.verdictComplete at' v faulty flip) s = .next s0) ∧
    (oldestTick ts s = some k → (∀ t ∈ group, t.2.2.1.lostAt.isSome = true ∨ activeOver t.1 t.2.2.1 s0 = true) →
      (∀ e ∈ s.pipes, stillToShow v k e.1 e.2 s0 = false) → s.cru.st = .inService →
      let s2 := markJudged v k (feedLanes s0)
      let judged := judgeGroup v k group faulty flip s2
      exec (.verdictComplete at' v faulty flip) s = .next (endHeld v k (forgetDropped v k judged)) ∧
      ((∀ t ∈ group, t.2.2.2.mode = .static ∨ t.2.2.2.mode = .empty ∨ (t.2.2.2.mode = .fallback ∧ t.2.2.2.present = false)) →
        judged = countReg (fall [v.val] (s2.modView v fun x => { x with verified := false })) P.witNotcheckedCnt) ∧
      ((∃ t ∈ group, t.2.2.2.mode = .repeated) → (∀ t ∈ group, t.2.2.2.mode ≠ .live ∧ t.2.2.2.mode ≠ .envelope) →
        judged = countReg (fall [v.val] ((repeatReports v k s2).modView v fun x => { x with verified := false })) P.witNotcheckedCnt) ∧
      (group ≠ [] → (∀ t ∈ group, t.2.2.2.mode = .live ∨ t.2.2.2.mode = .envelope) →
        (∀ t ∈ group, t.2.2.1.lostAt = none ∧ t.2.2.1.underrun = none ∧ t.2.2.1.full = false) →
        (∀ t ∈ group, bufferPoisoned t.2.2.2 s2 = false) →
        judged = judgeFrameOf v k group group none false faulty flip s2)) ∧
    (let t := applyVerdict v p k false true false l s
     (s.view v).shownSel = true → (t.view v).failRun = 0 ∧ (t.view v).verified = (!(s.view v).freezeDue && !(instant s).witDeclared.contains v.val) ∧
      t.regs = (countReg s P.witVerifiedCnt).regs ∧ t.cams = s.cams ∧ t.pipes = s.pipes) ∧
    (let t := applyVerdict v p k false false true l s
     (s.view v).shownSel = true → (t.view v).failRun = min ((s.view v).failRun + 1) 8 ∧ (t.view v).verified = false ∧
      t.regs = (countReg s P.witFailedCnt).regs ∧ ((t.src 14).active = true ∨ (s.src 14).held.isSome = true) ∧
      t.cams = s.cams ∧ t.pipes = s.pipes)) ∧
  (∀ (at' : Time) (v : Fin 256) (n : Fin 3) (wrong : BitVec 3) (s : State),
    let s0 := advance at' s
    (ctxEnabled (s.view v).ctx = true →
      ((s.view v).freezeDue = true ∨ ((s.view v).witInvalid = false ∧ reg s P.witInvalidAfter ≤ (s.view v).failRun)) →
      let s1 : State := { s0 with inst := { instant s0 with witDeclared := v.val :: (instant s0).witDeclared } }
      exec (.witnessInvalid at' v) s = .next (raiseEvent 20 2 [v, 2] (countReg (redoStarts (fall [256 + v.val] (s1.modView v fun x =>
        { x with witInvalid := true, failRun := 0, probRun := 0, freezeDue := false }))) P.witInvalidCnt))) ∧
    ((s.view v).witInvalid = true → reg s P.witRecover ≤ (s.view v).probRun → viewFrozen v s = false → (s.view v).freezeDue = false →
      ((instant s0).declared.contains v.val = false →
        let s1 : State := { s0 with inst := { instant s0 with recovered := v.val :: (instant s0).recovered } }
        exec (.probationEnd at' v) s = .next (raiseEvent 20 1 [v, 0] (rise (256 + v) (s1.modView v fun x =>
          { x with witInvalid := false, probRun := 0, failRun := 0 })))) ∧
      ((instant s0).declared.contains v.val = true →
        exec (.probationEnd at' v) s = .next (s0.modView v fun x => { x with probRun := 0 }))) ∧
    ((s.lane n).st = .inService → reg s P.witBlameTicks ≤ (s.lane n).blame → canonical {} s.lanes = true →
      ∃ t, exec (.laneRemoval at' n) s = .next t ∧ (t.lane n).st = .out ∧ (t.lane n).blame = 0 ∧ (t.lane n).ok = false ∧
        (t.lane n).removals = min ((s.lane n).removals + 1) 2 ∧ (t.lane n).testDue = decide ((s.lane n).removals = 0) ∧
        ((t.src 17).active = true ∨ (s.src 17).held.isSome = true) ∧ (stopsNow (2 + n) s0 = false → domainState (2 + n) t ≠ .running) ∧
        t.regs = (satField s P.sysDomainResets 15 8 1).regs ∧ t.cams = s.cams ∧ t.views = s.views) ∧
    (s.tick.count.toNat % 1024 = 0 → canonical {} s.lanes = true →
      ∃ t, exec (.witVoterTest at' wrong) s = .next t ∧
        (∀ m < 3, (t.lane m).st = (if wrong.getLsbD m then .out else (s.lane m).st)) ∧ t.regs = s.regs ∧ t.cams = s.cams ∧
        t.views = s.views))

/-! ### Self-test in service (chapter 17) -/

/-- 17 R457, R459, R464, 07 R193: a slice of a class that is due begins on the next unit in turn: an engine of the pool, a lane in
service, which leaves the vote, a core of a trio with three cores IN, which leaves the agreement, a block of the Crucible, which
is read and copied unless it is tested in place; where another lane is not in service, the trio's boundary is taken, or a core of
it has been blamed on the edge, the slice is aborted at once and counted; a lane at its blame limit begins no slice. 17 R452,
R453, R458 to R461: a slice that completes is counted; a segment that passes is followed by the next one, a first failure runs
again, and a failure that repeats, or a memory that cannot be repaired, is confirmed: an engine leaves the pool with its fault; a
wrong known answer raises FS-089 at once. A slice whose abort condition holds stops, and its unit goes back. -/
def Obligations.SelfTestSlices : Prop :=
  (∀ (at' : Time) (n : Nat) (s : State),
    let s0 := advance at' s
    (bistOf 0 s = none → nextFrom 8 (tget 0 s.st.nextUnit 0) (fun e => engineInPool e s) = some n → sliceDue 0 false s = true →
      domUp 1 s = true → exec (.engineSlice at') s = .next (beginSlice 0 n (segOf (0x10 + n) s) s0)) ∧
    (bistOf 1 s = none → (∀ l < 3, (s.lane l).testDue = false) → (s.lane n).blame < reg s P.witBlameTicks →
      nextFrom 3 (tget 0 s.st.nextUnit 1) (fun l => decide ((s.lane l).st = .inService)) = some n → sliceDue 1 false s = true →
      (otherLaneGone n s = false → exec (.laneSlice at') s = .next (beginSlice 1 n (segOf (0x20 + n) s) (setLane n .underTest s0))) ∧
      (otherLaneGone n s = true → exec (.laneSlice at') s = .next (countAbort 1 n s0))) ∧
    (bistOf 2 s = none → nextFrom 24 (tget 0 s.st.nextUnit 2) (fun c => coreTestable c s || blamedNow c s0) = some n →
      sliceDue 2 false s = true →
      (s.unit (4 * (n / 3))).inCycle = false →
      (blamedNow n s0 = false → boundaryDue (n / 3) s = false → exec (.coreSlice at') s =
        .next (beginSlice 2 n (segOf (0x28 + n) s) (s0.modCore n fun c => { c with st := .underTest }))) ∧
      (blamedNow n s0 = true ∨ boundaryDue (n / 3) s = true → exec (.coreSlice at') s = .next (countAbort 2 n s0))) ∧
    (sliceDue 3 false s = true → cruOk s = true → ∃ k, exec (.crucibleSlice at') s =
      .next (let unit := tget 0 s.st.nextUnit 3
             let s1 : State := { charge 6 k s0 with free := s.free + 1 }
             beginSlice 3 unit 0 (if inPlace unit then s1 else copyBlock unit (meetErrors (16384 * unit) 16384 s1))))) ∧
  (∀ (at' : Time) (cls : Fin 4) (r : SliceRun) (mem page : Fin 4) (logic kat : Bool) (s : State),
    let s0 := advance at' s
    let counted := countSlice cls r (useChannel (sliceBlock cls r.unit) 0 0 s0)
    let again := s.st.retry.contains (sliceBlock cls r.unit)
    tget none s.st.running cls.val = some r → s.clk.sp = .running →
    (cls.val = 3 → kat = false →
      exec (.sliceComplete at' cls logic kat mem page) s = .next (endCruSlice r mem page (copyBack r.unit counted))) ∧
    (cls.val ≠ 3 →
      (exec (.sliceComplete at' cls false false 0 page) s = .next (segPassed cls r counted)) ∧
      (2 ≤ mem.val → exec (.sliceComplete at' cls logic kat mem page) s = .next (segConfirmed cls mem r counted)) ∧
      (logic = true ∨ kat = true →
        (again = false → exec (.sliceComplete at' cls logic kat 0 page) s = .next (segFailed cls r
          (if kat then detect 89 (locBlock s dieSoc (sliceBlock cls r.unit)) counted else counted))) ∧
        (again = true → exec (.sliceComplete at' cls logic kat 0 page) s =
          .next (segConfirmed cls (if logic then 1 else 4) r counted)))) ∧
    (cls.val = 0 → bistOf 0 s = none →
      (tget none (instant s0).jobs r.unit = none → ∃ t, exec (.sliceComplete at' cls true false 2 page) s = .next t ∧
        (r.unit < 8 → t.st.engineOut.getLsbD r.unit = true) ∧ ((t.src 12).active = true ∨ (s.src 12).held.isSome = true) ∧
        t.st.failUnit = 0x10 + r.unit ∧ t.st.failKind = 2 ∧ t.cams = s.cams ∧ t.views = s.views ∧ t.units = s.units) ∧
      exec (.sliceAbort at' cls) s = .next (setTesting (0x10 + r.unit) false ((countAbort 0 r.unit s0).modSt fun x =>
        { x with running := tset none x.running 0 none }))))

/-- 17 R451, R462, R463, 16 R431: BIST_RUN takes the unit for the whole test and holds the SP, and a block it may not name is
answered BAD_PARAM, and one into a domain that stops on this very edge hangs or is answered CHECK_FAIL; BIST_STATUS reports and
changes nothing; a known-answer test takes a channel that does not compute, once per second and preset, and a wrong answer is a failure of the unit.
The slices in service stop the machine in no state. -/
def Obligations.SelfTestCommands : Prop :=
  ∀ (h : Hdr) (at' : Time) (ix block cls unit : Nat) (preset : Fin 4) (w : Word) (s s1 : State),
    (admitted h 0x0902 s = some (ix, s1) →
      (bistUnit block = some (cls, unit) → stopsNow (unitDomain cls unit) s1 = true →
        exec (.bistRun h block) s = .next (let a := deadAccess h 0x0902 block (unitDomain cls unit) s1
                                           if a.1 = Status.held then a.2.2 else reply h ix 0x0902 a.1 a.2.1 a.2.2)) ∧
      (bistUnit block = some (cls, unit) → stopsNow (unitDomain cls unit) s1 = false → bistStatusOf cls unit s1 = Status.ok →
        (cls = 0 → tget none (instant s1).jobs unit = none) → ∃ t, exec (.bistRun h block) s = .next t ∧
          t.st.bist = some { block := block } ∧ block ∈ t.flt.testing ∧
          t.host.held = some { h := h, opcode := 0x0902, arg := block } ∧
          ((instant s1).fltEvents = [] → t.regs = s1.regs) ∧ t.cams = s1.cams ∧ t.units = s1.units) ∧
      (bistUnit block = none → exec (.bistRun h block) s = .next (reply h ix 0x0902 Status.badParam [] s1))) ∧
    (admitted h 0x0903 s = some (ix, s1) → ∃ out, out.length = 32 ∧
      out.take 4 = [b8 s1.st.step, b8 (b2n s1.st.fast + 2 * b2n (pendingUnits s1 = 0 && pendingCores s1 = 0)), 0, 0] ∧
      exec (.bistStatus h) s = .next (reply h ix 0x0903 Status.ok out s1)) ∧
    (let s0 := advance at' s
     let due := katUnit block && !chanBusy block s0 && katDue block preset s0
     (due = false → exec (.katRun at' block preset w) s = .next s0) ∧
     (due = true → w.toNat = katAnswer preset → exec (.katRun at' block preset w) s =
       .next ((useChannel (chanOf block) preset 0 s0).modSt fun x =>
         { x with katAt := tset none x.katAt (4 * block + preset) (some s0.now) }))) ∧
    (w.toNat ≠ katAnswer preset → katUnit block = true → chanBusy block (advance at' s) = false →
      katDue block preset (advance at' s) = true → ∃ t, exec (.katRun at' block preset w) s = .next t ∧
      t.st.failUnit = block ∧ t.st.failKind = 4 ∧ ((t.src 89).active = true ∨ (s.src 89).held.isSome = true) ∧ t.regs = s.regs ∧
      t.units = s.units ∧ t.cams = s.cams) ∧
    (∀ (k mem page : Fin 4) (logic kat : Bool),
      ∀ c ∈ [Instr.engineSlice at', .laneSlice at', .coreSlice at', .crucibleSlice at', .sliceComplete at' k logic kat mem page,
          .sliceAbort at' k], ∃ t, exec c s = .next t)

/-! ### The trios from outside (chapters 09, 11) -/

/-- 11 R291, R293, R294, R305, Table 11.2, 09 R250: a program is checked and loaded in EMPTY, STOP or HALTED, with its check value
computed anew; it is deleted in STOP; a unit starts from STOP and restarts from HALTED where it may, and then runs; it stops from
RUN at its next cycle boundary, between two cycles, and on the edge on which a cycle has started, which then does not start, at
once. 09 R256, 11 R302, R306, 14 Table 14.9: an exchange is checked against the check value it must lead to and staged, and holds
the SP; an ownership map takes effect at once where no unit in RUN or DEBUG changes; COMMISSION confirms the module's own check
value and no other; HALT_INFO reads the halt. -/
def Obligations.TrioProgramCommands : Prop :=
  (∀ (h : Hdr) (part : BulkPart) (ix i t code kind u : Nat) (bs : Bytes) (s s1 s2 : State),
    (admitted h 0x0501 s = some (ix, s1) → bulkStep 0x0501 part s1 = .whole i bs s2 → containerCheck i bs s2 = none →
      ((s2.unit i).st = .empty ∨ (s2.unit i).st = .stop ∨ (s2.unit i).st = .halted) → held250 i s2 = false →
      exec (.progLoad h part) s = .next (reply h ix 0x0501 Status.ok []
        (recheck (placeProgram i bs (initJournal i (storeObj kProgram i bs s2)))))) ∧
    (unitIx t code s1 = some u →
      (admitted h 0x0502 s = some (ix, s1) → (s1.unit u).st = .stop →
        exec (.progDelete h t code) s = .next (reply h ix 0x0502 Status.ok [] (recheck (setRunState u .empty
          (storeObj kProgram u [] (s1.modUnit u fun x =>
            { x with code := [], container := [], unchanged := false, kOk := false, kDue := false })))))) ∧
      (admitted h 0x0503 s = some (ix, s1) → kind ≤ 1 → (s1.unit u).st = .stop → mayStart u s1 = true →
        exec (.trioStart h t code kind) s = .next (reply h ix 0x0503 Status.ok [] (startUnit u kind s1)) ∧
        ((startUnit u kind s1).unit u).st = .run ∧ ((startUnit u kind s1).unit u).first = true) ∧
      (admitted h 0x0505 s = some (ix, s1) → kind ≤ 1 → (s1.unit u).st = .halted → mayStart u s1 = true →
        exec (.trioRestart h t code kind) s = .next (reply h ix 0x0505 Status.ok
          (be 4 (reg (startUnit u kind s1) (P.trioRestart t))) (startUnit u kind s1)) ∧
        ((startUnit u kind s1).unit u).st = .run) ∧
      (let x := undoCycle u (if code = 0 then settleSuspect t s1 else s1)
       admitted h 0x0504 s = some (ix, s1) →
        ((x.unit u).st = .run → (x.unit u).inCycle = true → exec (.trioStop h t code) s =
          .next (reply h ix 0x0504 Status.ok [] (x.modUnit u fun y => { y with stopReq := true }))) ∧
        ((x.unit u).st = .run → (x.unit u).inCycle = false →
          ∃ y, exec (.trioStop h t code) s = .next (reply h ix 0x0504 Status.ok [] y) ∧ (y.unit u).st = .stop ∧
            (y.unit u).wdtOn = false ∧ ((x.unit u).dbgWrites = [] → y.cores = x.cores) ∧ y.fio = x.fio)))) ∧
  (∀ (h : Hdr) (part : BulkPart) (ix i t code u : Nat) (bs : Bytes) (v : Word) (s s1 s2 : State),
    (let ct := sub bs 8 (bs.length - 8)
     admitted h 0x0506 s = some (ix, s1) → bulkStep 0x0506 part s1 = .whole i bs s2 → 8 ≤ bs.length → beAt 4 bs 4 = 0 →
      containerCheck i ct s2 = none → (s2.unit i).st = .run →
      w32 (crcStore (chkBytes (fun u => if u = i then ct else obj s2 kProgram u) (obj s2 kOwner 0) s2)) = w32 (beAt 4 bs 0) →
      ∃ x, exec (.progExchange h part) s = .next x ∧ (x.unit i).stage = some (ct, [], w32 (beAt 4 bs 0), h) ∧
        x.host.held = some { h := h, opcode := 0x0506, arg := i } ∧ (x.unit i).code = (s2.unit i).code ∧ x.cores = s2.cores ∧
        x.mram.objs = s2.mram.objs) ∧
    (admitted h 0x0507 s = some (ix, s1) → bulkStep 0x0507 part s1 = .whole 0 bs s2 → ownerCheck bs s2 = none →
      (mapChanges s2.owners bs).any (active s2) = false →
      exec (.ownerLoad h part) s = .next (reply h ix 0x0507 Status.ok [] (recheck (setOwners bs (storeObj kOwner 0 bs s2))))) ∧
    (admitted h 0x0508 s = some (ix, s1) →
      (v = s1.chk → exec (.commission h v) s = .next (reply h ix 0x0508 Status.ok []
        (setChkState 1 (setConfirmed v s1)))) ∧
      (v ≠ s1.chk → exec (.commission h v) s = .next (reply h ix 0x0508 Status.checkFail [] s1))) ∧
    (admitted h 0x0509 s = some (ix, s1) → unitIx t code s1 = some u →
      let x := s1.unit u
      exec (.haltInfo h t code) s = .next (reply h ix 0x0509 Status.ok
        ([b8 x.cause, b8 x.excCode, b8 x.excCore, 0] ++ be 4 x.excPc ++ be 4 x.excCycle ++ be 4 x.excTnow.toNat) s1)))

/-- 09 R259 to R261, R249: the debugger: a unit in RUN halts into DEBUG and one in DEBUG goes on, a voted
trio only while its check value is confirmed (11 R302); a halt of the unit on that edge wins; steps leave the S
space as it is; breakpoints, registers and memory are set and read; a write of a unit in RUN waits for its next boundary. -/
def Obligations.TrioDebug : Prop :=
  ∀ (h : Hdr) (ix t code u n off : Nat) (data : Bytes) (s s1 : State), unitIx t code s1 = some u →
    (let s2 := if code = 0 then settleSuspect t s1 else s1
     let y := enterDebug u s2
     admitted h 0x050A s = some (ix, s1) → (s2.unit u).st = .run →
      ((y.unit u).st = .debug → exec (.dbgHalt h t code) s = .next (reply h ix 0x050A Status.ok (be 4 (y.core (dbgCore u)).pc) y)) ∧
      ((y.unit u).st ≠ .debug → exec (.dbgHalt h t code) s = .next (reply h ix 0x050A Status.wrongState [] y)) ∧
      ((s2.unit u).inCycle = false → wdtOver u s2 = false → (y.unit u).st = .debug ∧ (y.unit u).wdtOn = false ∧
        ((s2.unit u).dbgWrites = [] → y.cores = s2.cores))) ∧
    (admitted h 0x050B s = some (ix, s1) → 1 ≤ n → n ≤ 65535 → (s1.unit u).st = .debug →
      ∃ x, exec (.dbgStep h t code n) s = .next (reply h ix 0x050B Status.ok (be 4 (x.core (dbgCore u)).pc) x) ∧
        x.sNow = s1.sNow) ∧
    (admitted h 0x050C s = some (ix, s1) → n ≤ 3 →
      (off < (s1.unit u).code.length → exec (.dbgBreak h t code n 1 off) s = .next (reply h ix 0x050C Status.ok []
        (s1.modUnit u fun x => { x with breaks := tset none x.breaks n (some off) }))) ∧
      exec (.dbgBreak h t code n 0 off) s = .next (reply h ix 0x050C Status.ok []
        (s1.modUnit u fun x => { x with breaks := tset none x.breaks n none }))) ∧
    (admitted h 0x050D s = some (ix, s1) → code = 0 → confirmed s1 = false →
      exec (.dbgResume h t code) s = .next (reply h ix 0x050D Status.wrongState [] s1)) ∧
    (admitted h 0x050D s = some (ix, s1) → (s1.unit u).st = .debug → (code = 0 → confirmed s1 = true) →
      exec (.dbgResume h t code) s = .next (reply h ix 0x050D Status.ok [] (setRunState u .run (latchSafe u
        (s1.modUnit u fun x => { x with
          wdtOn := !x.first, wdtAt := x.wdtAt + (s1.now - x.debugAt), resumeAt := some (s1.core (dbgCore u)).steps }))))) ∧
    (admitted h 0x050E s = some (ix, s1) → 1 ≤ n → n ≤ 1024 →
      exec (.dbgRead h t code 0 0 off n) s = .next (reply h ix 0x050E Status.ok (regsBytes (s1.core (dbgCore u))) s1) ∧
      (off + n ≤ 32768 → exec (.dbgRead h t code 1 0 off n) s = .next (reply h ix 0x050E Status.ok
        (Memory.bytes (s1.core (dbgCore u)).sram off n) s1))) ∧
    (admitted h 0x050F s = some (ix, s1) → 1 ≤ data.length → data.length ≤ 1024 → off + data.length ≤ 32768 →
      ((s1.unit u).st ≠ .run → exec (.dbgWrite h t code off data.length data) s =
        .next (reply h ix 0x050F Status.ok [] (modUnitCores u (fun c => putDebug c off data) s1))) ∧
      ((s1.unit u).st = .run → ∃ k, exec (.dbgWrite h t code off data.length data) s =
        .next (reply h ix 0x050F Status.ok [] (s1.modUnit u fun x => { x with dbgWrites := x.dbgWrites ++ [(k, s1.now, off, data)] })))) ∧
    (∀ k : Word, admitted h 0x0510 s = some (ix, s1) → t ≤ 7 → 1 ≤ n → n ≤ 1024 → off + n ≤ 2048 → s1.cru.snapTick = some k →
      let s2 := touch 0x60 6 (snapshotBase t k + off) n s1
      (cruRead s2 (snapshotBase t k + off) n).2 = false → ∃ out, out.length = n ∧
        exec (.snapshotRead h t 0 off n) s = .next (reply h ix 0x0510 Status.ok out s2))

/-! ### The trio cycle (chapters 09, 11) -/

/-- 11 R286 to R289, Table 11.1, 10 Table 10.1: at a cycle start T_NOW is latched, the cycle counted, the watchdog restarted, and
every executing core begins its program with cleared registers; of a voted trio, on the sample its cores agree on. A watchdog that
has run out halts the unit with cause 6. The trio's voter events and its retentive data stop the machine in no case. -/
def Obligations.TrioCycleStart : Prop :=
  ∀ (at' : Time) (n : Fin 8) (code : Fin 4) (u : Nat) (s : State),
    let s0 := advance at' s
    unitIx n code s = some u → (s.unit u).st = .run → alive s u = true →
    ((s.unit u).inCycle = false → wdtOver u s0 = false →
      ((s.unit u).wdtOn = true → (s.unit u).cycleAt + 1000 * reg s (P.trioCycleMin n) ≤ s0.now) →
      (code = 0 → 2 ≤ (inCores s n).length ∧
        ∀ i ∈ inCores s n, ∀ j ∈ inCores s n, sampleOf s0.now (s.core (coreIx n i)) i [] = sampleOf s0.now (s.core (coreIx n j)) j []) →
      canonical {} s.cores = true → canonical {} s.trios = true →
      ∃ t, exec (.trioCycleStart at' n code [] [] []) s = .next t ∧ (t.unit u).inCycle = true ∧ (t.unit u).st = .run ∧
        (t.unit u).cycle = (s.unit u).cycle + 1 ∧ (t.unit u).cycleAt = s0.now ∧ (t.unit u).wdtAt = s0.now ∧
        t.fio = s.fio ∧ t.cams = s.cams ∧ t.sNow = s.sNow ∧
        ∀ c ∈ running (s.modTrio n fun x => { x with leaving := if code = 0 then 0 else x.leaving }) u, (t.core c).pc = 0 ∧ (t.core c).acc = false ∧ (t.core c).wacc = 0 ∧ (t.core c).ix = 0 ∧
          (t.core c).ls = [] ∧ (t.core c).cs = [] ∧ (t.core c).ended = false ∧ (t.core c).steps = 0 ∧
          (t.core c).tnow = w32 (tNow s0).toNat ∧ (t.core c).st = (s.core c).st) ∧
    (wdtOver u s0 = true →
      ∃ t, exec (.trioWdtExpiry at' n code) s = .next t ∧ (t.unit u).st = .halted ∧ (t.unit u).cause = 6 ∧
        (t.unit u).inCycle = false ∧ sourceActive 29 t = true ∧ t.cores = s.cores ∧ t.fio = s.fio ∧ t.cams = s.cams) ∧
    (∀ (wrong : BitVec 3) (ok : Bool),
      ∀ c ∈ [Instr.voterSuspect at' n, .voterTest at' n wrong, .kcommitDue at' n code, .journalWrite at' n code ok],
        ∃ t, exec c s = .next t)

/-- 09 R237, R238, R242, R245: the vote of three offers takes the value of the two that are equal and names the core that differs,
of two offers only their common value, and nothing else; the majority of three words is bitwise. A core that is blamed leaves IN
for REJOINING with its fault, and one that is OUT stays so; two cores blamed at once halt the trio with cause 3, or with 5 where
one of the blames is a core's third. 09 R247, R250, R251, 11 R296 to R298: a third blame within 1,000 cycles halts the trio as
voter-suspect, cause 5; a voter test feeds a triple whose minority core differs in every bit, is counted, and takes the core of
every wrong copy OUT; retentive data become due, and a journal write replaces the older copy and counts, or leaves it unusable
with FS-035. -/
def Obligations.TrioAgreementEvents : Prop :=
  ((∀ (i j k : Nat) (a b : Nat),
    agreeOn [(i, a), (j, a), (k, b)] = some (a, if a = b then [] else [k]) ∧
    (a ≠ b → agreeOn [(i, a), (j, b), (k, a)] = some (a, [j]) ∧ agreeOn [(i, b), (j, a), (k, a)] = some (a, [i])) ∧
    agreeOn [(i, a), (j, b)] = (if a = b then some (a, []) else none)) ∧
  (∀ (a b c n : Nat), (maj3 a b c).testBit n = ((a.testBit n && b.testBit n) || (a.testBit n && c.testBit n) || (b.testBit n && c.testBit n))) ∧
  (∀ (t k : Nat) (s : State), t < 8 → k < 3 →
    ((blame t k s).core (coreIx t k)).st = (if (s.core (coreIx t k)).st = .inn then .rejoining else (s.core (coreIx t k)).st) ∧
      (blame t k s).units = s.units ∧ (blame t k s).fio = s.fio ∧
    (((blame t k s).src 27).active = true ∨ (s.src 27).held.isSome = true)) ∧
  (∀ (t j k : Nat) (s : State), t < 8 → j < 3 → k < 3 → j ≠ k → (s.unit (4 * t)).st = .run →
    ((blameAll t [j, k] s).unit (4 * t)).st = .halted ∧
    ((blameAll t [j, k] s).unit (4 * t)).cause = (if suspectDue (blame t k (blame t j s)) t then 5 else 3))) ∧
  (∀ (at' : Time) (n : Fin 8) (code : Fin 4) (u : Nat) (wrong : BitVec 3) (tn : Word) (img : Bytes) (s : State),
    let s0 := advance at' s
    (suspectDue s n = true →
      exec (.voterSuspect at' n) s = .next (haltUnit (4 * n) 5 s0) ∧
      ∃ t, exec (.voterSuspect at' n) s = .next t ∧ (t.unit (4 * n)).st = .halted ∧ (t.unit (4 * n)).cause = 5 ∧
        (t.trio n).suspect = true ∧ sourceActive 29 t = true ∧ sourceActive 30 t = true ∧ t.cores = s.cores ∧ t.cams = s.cams) ∧
    ((s.trio n).split = false → (s.unit (4 * n)).inCycle = true → alive s (4 * n) = true → cycleNo (s.unit (4 * n)) % 10000 = 0 →
      (s.trio n).testedAt ≠ some (cycleNo (s.unit (4 * n))) →
      let tested : State := s0.modTrio n fun y => { y with
        vtests := y.vtests + 1, vtestOk := wrong = 0, failed := y.failed ||| wrong, forced := y.forced ||| wrong
        testedAt := some (cycleNo (s.unit (4 * n))), leaving := wrong }
      exec (.voterTest at' n wrong) s = .next (settleCycle (4 * n) (((List.range 3).filter wrong.getLsbD).foldl
        (fun x k => coreOut n k (detect 31 (locBlock x dieSoc (0x40 + n)) x))
        (if wrong = 0 then tested else unreadmit n tested)))) ∧
    (∀ m, let x := testTriple m
      (x.1 ^^^ x.2.1 = 0 ∨ x.1 ^^^ x.2.1 = 0xFFFFFFFF) ∧ testPasses m (testAnswer x) = true ∧
      (testMinority m = 0 → x.2.1 = x.2.2) ∧ (testMinority m = 1 → x.1 = x.2.2) ∧ (testMinority m = 2 → x.1 = x.2.1)) ∧
    (unitIx n code s = some u →
      ((s.unit u).code ≠ [] → (s.unit u).kAt + ms (10 * reg s (P.trioKcommit n)) ≤ s0.now →
        exec (.kcommitDue at' n code) s = .next (s0.modUnit u fun x => { x with kDue := true })) ∧
      ((s.unit u).kStage = some (tn, img) →
        exec (.journalWrite at' n code true) s = .next (countReg ((putJournal u (b2n (s.unit u).kCopy)
          (journalRecord u ((s.unit u).kSeq + 1) tn img) (s0.modUnit u fun x => { x with kStage := none })).modUnit u fun x =>
            { x with kSeq := (s.unit u).kSeq + 1, kCopy := !(s.unit u).kCopy, kLast := some img }) P.trioKcommits) ∧
        (canonical {} s.units = true → ∃ t, exec (.journalWrite at' n code false) s = .next t ∧ (t.unit u).kSeq = (s.unit u).kSeq ∧
          t.regs = (satField s P.trioKjFaults 15 0 1).regs ∧ ((t.src 35).active = true ∨ (s.src 35).held.isSome = true) ∧
          t.cores = s.cores ∧ t.cams = s.cams))))

/-! ### Field I/O (chapter 12) -/

/-- 12 R314, R315, 09 R236, 01 R15, 20 R507: a valid input frame brings the die's image to every core's input register; a bad one is
counted and discarded; a supply beyond 40 V is beyond the absolute maximum ratings. A good command frame is taken and every output
evaluated, after the heartbeat's expiry where that is due; a bad one is counted, raised, and changes no output. 200 µs without a valid frame clear the inputs, with FS-054. -/
def Obligations.FieldLink : Prop :=
  ∀ (at' : Time) (raw : BitVec 32) (rb : BitVec 16) (l1 l2 : Nat) (ok : Bool) (s : State),
    let s0 := advance at' s
    (l1 ≤ 40000 → l2 ≤ 40000 → dieUp s = true → socUp s = true → canonical {} s.cores = true →
      let d := dieSample raw rb l1 l2 s0
      (∃ t, exec (.inputImageFrame at' raw rb l1 l2 true) s = .next t ∧ t.fio = d.fio ∧ t.iol.image = d.fio.image ∧
        t.iol.frame = dieFrame d ∧ t.iol.lost = false ∧ t.iol.frameAt = s0.now ∧ (∀ c < 24, (t.core c).inI = d.fio.image) ∧ t.cams = s.cams ∧
        t.units = s.units) ∧
      exec (.inputImageFrame at' raw rb l1 l2 false) s = .next (satField d P.fioLinkErr 31 16 1)) ∧
    ((40000 < l1 ∨ 40000 < l2) → exec (.inputImageFrame at' raw rb l1 l2 ok) s = .fault .absoluteMaximum) ∧
    (dieUp s = true → socUp s = true →
      exec (.outputCommandFrame at' true) s = .next (forOutputs evalOutput (takeFields (meetExpiry s0))) ∧
      exec (.outputCommandFrame at' false) s =
        .next (detect 53 (locBlock s dieFio 0x44) (satField s0 P.fioLinkErr 15 0 1))) ∧
    (s.iol.lost = false → socUp s = true → s.iol.frameAt + us 200 ≤ s0.now → canonical {} s.cores = true →
      ∃ t, exec (.ioLinkLoss at') s = .next t ∧ t.iol.lost = true ∧ t.iol.image = 0 ∧ (∀ c < 24, (t.core c).inI = 0) ∧
        sourceActive 54 t = true ∧ t.fio = s.fio ∧ t.units = s.units ∧
        ((instant s0).tracks = none → (instant s0).commits = [] → t.regs = s.regs))

/-- 12 R319, R321 to R326: a change of an input is reported as EV-010; a pair that stays in discrepancy loses its value, counted,
with FS-038; a test-pulse window in its slot masks its inputs for 500 µs, and an input that reads high 350 µs into it has a test
fault; an encoder counts a legal transition by its direction and faults on an illegal one. 12 R330 to R336, Table 12.2: an
overload switches the output OFF and latches, or waits one second and tries again; a high readback of an OFF output opens its
group and is classified 2 ms later; the dark and bright tests of an output end without effect, or with their faults; a feedback
that does not come is latched; an overcurrent opens the group. -/
def Obligations.FieldSignals : Prop :=
  (∀ (at' : Time) (i : Fin 32) (k : Fin 16) (n : Fin 4) (ch : Fin 2) (a b : Bool) (before mid after : BitVec 32) (s : State),
    let s0 := advance at' s
    let sent : State := s0.modIn i fun x => { x with evtDue := false, merged := 0, evtAt := some s0.now }
    ((s.fin i).evtDue = true → s.clk.sp = .running → (∀ u, (s.fin i).evtAt = some u → u + ms 1 ≤ s0.now) →
      exec (.inputChangeEvent at' i) s = .next (raiseEvent 10 0
        [i, b2n (inValue sent i), b2n ((s.fin i).merged ≠ 0), min (s.fin i).merged 65535, (s.fin i).evtSample % 2 ^ 32] sent)) ∧
    (discDue k s0 = true → ∃ t, exec (.inputDiscrepancy at' k) s = .next t ∧ (t.fpair k).disc = true ∧ (t.fpair k).value = false ∧
      t.regs = (satField s P.fioCountIn 23 16 1).regs ∧ sourceActive 38 t = true ∧ t.fio.outs = s.fio.outs ∧ t.fio.ins = s.fio.ins ∧
      t.units = s.units) ∧
    (dieUp s = true → s.fio.l1Low = false → windowDue n s0 = true → s.inst.at' < s0.now → canonical {} s.fio.ins = true → ∃ t,
      exec (.testPulseWindow at' n a before mid after) s = .next t ∧
      t.fio.window = some { n := n, start := s0.now, pinOk := a, before := before, mid := mid, after := after } ∧
      (∀ j < 32, inTp s.fio.record j = n.val + 1 → (t.fin j).maskTo = s0.now + us 500 ∧ (t.fin j).filt = (s.fin j).filt) ∧
      t.fio.outs = s.fio.outs ∧ t.fio.record = s.fio.record ∧ t.cores = s.cores ∧ t.units = s.units) ∧
    (∀ w, s.fio.window = some w → w.midDone = false → w.start + us 350 ≤ s.now → canonical {} s.fio.ins = true →
      ∀ j < 32, inTp s.fio.record j = w.n + 1 → (s.fin j).filt = true → w.mid.getLsbD j = true →
        ((judgeTests s).fin j).testFault = true) ∧
    (pairMode s.fio.record (14 + ch) = 3 → s.fio.l1Low = false → canonical {} s.fio.encs = true →
      let e := s.fenc ch
      (e.a = a ∨ e.b = b → ∃ t, exec (.encoderEdge at' ch a b) s = .next t ∧ (t.fenc ch).a = a ∧ (t.fenc ch).b = b ∧
        (t.fenc ch).count = w32i (e.count.toInt + quadStep e.a e.b a b) ∧ (t.fenc ch).faulted = e.faulted ∧ t.flt = s.flt ∧
        t.fio.outs = s.fio.outs ∧ t.regs = s.regs) ∧
      (e.a ≠ a → e.b ≠ b → ∃ t, exec (.encoderEdge at' ch a b) s = .next t ∧ (t.fenc ch).faulted = true ∧
        (t.fenc ch).count = e.count ∧ sourceActive 42 t = true ∧ t.regs = s.regs))) ∧
  (∀ (at' : Time) (q : Fin 16) (g : Fin 4) (mA u : Nat) (high : Bool) (s : State),
    let s0 := advance at' s
    let o := s.fout q
    (o.drive = true → o.test ≠ some true →
      (qSafety s q = true ∨ bitAt (qCfg s.fio.record q) 4 = false →
        exec (.outputOverload at' q true) s = .next (forceOff q (latchQ q 43 7 0 s0))) ∧
      (qSafety s q = false → bitAt (qCfg s.fio.record q) 4 = true → exec (.outputOverload at' q true) s =
        .next (detect 43 (locBlock s dieFio (0x20 + q)) (satField
          (forceOff q (s0.modOut q fun x => { x with retryAt := some (s0.now + ms 1000) })) P.fioCountQ 7 0 1)))) ∧
    (o.retryAt = some u → u ≤ s0.now →
      exec (.overloadRetry at' q) s =
        .next (evalOutput q (settle 43 ((meetExpiry s0).modOut q fun x => { x with retryAt := none })))) ∧
    (o.drive = false → o.rb = true → o.test = none → o.latched.contains 44 = false → o.switchedAt + qRbTime s.fio.record q ≤ s0.now →
      exec (.externalDrive at' q) s = .next ((latchQ q 44 15 8 (openGroup (q / 4) s0)).modOut q fun x =>
        { x with classifyAt := some (s0.now + ms 2), external := none })) ∧
    (o.classifyAt = some u → u ≤ s0.now → exec (.externalDriveClassify at' q high) s =
      .next (s0.modOut q fun x => { x with classifyAt := none, external := some high, rb := high })) ∧
    (heartbeatDue s0 = false → testDue q s0 = true → o.test = none →
      let begun (dark : Bool) : State :=
        { s0.modOut q (fun x => { x with test := some dark, testAt := s0.now }) with fio :=
          { (s0.modOut q fun x => { x with test := some dark, testAt := s0.now }).fio with lastTest := some (q.val, s0.now) } }
      (o.drive = true → (qSafety s q = true ∨ bitAt (qCfg s.fio.record q) 2 = true) → o.switchedAt + ms 1 ≤ s0.now →
        exec (.darkTest at' q) s = .next (begun true)) ∧
      (o.drive = false → bitAt (qCfg s.fio.record q) 3 = true → outsReleased s = true → qClear s q = true → o.offAt ≠ some s0.now →
        exec (.brightTest at' q) s = .next (begun false))) ∧
    (heartbeatDue s0 = false → o.testAt + qDark s.fio.record q ≤ s0.now →
     let s1 := s0.modOut q fun x => { x with test := none, switchedAt := s0.now }
     (o.test = some true → exec (.darkTestEnd at' q true) s = .next s1 ∧
       exec (.darkTestEnd at' q false) s = .next (latchQ q 45 31 24 (openGroup (q / 4) s1))) ∧
     (o.test = some false → exec (.brightTestEnd at' q true) s = .next s1 ∧
       exec (.brightTestEnd at' q false) s = .next (latchQ q 46 31 24 s1))) ∧
    (feedbackDue q s0 = true → ∃ t, exec (.feedbackTimeout at' q) s = .next t ∧ (o.drive = false → (t.fout q).fbWait = none) ∧
      47 ∈ (t.fout q).latched ∧
      (t.fout q).drive = false ∧ t.regs = (satField s P.fioCountQ 23 16 1).regs ∧ t.units = s.units ∧ t.cores = s.cores) ∧
    ((s.fgrp g).closed = true → (3500 < mA ∨ (2200 < mA ∧ 10000 ≤ u)) → exec (.groupOvercurrent at' g mA u) s =
      .next (detect 48 (locBlock s dieFio (0x30 + g)) (openGroup g (s0.modGroup g fun x => { x with fault := true })))))

/-- 12 R328, R338 to R342, 15 R416, R417, 20 R507: what forces the safety outputs OFF does so at once, and they then wait to
rearm: L2P low, an expired heartbeat, the Quench line. L1P low clears no output. Supplies and heartbeat return as stated. 12 R344,
R346, R529, 17 R444, 18 Table 18.1, 20 R516, R523: the safety I/O record and the die: a record is checked, stored and sent to the
die, where it takes effect with the filters set afresh; the die's self-test, its over-temperature and its supply switch every
driver off; an acknowledgement clears what has no cause left and closes a group whose outputs all read low. -/
def Obligations.FieldSafetyDie : Prop :=
  (∀ (at' : Time) (mv : Nat) (raw : BitVec 32) (seq : Byte) (l2 : Bool) (s : State), canonical {} s.fio.outs = true →
    let s0 := advance at' s
    let off (t : State) : Prop := ∀ q < 16, qSafety s q = true → (t.fout q).drive = false ∧ (t.fout q).rearm = true
    (s.fio.l1Low = false → mv < l1Min s.fio.record → borneOut (decide (s.fio.l1mv < l1Min s.fio.record)) s0 = true → ∃ t, exec (.l1pLow at' mv) s = .next t ∧ t.fio.l1Low = true ∧
      sourceActive 49 t = true ∧ t.fio.outs = s.fio.outs ∧ t.regs = s.regs) ∧
    (s.fio.l1Low = true → l1Min s.fio.record + 500 < mv → mv ≤ 40000 → s.fio.l1BadAt + ms 10 ≤ s0.now →
      exec (.l1pRecover at' mv raw) s = .next (settle 49 (setFilters raw { s0 with fio :=
        { s0.fio with l1Low := false, l1mv := mv, measuredAt := some s0.now, raw := raw } }))) ∧
    (s.fio.l2Low = false → mv < l2Min s.fio.record → borneOut (decide (s.fio.l2mv < l2Min s.fio.record)) s0 = true → ∃ t, exec (.l2pLow at' mv) s = .next t ∧ t.fio.l2Low = true ∧ off t ∧
      sourceActive 50 t = true ∧ t.regs = s.regs ∧ t.units = s.units) ∧
    (s.fio.l2Low = true → l2Min s.fio.record + 500 < mv → mv ≤ 40000 → s.fio.l2BadAt + ms 10 ≤ s0.now →
      exec (.l2pRecover at' mv) s =
        .next (settle 50 { s0 with fio := { s0.fio with l2Low := false, l2mv := mv, measuredAt := some s0.now } })) ∧
    (32000 < mv → mv ≤ 40000 → borneOut (decide (32000 < if l2 then s.fio.l2mv else s.fio.l1mv)) s0 = true → ∃ t, exec (.fieldOvervoltage at' l2 mv) s = .next t ∧
      (if l2 then t.fio.l2Over else t.fio.l1Over) = true ∧ t.fio.outs = s.fio.outs ∧ t.regs = s.regs) ∧
    (40000 < mv → exec (.fieldOvervoltage at' l2 mv) s = .fault .absoluteMaximum ∧
      exec (.l1pRecover at' mv raw) s = .fault .absoluteMaximum ∧ exec (.l2pRecover at' mv) s = .fault .absoluteMaximum) ∧
    (socUp s = true → exec (.heartbeatSend at') s = .next { s0 with iol := { s0.iol with
      hbSent := some (s.iol.hbNext, s.flt.quench), hbNext := s.iol.hbNext + 1 } }) ∧
    (s.iol.hbSent = some (seq, false) → s.fio.shut = false → s.fio.record ≠ [] → heartbeatDue s0 = false → (∀ p, s.fio.hbSeq = some p → seq = p + 1) →
      ∃ t, exec (.heartbeatAccept at' seq true false) s = .next t ∧ t.fio.hbSeq = some seq ∧ t.fio.hbAt = s0.now ∧
        t.fio.hbRun = min 4 (s.fio.hbRun + 1) ∧ t.fio.hbExpired = (s.fio.hbExpired && decide (s.fio.hbRun + 1 < 4)) ∧
        t.iol.hbSent = none ∧ t.regs = s.regs ∧ t.units = s.units) ∧
    (heartbeatDue s0 = true → ∃ t, exec (.heartbeatExpiry at') s = .next t ∧ t.fio.hbExpired = true ∧ t.fio.hbRun = 0 ∧
      (outsReleased s = true → off t) ∧ outsReleased t = false ∧ sourceActive 52 t = true ∧
      t.regs = (satField s P.fioHbExpiries 15 0 1).regs ∧ t.units = s.units) ∧
    (s.flt.quench = true → ∃ t, exec (.quenchLineChange at' 2) s = .next t ∧ t.fio.quench = true ∧ off t ∧ t.flt = s.flt ∧
      t.regs = s.regs) ∧
    (s.flt.quench = false → exec (.quenchLineChange at' 1) s =
      .next (causeGone 85 { s0 with fio := { s0.fio with quench := false } })) ∧
    (∃ t, exec (.quenchLineChange at' 3) s = .next t ∧ t.fio.quench = true ∧ off t ∧ sourceActive 85 t = true)) ∧
  (∀ (h : Hdr) (at' : Time) (ix : Nat) (rcd : Bytes) (raw : BitVec 32) (dflt : Bool) (c : Int) (s s1 : State),
    let s0 := advance at' s
    (admitted h 0x0601 s = some (ix, s1) → rcd.length = 336 → crcEmbeddedOk rcd 4 = true → fioFieldsOk rcd = true →
      qOwnersBusy s1 = false → exec (.fioLoad h rcd) s = .next (reply h ix 0x0601 Status.ok []
        (recheck ((storeObj kFioRecord 0 rcd s1).modFio fun x => { x with recordNext := some (rcd, false) })))) ∧
    (admitted h 0x0602 s = some (ix, s1) → s1.fio.record ≠ [] →
      exec (.fioRead h) s = .next (reply h ix 0x0602 Status.ok s1.fio.record s1)) ∧
    (admitted h 0x0603 s = some (ix, s1) → canonical {} s1.fio.outs = true → canonical {} s1.fio.groups = true →
      ∃ out t, exec (.fioAck h) s = .next (reply h ix 0x0603 Status.ok out t) ∧
        (∀ q < 16, (s1.fout q).latched = [43] → (t.fout q).latched = []) ∧
        (∀ q < 16, (s1.fout q).latched = [44] → (s1.fout q).rb = true → (t.fout q).latched = [44]) ∧
        (∀ g < 4, (∀ j < 4, (s1.fout (4 * g + j)).rb = false) → (t.fgrp g).closed = true) ∧
        (∀ g < 4, ∀ j < 4, (s1.fout (4 * g + j)).rb = true → (t.fgrp g).closed = (s1.fgrp g).closed) ∧ t.regs = s1.regs ∧
        t.units = s1.units) ∧
    (s.fio.recordNext = some (rcd, dflt) → exec (.fioRecordApply at' raw) s = .next (remeasure (refreshFio (setFilters raw
      { s0 with fio := { s0.fio with record := rcd, recordNext := none, isDefault := dflt, raw := raw } })))) ∧
    (s.fio.mode = 1 → s.fio.testFailed = false → s.fio.tested = false →
      exec (.fioSelftestComplete at' true) s = .next (refreshFio { s0 with fio :=
        { s0.fio with tested := true, deferred := s.fio.l2Low } }) ∧
      ∃ t, exec (.fioSelftestComplete at' false) s = .next t ∧ t.fio = { s.fio with testFailed := true } ∧ sourceActive 88 t = true ∧
        t.regs = s.regs) ∧
    (s.fio.shut = false → canonical {} s.fio.outs = true →
      (155 ≤ c → c ≤ 165 → ∃ t, exec (.fioDriverShutdown at' c) s = .next t ∧ t.fio.shut = true ∧
        (∀ q < 16, (t.fout q).drive = false) ∧ sourceActive 86 t = true ∧ sourceActive 87 t = true) ∧
      (∃ t, exec (.fioInternalSupplyTrip at') s = .next t ∧ t.fio.shut = true ∧ (∀ q < 16, (t.fout q).drive = false) ∧
        sourceActive 87 t = true ∧ t.regs = s.regs)) ∧
    (c < 140 → exec (.fioDriverShutdown at' c) s = .next (causeGone 86 (setReg s0 P.fioTemp (wrapN 32 c)))) ∧
    (165 < c → exec (.fioDriverShutdown at' c) s = .fault .absoluteMaximum))

/-! ### Erg Link (chapter 13) -/

/-- 13 R356, R373, R374, 14 Table 14.10: a schedule and a signal map are checked and stored; a map needs no voted trio in RUN or
DEBUG; a join takes the stored schedule into force and starts from LISTEN, and leaving goes back to LISTEN. What the unit does at its
own times stops the machine in no state. -/
def Obligations.ErgCommands : Prop :=
  ∀ (h : Hdr) (part : BulkPart) (ix : Nat) (bs : Bytes) (s s1 s2 : State),
    (admitted h 0x0701 s = some (ix, s1) → bulkStep 0x0701 part s1 = .whole 0 bs s2 → 32 ≤ bs.length → crcEmbeddedOk bs 4 = true →
      schedOk bs = true → s2.erg.st ≠ .running → s2.erg.st ≠ .leading →
      exec (.ergSchedLoad h part) s = .next (reply h ix 0x0701 Status.ok [] (storeObj kSched 0 bs s2))) ∧
    (admitted h 0x0702 s = some (ix, s1) → bulkStep 0x0702 part s1 = .whole 0 bs s2 → bs.length = 16480 →
      crcEmbeddedOk bs 4 = true → mapFieldsOk bs = true → mapFits (judgeSched s2) (deviceNo s2) bs = true → votedActive s2 = false →
      exec (.ergMapLoad h part) s = .next (reply h ix 0x0702 Status.ok [] (recheck
        ((storeObj kMap 0 bs s2).modErg fun e => { e with map := bs, mapBad := false })))) ∧
    (admitted h 0x0703 s = some (ix, s1) → (s1.erg.st = .listen ∨ s1.erg.st = .silent ∨ s1.erg.st = .holdover) →
      ∃ t, exec (.ergJoin h) s = .next (reply h ix 0x0703 Status.ok [1] t) ∧ t.erg.st = .listen ∧ t.erg.sched = storedSched s1 ∧
        t.erg.syncRun = 0 ∧ t.regs = s1.regs ∧ t.tick = s1.tick ∧ t.units = s1.units) ∧
    (admitted h 0x0703 s = some (ix, s1) → (s1.erg.st = .off ∨ s1.erg.st = .running ∨ s1.erg.st = .leading ∨ s1.erg.st = .syncing) →
      exec (.ergJoin h) s = .next (reply h ix 0x0703 Status.wrongState [] s1)) ∧
    (admitted h 0x0704 s = some (ix, s1) → (s1.erg.st = .running ∨ s1.erg.st = .leading) →
      ∃ t, exec (.ergLeave h) s = .next (reply h ix 0x0704 Status.ok [] t) ∧ t.erg.st = .listen ∧ t.regs = s1.regs ∧
        t.tick = s1.tick ∧ t.units = s1.units) ∧
    (∀ (t0 : Time) (n : Nat) (off : Int) (b up bad : Bool),
      ∀ c ∈ [Instr.yCapture t0 n, .slotTransmit t0 n off bad, .guardianCutoff t0 n, .claimTransmit t0, .slotMiss t0 n, .xStale t0 n,
          .ergRunningEntry t0, .ergHoldover t0, .guardianHoldover t0, .leadConflictEnd t0, .grantWithdraw t0 n, .ringOpen t0 b,
          .ergPortLink t0 b up bad, .ergCableMeasure t0 b n, .ergJoinTimeout t0], ∃ t, exec c s = .next t)

/-- 13 R353, R354, R359, R371, R372, R375 to R379: a frame that is not valid in the slot and the cycle that the receiver expects
is counted, and one out of its window is counted late; the first valid frame of a slot in its window, come before the slot is
decided as missed, is taken, and a copy of it changes nothing: DATA delivers its signals, NULL counts and misses them, a claim is
granted at the lead, a SERVICE packet goes to the service processor, in a ring once its copy has come. The slot expected is the
one whose expected stamp is nearest (log 216), the decision reckons with the distance of log 218, and a packet waits for its copy
as log 219 says. 13 R354, R359, R363, R366, R367: an invalid sync is counted; a lead that receives another lead's sync goes silent
for 8 cycles with FS-059, and counts it as late where it lies out of its window; a silent module takes none; a sync of the
schedule and the rate of a listening worker moves it to SYNCING. -/
def Obligations.ErgFramesSync : Prop :=
  (∀ (at' : Time) (b : Bool) (stamp : Int) (f : ErgFrame) (s : State),
    let s1 := useChannel 0x5A 2 2 (forwardFrame b stamp f (advance at' s))
    let k := expectedSlot stamp f.hops.toNat s1
    let s2 := hearPort b s1
    let s3 := notePath b f s2
    let s4 := keepGrant k s3
    let base (take : State → State) (t : State) : Prop :=
      let s5 := s4.modErg fun e => { e with accepted := tset none e.accepted k (some f.fcs), undo := some (undoOf k e) }
      t = take (hearDevice f.sender.toNat { s5 with inst := { instant s5 with ergRx := some (b, k) } })
    portUsable (ergPort b s) = true → s.erg.st ≠ .off → examines s1 = true → s.erg.heldService = none →
    (frameValid k f s1 = false →
      (f.ftype = 1 → exec (.dataFrameRx at' b stamp f) s = .next (countReg s1 P.ergCrcErr)) ∧
      (f.ftype = 2 → exec (.nullFrameRx at' b stamp f) s = .next (countReg s1 P.ergCrcErr)) ∧
      (f.ftype = 3 → exec (.claimFrameRx at' b stamp f) s = .next (countReg s1 P.ergCrcErr)) ∧
      (f.ftype = 4 → exec (.serviceFrameRx at' b stamp f) s = .next (countReg s1 P.ergCrcErr))) ∧
    (frameValid k f s1 = true → f.sender.toNat ≠ s.erg.device →
      let inTime := inErgWindow s2.erg.cycleNs stamp (10 * slotStart s2.erg.sched k + (f.hops.toNat + 1) * 1280) s2
      (inTime = false →
        (f.ftype = 1 → exec (.dataFrameRx at' b stamp f) s = .next (countReg s2 P.ergLate)) ∧
        (f.ftype = 2 → exec (.nullFrameRx at' b stamp f) s = .next (countReg s2 P.ergLate)) ∧
        (f.ftype = 3 → exec (.claimFrameRx at' b stamp f) s = .next (countReg s2 P.ergLate)) ∧
        (f.ftype = 4 → exec (.serviceFrameRx at' b stamp f) s = .next (countReg s2 P.ergLate))) ∧
      (inTime = true → s2.erg.missed.contains k = false → stamp + frameNs f < missNs s3.erg.cycleNs k s3 →
        (tget none s2.erg.accepted k = some f.fcs → f.ftype = 1 → exec (.dataFrameRx at' b stamp f) s = .next s3) ∧
        (tget none s2.erg.accepted k = none →
          (f.ftype = 1 → ∃ t, exec (.dataFrameRx at' b stamp f) s = .next t ∧ base (deliver k f.payload) t) ∧
          (f.ftype = 2 → ∃ t, exec (.nullFrameRx at' b stamp f) s = .next t ∧
            base (fun x => missSlot k (countReg x P.ergNullRx)) t) ∧
          (f.ftype = 3 → ∃ t, exec (.claimFrameRx at' b stamp f) s = .next t ∧ base (takeClaim f.payload) t) ∧
          (f.ftype = 4 → ∃ t, exec (.serviceFrameRx at' b stamp f) s = .next t ∧ base (takeServiceSlot b k f.payload) t))))) ∧
  (∀ (at' : Time) (b : Bool) (stamp : Int) (f : ErgFrame) (s : State),
    let s1 := useChannel 0x5A 2 2 (forwardFrame b stamp f (advance at' s))
    let s2 := hearPort b s1
    portUsable (ergPort b s) = true → s.erg.st ≠ .off → f.ftype = 0 → s.erg.heldService = none →
    (syncValid f s1 = false → exec (.syncFrameRx at' b stamp f) s = .next (countReg s1 P.ergCrcErr)) ∧
    (syncValid f s1 = true →
      (s.erg.st = .silent → exec (.syncFrameRx at' b stamp f) s = .next s2) ∧
      (s.erg.st = .leading → s.erg.role = 1 → syncSerial f.payload ≠ s.upd.serial → syncTakeover f.payload = false →
        ∃ t, exec (.syncFrameRx at' b stamp f) s = .next t ∧ t.erg.st = .silent ∧ t.erg.silentCause = 1 ∧ t.erg.silentLeft = 8 ∧
          t.erg.otherSerial = syncSerial f.payload ∧ sourceActive 59 t = true ∧
          t.regs = (lateSync f stamp s2).regs ∧ t.tick = s.tick) ∧
      (s.erg.st = .listen → s.erg.role = 2 → f.sender.toNat ≠ s.erg.device → s.erg.mapBad = false → syncAgrees f.payload s = true →
        f.cycle ≠ s.erg.cycle →
        ∃ t, exec (.syncFrameRx at' b stamp f) s = .next t ∧ t.erg.st = .syncing ∧ t.erg.cycle = f.cycle ∧
          t.erg.leadSerial = syncSerial f.payload ∧ t.erg.syncMiss = 0 ∧
          t.erg.syncRun = (if consistent f stamp (s2.modErg fun e => { e with mismatch := false }) then s.erg.syncRun + 1 else 0) ∧
          (s.tick.source ≠ 2 → t.regs = s.regs) ∧ t.units = s.units)))

/-- 13 R358, R361, R363 to R365, R369 to R372, R375, R376: what the unit does at its own times: it captures 5 µs before the start
of a slot that it owns and transmits at that start, and only within 0.25 µs of the guardian's; it is silent from 0.25 µs after the
frame time on; it claims; a slot without a frame at its decision misses its signals, a stale one takes its substitute; three
missed syncs, or three suppressed cycles, bring it to HOLDOVER; RUNNING begins after three consistent syncs. The guardian's own
drift is the command's operand (log 214), and the decision reckons with the distance of log 218. 13 R349, R351, R364, R366, R371,
R377: the lower serial number leads after a conflict; a grant not used for 256 cycles is withdrawn; a port without a valid frame
for 16 cycles, a cable over 100 ns and a wrong peer are faults; a start-up that waits for the Caravan goes on after its limit. -/
def Obligations.ErgTimingUpkeep : Prop :=
  (∀ (at' : Time) (n : Nat) (off : Int) (bad : Bool) (s : State),
    let s0 := advance at' s
    (transmits s = true → ownsSlot n s = true → slotType s.erg.sched n = slotData → atEdgeOf (startNs n s0 - 5000) s0 = true →
      tget none s.erg.capture n = none →
      ∃ t p, exec (.yCapture at' n) s = .next t ∧ t.erg.capture = tset none s.erg.capture n (some p) ∧ t.regs = s.regs ∧ t.cores = s.cores ∧ t.erg.st = s.erg.st ∧ t.erg.tx = s.erg.tx) ∧
    (transmits s = true → ownsSlot n s = true → s.erg.onWire.contains n = false → tget none s.erg.sentFcs n = none →
      atEdgeOf (startNs n s0) s0 = true →
      (-250 < guardOffset n off s0 → guardOffset n off s0 < 250 →
        exec (.slotTransmit at' n off bad) s = .next (sendFrame (dueFrame n bad s0).1 (dueFrame n bad s0).2)) ∧
      (guardOffset n off s0 ≤ -250 ∨ 250 ≤ guardOffset n off s0 → exec (.slotTransmit at' n off bad) s =
        .next (detect 56 (locErg s) ((satField s0 P.ergGuardCuts 15 0 1).modErg fun e => { e with cutNow := true })))) ∧
    exec (.guardianCutoff at' n) s = .next (if guardStart n s0 + slotNs n s0 + 250 ≤ 10 * (s0.now : Int) then
      { s0 with erg := { s0.erg with
          onWire := s.erg.onWire.filter (· ≠ n), tx := s.erg.tx.map (silence (10 * (s0.now : Int)) s.erg.device n) } }
      else s0) ∧
    (∀ k ks, slotsOf s.erg.sched slotClaim = k :: ks → s.erg.st = .running → s.erg.claimWait = 0 → s.erg.claimOut = false →
      tget none s.erg.sentFcs k = none → atEdgeOf (startNs k s0) s0 = true →
      ((spareOf s.erg.sched s.erg.device).any fun m => decide (grantedTo s.erg.grants m ≠ some s.erg.device)) = true →
      ∃ t fr, exec (.claimTransmit at') s = .next t ∧ t.erg.tx.head? = some fr ∧ fr.frame.ftype = 3 ∧ fr.frame.slot = BitVec.ofNat 16 k ∧
        t.erg.claimOut = true ∧ t.regs = s.regs) ∧
    (s.erg.st ≠ .off → n < schedSlots s.erg.sched → n ≠ 0 → tget none s.erg.accepted n = none → n ∉ s.erg.missed →
      ownsSlot n s = false → s.erg.heldService = none → missNs s.erg.cycleNs n s ≤ 10 * (s0.now : Int) → exec (.slotMiss at' n) s =
        .next (missSlot n { s0 with erg := { s0.erg with missed := insertNat n s.erg.missed } })) ∧
    (∃ t, exec (.xStale at' n) s = .next t ∧ (slotAngles n s0 = [] → t.regs = s.regs ∧ t.flt = s.flt) ∧ t.erg.map = s.erg.map ∧
      ∀ x ∈ slotX n s, staleLimit (fld (mapRxX s.erg.map x) 26 23) ≤ tget 0 s.erg.xMiss x → x < 2048 →
        t.erg.xq.getLsbD x = false ∧ t.erg.x.getLsbD x = bitAt (mapRxX s.erg.map x) 22) ∧
    (s.erg.st = .syncing → 3 ≤ s.erg.syncRun → s.erg.joinWait = false → s.erg.cycleNs + cyclePeriod s ≤ 10 * (s0.now : Int) + 10 →
      ∃ t, exec (.ergRunningEntry at') s = .next t ∧ t.erg.st = .running ∧ t.erg.cycle = s.erg.cycle + 1 ∧ t.tick.count = s.tick.count ∧
        t.units = s.units) ∧
    (s.erg.st = .running → 3 ≤ s.erg.syncMiss → s.erg.role = 2 → ∃ t, exec (.ergHoldover at') s = .next t ∧ t.erg.st = .holdover ∧
      (s.tick.source = 2 → t.tick.holdover = true ∧ t.tick.locked = false) ∧ sourceActive 58 t = true ∧ t.units = s.units) ∧
    (transmits s = true → 3 ≤ s.erg.cutRun + b2n s.erg.cutNow → ∃ t, exec (.guardianHoldover at') s = .next t ∧
      t.erg.st = .holdover ∧ sourceActive 58 t = true ∧ t.units = s.units)) ∧
  (∀ (at' : Time) (n : Nat) (b up badPeer : Bool) (s : State),
    let s0 := advance at' s
    (s.erg.st = .silent → s.erg.silentCause = 1 → s.erg.silentLeft = 0 → s.upd.serial.toNat < s.erg.otherSerial.toNat →
      ∃ t, exec (.leadConflictEnd at') s = .next t ∧ t.erg.st = .leading ∧ t.erg.cycle = s.tick.count ∧ t.regs = s.regs ∧
        t.tick = s.tick) ∧
    (s.erg.st = .leading → 256 ≤ tget 0 s.erg.grantIdle n → tget none s.erg.accepted n = none →
      ∃ t, exec (.grantWithdraw at' n) s = .next t ∧
      t.erg.grants = s.erg.grants ∧ t.erg.grantIdle = tset 0 s.erg.grantIdle n 0 ∧ t.regs = s.regs ∧ t.flt = s.flt) ∧
    (s.erg.st ≠ .off → schedRing s.erg.sched = true → 16 ≤ (ergPort b s).idle → ∃ t, exec (.ringOpen at' b) s = .next t ∧
      sourceActive 62 t = true ∧ t.erg = s.erg ∧ t.regs = s.regs) ∧
    (s.st.inReset = false → s.erg.st ≠ .off → ∃ t, exec (.ergPortLink at' b up badPeer) s = .next t ∧ (ergPort b t).up = up ∧
      (ergPort b t).fault = ((up && badPeer) || decide (100 < (ergPort b s).cableNs)) ∧ ergPort (!b) t = ergPort (!b) s ∧
      (up = true ∨ (instant s0).ergRx = none → t.regs = s.regs)) ∧
    (echoDue (ergPort b s) = true → ∃ t, exec (.ergCableMeasure at' b n) s = .next t ∧ (ergPort b t).cableNs = n ∧
      (ergPort b t).fault = ((ergPort b s).badPeer || decide (100 < n)) ∧ ergPort (!b) t = ergPort (!b) s ∧ t.regs = s.regs) ∧
    (s.erg.joinWait = true → s.erg.joinAt + ms (10 * reg s P.ergJoinWait) ≤ s0.now →
      exec (.ergJoinTimeout at') s = .next (beginCameraStart { s0 with erg := { s0.erg with joinWait := false } })))

/-! ### Authentication, firmware update and the life cycle (chapter 19) -/

/-- 19 R484: SVC_CHALLENGE issues 16 fresh bytes (free values) and the serial number, unless the link is locked out; SVC_AUTH
consumes the NONCE: the right response authenticates the session, a wrong one is DENIED and counted, and the third in a row on a
link locks it out for 60 s; a NONCE ends after 10 s. 19 R501 to R505, 14 Table 14.11: LC_READ reports; LC_ADVANCE blows the
customer key's hash and DEPLOY; LC_RETURN resets the module with the return to come and the customer key revoked; LC_SCRAP leaves
an empty MRAM and a key of ones; a command whose conditions fail changes nothing. -/
def Obligations.AuthenticationLifeCycle : Prop :=
  (∀ (h : Hdr) (at' : Time) (ix : Nat) (session : Fin 5) (link : Link) (response n : Bytes) (s s1 : State),
    let s0 := advance at' s
    let jx := sessionIx h s1
    let l := linkIx h.link
    let fresh : Bytes := (List.range 16).map fun i => Config.freeByte (s1.free + i)
    (admitted h 0x0E01 s = some (ix, s1) →
      (lockedOut l s1 = true → exec (.svcChallenge h) s = .next (reply h ix 0x0E01 Status.denied [] s1)) ∧
      (lockedOut l s1 = false → exec (.svcChallenge h) s = .next (reply h ix 0x0E01 Status.ok (fresh ++ serialBytes s1)
        (modSvc { s1 with free := s1.free + 16 } jx fun v => { v with nonce := some (fresh, s1.now) })))) ∧
    (admitted h 0x0E02 s = some (ix, s1) → response.length = 32 →
      (validNonce jx s1 = some n → response = hmacSha256 (pad 32 s1.upd.key) (n ++ serialBytes s1 ++ [b8 (sessionNo jx)]) →
        ∃ t, exec (.svcAuth h response) s = .next (reply h ix 0x0E02 Status.ok [] t) ∧ (svcOf t jx).authed = true ∧
          (svcOf t jx).nonce = none ∧ t.regs = s1.regs ∧ t.upd.lockout = s1.upd.lockout) ∧
      ((∀ m, validNonce jx s1 = some m → response ≠ hmacSha256 (pad 32 s1.upd.key) (m ++ serialBytes s1 ++ [b8 (sessionNo jx)])) →
        ∃ t, exec (.svcAuth h response) s = .next (reply h ix 0x0E02 Status.denied [] t) ∧ (svcOf t jx).nonce = none ∧
          (svcOf t jx).authed = (svcOf s1 jx).authed ∧ t.regs = (satField s1 P.updAuthFails 15 0 1).regs ∧
          (tget 0 s1.upd.failRun l = 2 → lockedOut l t = true) ∧
          (tget 0 s1.upd.failRun l = 0 → t.upd.lockout = s1.upd.lockout ∧ tget 0 t.upd.failRun l = 1))) ∧
    (session.val ≠ 0 → validNonce session.val s0 = none →
      exec (.nonceExpiry at' session) s = .next (modSvc s0 session.val fun v => { v with nonce := none })) ∧
    (lockedOut (linkIx link) s0 = false →
      exec (.authLockoutEnd at' link) s = .next (s0.modUpd fun u => { u with lockout := tset none u.lockout (linkIx link) none }))) ∧
  (∀ (h : Hdr) (ix : Nat) (key sig : Bytes) (s s1 : State),
    (admitted h 0x0F01 s = some (ix, s1) → exec (.lcRead h) s = .next (reply h ix 0x0F01 Status.ok
      ([b8 s1.upd.lc, b8 (b2n s1.upd.ctl.activeB), b8 (trialLeft s1), 0] ++ be 8 s1.upd.serial.toNat ++ [b8 s1.upd.rbCount, 0, 0, 0] ++
        be 4 (slotVersion false s1) ++ be 4 (slotVersion true s1) ++ [b8 (slotState false s1), b8 (slotState true s1)]) s1)) ∧
    (admitted h 0x0E20 s = some (ix, s1) → key.length = 64 →
      (s1.upd.lc = 1 → s1.upd.ctl.pending = false → activeClass s1 = 1 →
        ((s1.upd.custHash = [] ∨ s1.upd.custHash = sha256 key) → exec (.lcAdvance h key) s =
          .next (reply h ix 0x0E20 Status.ok [] { s1 with upd := { s1.upd with custHash := sha256 key, lc := 2 } })) ∧
        (s1.upd.custHash ≠ [] → s1.upd.custHash ≠ sha256 key →
          exec (.lcAdvance h key) s = .next (reply h ix 0x0E20 Status.checkFail [] s1))) ∧
      (s1.upd.lc ≠ 1 → exec (.lcAdvance h key) s = .next (reply h ix 0x0E20 Status.wrongState [] s1))) ∧
    (admitted h 0x0E21 s = some (ix, s1) →
      (∀ st, lifeCheck h 0x0E21 key sig s1 = some st → exec (.lcReturn h key sig) s = .next (reply h ix 0x0E21 st [] s1)) ∧
      (lifeCheck h 0x0E21 key sig s1 = none → ∃ t, exec (.lcReturn h key sig) s = .next t ∧ t.upd.lc = 3 ∧ t.upd.eraseDone = false ∧
        (s1.upd.lc = 2 → t.upd.custRevoked = true) ∧ t.st.inReset = true ∧ t.flt.quench = true ∧ t.erg.st = .off ∧ t.mram = s1.mram ∧
        t.fio = s1.fio)) ∧
    (admitted h 0x0E22 s = some (ix, s1) →
      (∀ st, lifeCheck h 0x0E22 key sig s1 = some st → exec (.lcScrap h key sig) s = .next (reply h ix 0x0E22 st [] s1)) ∧
      (lifeCheck h 0x0E22 key sig s1 = none → ∃ t, exec (.lcScrap h key sig) s = .next t ∧ t.upd.lc = 4 ∧
        t.upd.key = List.replicate 32 0xFF ∧
        t.mram = {} ∧ t.upd.slotA = {} ∧ t.upd.slotB = {} ∧ t.regs = s1.regs ∧ t.fio = s1.fio)))

/-- 19 R490 to R492, R496, R498: an update opens where the lock is free or the sender's own; a whole image makes the slot that is not
active UNVERIFIED; UPD_VERIFY judges it by the container checks; UPD_ACTIVATE makes it active with a trial pending and restarts the
service processor; UPD_CONFIRM ends the trial and raises floor and fuses, never lowering them; UPD_CLOSE and 60 s without a packet
of the holder free the lock. -/
def Obligations.UpdateCommands : Prop :=
  ∀ (h : Hdr) (at' : Time) (ix : Nat) (part : BulkPart) (img : Bytes) (s s1 s2 : State),
    let jx := sessionIx h s1
    let b := s1.upd.ctl.activeB
    (admitted h 0x0E10 s = some (ix, s1) →
      (s1.upd.lock = 0 ∨ s1.upd.lock = lockCode jx → ∃ t out, exec (.updOpen h) s = .next (reply h ix 0x0E10 Status.ok out t) ∧
        t = { s1 with upd := { s1.upd with lock := lockCode jx, lockAt := s1.now }, inst := t.inst } ∧ out.length = 8 ∧
        out.drop 4 = be 4 s1.upd.floor.toNat) ∧
      (s1.upd.lock ≠ 0 → s1.upd.lock ≠ lockCode jx → s1.inst.opened = none → exec (.updOpen h) s = .next (reply h ix 0x0E10 Status.busy [] s1))) ∧
    (admitted h 0x0E11 s = some (ix, s1) → holdsLock h s1 = true → s1.upd.ctl.pending = false → part.index = 0 →
      257 ≤ part.total → part.total ≤ 16777216 → bulkStep 0x0E11 part s1 = .whole 0 img s2 →
      exec (.updDownload h part) s = .next (reply h ix 0x0E11 Status.ok []
        (modSlot (!s2.upd.ctl.activeB) (fun x => { x with state := 2, rb := imgRb img, version := imgVersion img, image := img }) s2))) ∧
    (admitted h 0x0E12 s = some (ix, s1) → holdsLock h s1 = true → (otherSlot s1).state = 2 →
      let r := containerReason (otherSlot s1).image s1
      let judged (k : Nat) := setReg (modSlot (!b) (fun x => { x with state := k }) s1) P.updLastVerify r
      exec (.updVerify h) s = .next (reply h ix 0x0E12 (if r = 0 then Status.ok else Status.checkFail) [b8 r]
        (judged (if r = 0 then 3 else 4)))) ∧
    (admitted h 0x0E12 s = some (ix, s1) → holdsLock h s1 = true → (otherSlot s1).state ≠ 2 →
      exec (.updVerify h) s = .next (reply h ix 0x0E12 Status.wrongState [] s1)) ∧
    (admitted h 0x0E13 s = some (ix, s1) → holdsLock h s1 = true → activateRefused s1 = false →
      let s3 := writeCtl (fun c => { c with activeB := !c.activeB, pending := true, trialUsed := 0 }) s1
      (s1.st.rom = true → exec (.updActivate h) s = .next (reply h ix 0x0E13 Status.ok [] s3)) ∧
      (s1.st.rom = false → exec (.updActivate h) s = .next (restartSp 0 (reply h (sessionIx h s3) 0x0E13 Status.ok [] s3)))) ∧
    (admitted h 0x0E14 s = some (ix, s1) → holdsLock h s1 = true → s1.upd.ctl.pending = true →
      ∃ t out, exec (.updConfirm h) s = .next (reply h ix 0x0E14 Status.ok out t) ∧ t.upd.ctl.pending = false ∧
        t.upd.ctl.activeB = b ∧ t.upd.floor.toNat = max s1.upd.floor.toNat (activeSlot s1).version.toNat ∧
        t.upd.rbCount = max s1.upd.rbCount (min 64 (activeSlot s1).rb) ∧ (otherSlot t).state = 5 ∧ t.regs = s1.regs ∧
        t.mram = s1.mram) ∧
    (admitted h 0x0E15 s = some (ix, s1) →
      (holdsLock h s1 = true → exec (.updClose h) s = .next (reply h ix 0x0E15 Status.ok [] (releaseLock s1))) ∧
      (holdsLock h s1 = false → exec (.updClose h) s = .next (reply h ix 0x0E15 Status.denied [] s1))) ∧
    (s.upd.lock ≠ 0 → s.upd.lockAt + ms 60000 ≤ (advance at' s).now →
      exec (.updLockTimeout at') s = .next (releaseLock (advance at' s)))

/-- 19 R494, R495: a start of the service processor with a trial pending takes one of its three boots; after the third, or where the
image fails its checks, the other slot is active again, the trial slot INVALID, the fallback counted and reported by FS-094; a start
with none pending runs the image that passes, or holds the service processor with FS-095. -/
def Obligations.TrialBoots : Prop :=
  ∀ (given : Nat) (s : State),
    let r := bootSp given s
    let ctl := { s.upd.ctl with trialUsed := s.upd.ctl.trialUsed + 1, seq := (s.upd.ctl.seq + 1) % 256 }
    (s.upd.ctl.pending = true → bootReason given s = 0 → s.upd.ctl.trialUsed < 3 →
      r.1 = true ∧ { r.2 with inst := s.inst } = { s with upd := { s.upd with
        ctl := ctl, ctlLast := !s.upd.ctlLast
        ctlCopy0 := if s.upd.ctlLast then ctlWord ctl else s.upd.ctlCopy0
        ctlCopy1 := if s.upd.ctlLast then s.upd.ctlCopy1 else ctlWord ctl
        running := (activeSlot s).version } }) ∧
    (s.upd.ctl.pending = true → (bootReason given s ≠ 0 ∨ 3 ≤ s.upd.ctl.trialUsed) →
      r.2.upd.ctl.pending = false ∧ r.2.upd.ctl.activeB = !s.upd.ctl.activeB ∧ (slot s.upd.ctl.activeB r.2).image = (activeSlot s).image ∧
      r.2.regs = (satField s P.updFallbacks 15 0 1).regs ∧ ((r.2.src 94).active = true ∨ (s.src 94).held.isSome = true)) ∧
    (s.upd.ctl.pending = false → bootReason given s = 0 →
      r.1 = true ∧ r.2.upd.ctl = s.upd.ctl ∧ r.2.upd.running = (activeSlot s).version ∧
      s.upd.floor.toNat ≤ r.2.upd.floor.toNat ∧ s.upd.rbCount ≤ r.2.upd.rbCount ∧ r.2.regs = s.regs) ∧
    (s.upd.ctl.pending = false → bootReason given s ≠ 0 →
      r = (false, detect 95 (locAddr s dieMram (slotAddr s.upd.ctl.activeB)) s (persists := true)))

/-! ### Clocks, supplies, the service processor and the start-up (chapters 17, 18, 20) -/

/-- 18 R467 to R470, 20 R523: REFCLK's failure turns to the backup oscillator; a domain whose PLL loses lock stops at once with
its reaction (the trios stop, the renders halt, a lane leaves the vote, the Crucible is lost, the service processor is held), is
held in reset after 1 ms, where a command whose access hangs there answers CHECK_FAIL, and returns with the lock; a rail and the
temperature thresholds raise their sources. 20 R507: a junction above 140 °C, or 165 °C in the field I/O die, and a field supply
above 40 V are beyond the absolute maximum ratings; what the module then does is not given, and the model stops by that name. -/
def Obligations.ClockAndLimitEvents : Prop :=
  (∀ (at' : Time) (domain : Fin 8) (c : Int) (s : State),
    let s0 := advance at' s
    let d := domain.val
    let unlocked := s0.modClk fun x => { x with locks := setBv x.locks d false, stoppedAt := tset 0 x.stoppedAt d s0.now }
    (s.clk.backup = false → s.st.inReset = false → exec (.refclkFail at') s =
      .next (detect 63 (locClock s 0) (s0.modClk fun x => { x with backup := true }))) ∧
    (d ≠ 7 → s.clk.locks.getLsbD d = true → domUp d s = true → s.st.inReset = false →
      exec (.pllLockLoss at' domain) s = .next (clockReaction d (setDom d .stopped unlocked))) ∧
    (s.clk.locks.getLsbD 0 = true → domUp 0 s = true → s.st.inReset = false → ∃ t, exec (.pllLockLoss at' 0) s = .next t ∧
      t.clk.locks.getLsbD 0 = false ∧ tget .running t.clk.doms 0 = .stopped ∧ sourceActive 64 t = true ∧
      (s.tick.lastEdge ≠ s0.now → t.views = s.views) ∧
      ∀ u ∈ s.units.map (·.1), (t.unit u).st ≠ .run ∧ (t.unit u).st ≠ .debug) ∧
    (s.clk.locks.getLsbD 5 = true → domUp 5 s = true → s.st.inReset = false → s.cru.st = .inService → ∃ t, exec (.pllLockLoss at' 5) s = .next t ∧
      t.cru = { s.cru with st := .lost } ∧ t.regs = (setReg s P.cruLossCause 2).regs ∧ sourceActive 69 t = true ∧
      sourceActive 9 t = true ∧ t.units = s.units ∧ t.cams = s.cams) ∧
    (s.clk.locks.getLsbD 6 = true → domUp 6 s = true → s.st.inReset = false → ∃ t, exec (.pllLockLoss at' 6) s = .next t ∧ t.clk.sp = .held ∧
      sourceActive 70 t = true ∧ t.regs = s.regs ∧ t.units = s.units ∧ t.cams = s.cams ∧ t.views = s.views) ∧
    (tget .running s.clk.doms d = .stopped → s.clk.locks.getLsbD d = false → tget 0 s.clk.stoppedAt d + ms 1 ≤ s0.now →
      (hungIn d s = none → exec (.domainResetHold at' domain) s = .next (setDom d .heldInReset s0)) ∧
      (∀ x, hungIn d s = some x → exec (.domainResetHold at' domain) s =
        .next (finishHeld x.h x.opcode Status.checkFail [] (errorResponse (setDom d .heldInReset s0))))) ∧
    (d ≠ 7 → s.clk.locks.getLsbD d = false → s.st.inReset = false → domUp d s = false →
      let relocked := (meetHold d s0).modClk fun x => { x with locks := setBv x.locks d true }
      (d = 1 → exec (.pllRelock at' domain) s =
        .next (resumeHung 1 (settle 65 (satField { setDom 1 .running relocked with tracks := [] } P.sysDomainResets 23 16 1)))) ∧
      (2 ≤ d → d ≤ 4 → exec (.pllRelock at' domain) s =
        .next (resumeHung d (settle (64 + d) (satField (setDom d .running relocked) P.sysDomainResets 15 8 1)))) ∧
      (d = 0 ∨ d = 5 → exec (.pllRelock at' domain) s = .next relocked) ∧
      (d = 6 → s.clk.spOut = false → exec (.pllRelock at' domain) s = .next (relocked.modClk fun x => { x with spDue := true }))) ∧
    (s.st.inReset = false → exec (.internalRailFault at') s = .next (detect 73 (locDie s dieSoc) s0 (persists := true))) ∧
    (c ≤ 140 →
      let t1 := takeTj c s0
      (∃ t, exec (.socTempThreshold at' c) s = .next t ∧ t = threshold 72 (decide (127 ≤ c)) (locDie s dieSoc)
        (threshold 71 (decide ((reg t1 P.sysTjHigh : Int) ≤ c)) (locDie s dieSoc) t1) ∧ t.regs = t1.regs ∧
        (127 ≤ c → sourceActive 72 t = true)) ∧
      (c < 105 → exec (.dramTempThreshold at' c) s = .next (causeGone 10 (setReg s0 P.cruTemp (wrapN 32 c)))) ∧
      (105 ≤ c → ∃ t, exec (.dramTempThreshold at' c) s = .next t ∧ sourceActive 10 t = true ∧
        (c < 115 → t.regs = (setReg s P.cruTemp (wrapN 32 c)).regs ∧ t.cru = s.cru) ∧
        (115 ≤ c → s.cru.st = .inService → t.cru = { s.cru with st := .lost } ∧ sourceActive 9 t = true) ∧ t.units = s.units))) ∧
  (∀ (at' : Time) (c : Int) (mv l : Nat) (raw : BitVec 32) (rb : BitVec 16) (b : Bool) (s : State),
    (40000 < mv →
      exec (.inputImageFrame at' raw rb mv l b) s = .fault .absoluteMaximum ∧
      exec (.inputImageFrame at' raw rb l mv b) s = .fault .absoluteMaximum ∧
      exec (.l1pRecover at' mv raw) s = .fault .absoluteMaximum ∧ exec (.l2pRecover at' mv) s = .fault .absoluteMaximum ∧
      exec (.fieldOvervoltage at' b mv) s = .fault .absoluteMaximum) ∧
    (140 < c →
    exec (.socTempThreshold at' c) s = .fault .absoluteMaximum ∧ exec (.dramTempThreshold at' c) s = .fault .absoluteMaximum ∧
    (165 < c → exec (.fioDriverShutdown at' c) s = .fault .absoluteMaximum)))

/-- 18 R471, 19 R493: a lockstep mismatch or a watchdog expiry of the service processor, while its firmware runs or restarts, raises its
source and makes a restart due; a restart is counted, interrupts the command in service and boots; the fourth cause within 60 s holds the service processor in reset;
when the restart is done the queue is served again and the events of the pause are logged. -/
def Obligations.ServiceProcessor : Prop :=
  ∀ (at' : Time) (given : Nat) (s : State),
    let s0 := advance at' s
    (spRuns s = true ∨ (s.st.inReset = false ∧ s.clk.sp = .restarting) → s.inst.confirmed = none →
      exec (.spLockstepMismatch at') s =
        .next (detect 75 (locBlock s dieSoc 0x60) (s0.modClk fun x => { x with spDue := true }) (persists := true)) ∧
      exec (.spWatchdogExpiry at') s =
        .next (detect 76 (locBlock s dieSoc 0x60) (s0.modClk fun x => { x with spDue := true }) (persists := true))) ∧
    (s.clk.spDue = true → s.clk.spOut = false → s.st.inReset = false →
      ((recentRestarts s0).length < 3 → exec (.spRestart at' given) s = .next (restartSp given (satField
        (s0.modClk fun x => { x with restarts := s0.now :: recentRestarts s0 }) P.sysDomainResets 7 0 1))) ∧
      (3 ≤ (recentRestarts s0).length → ∃ t, exec (.spRestart at' given) s = .next t ∧ t.clk.sp = .held ∧ t.clk.spOut = true ∧
        t.clk.spDue = false ∧ tget .running t.clk.doms 6 = .heldInReset ∧ { t with clk := s.clk, now := s.now } = s)) ∧
    (s.upd.ctl.pending = false → bootReason given s = 0 → s.host.held = none → s.st.bist = none → s.inst.fltEvents = [] →
      let t := restartSp given s
      t.clk.sp = .restarting ∧ t.flt.mode = .recovery ∧ tget .running t.clk.doms 6 = .heldInReset ∧
      t.upd.running = (activeSlot s).version ∧ t.regs = s.regs ∧ t.host = s.host ∧ t.units = s.units ∧ t.cams = s.cams ∧
      t.views = s.views ∧ t.pipes = s.pipes) ∧
    (s.clk.sp = .restarting → s.clk.spDue = false → ∃ t, exec (.spRestartDone at') s = .next t ∧ t.clk.sp = .running ∧
      t.host.parked = [] ∧ t.units = s.units ∧ t.cams = s.cams ∧ t.pipes = s.pipes ∧ t.mram.objs = s.mram.objs)

/-- 17 R441, R442, 18 R479, 19 R500, R501: nRESET low for less than 1 µs is ignored, for 10 µs or more it resets, and no MRAM write of its
own edge has begun; its release counts a boot, keeps what the non-volatile memories hold, and starts up: a SCRAPPED module stops, SVC_BOOT leads to the ROM's recovery, a unit
the start-up cannot do without stops it; the camera-start step ends when everything has trained, or after 500 ms, with EV-100. -/
def Obligations.ResetAndStart : Prop :=
  ∀ (at' : Time) (w : Nat) (powerOn : Bool) (env : StartOutcome) (s : State),
    let s0 := advance at' s
    (w < 1000 → exec (.nresetFall at' w) s = .next s0) ∧
    (10000 ≤ w → s.st.inReset = false → ∃ t, exec (.nresetFall at' w) s = .next t ∧ t.st.inReset = true ∧ t.flt.quench = true ∧
      t.erg.st = .off ∧ (∀ d < 8, tget .running t.clk.doms d = .heldInReset) ∧ t.fio = s.fio ∧
      t.mram = ((instant s0).mramWas.getD s.mram) ∧ (s.inst.bootWas = none → t.upd = s.upd)) ∧
    (powerOn = true ∨ s.st.inReset = true → ∃ t, exec (.nresetRelease at' powerOn env) s = .next t ∧
      t.mram.bootId = s.mram.bootId + 1 ∧ t.st.inReset = false ∧ t.upd.serial = s.upd.serial ∧
      (s.upd.lc = 4 → env.lcVoteBad = none → t.upd.lc = 4 ∧ t.st.step = 1 ∧ t.st.stopped = true) ∧
      (s.upd.lc < 4 → env.lcVoteBad = none → env.svcBoot = true → env.badBlocks = [] → t.st.rom = true ∧ t.st.step = 1) ∧
      (s.upd.lc < 4 → env.lcVoteBad = none → env.svcBoot = false → (0x60, 1) ∈ env.badBlocks → t.st.step = 1 ∧ t.st.stopped = true)) ∧
    (s.st.step = 9 → (allTrained s = true ∨ s.st.camStartAt + ms 500 ≤ s0.now) → s.erg.joinWait = false → s.inst.fltEvents = [] →
      ∃ t, exec (.cameraStartDone at') s = .next t ∧ t.st.step = 10 ∧
        t.regs = (setReg s P.stStartupMs (((s0.now - s.startAt) / 100000) % 2 ^ 32)).regs ∧
        (s.cru.st ≠ .recovering → s.clk.sp ≠ .restarting → t.flt.mode = .service) ∧ t.host.eseq ≠ s.host.eseq ∧
        t.cams = s.cams ∧ t.pipes = s.pipes ∧ t.units = s.units)

/-- 17 R441, R443, R445, 19 R496: a start-up in which every unit passes its self-test, the factory image passes its checks and no trial
is pending brings the service processor, the three lanes and the Crucible into service, holds the field outputs in the die's start
mode, and comes at least to the step that waits for the Caravan or the cameras. -/
def Obligations.NormalStart : Prop :=
  ∀ (at' : Time) (powerOn : Bool) (env : StartOutcome) (s : State), (powerOn = true ∨ s.st.inReset = true) → s.upd.lc < 4 →
    env.lcVoteBad = none → env.svcBoot = false → env.badBlocks = [] → env.cruBad = false → s.upd.ctl.pending = false →
    (activeSlot s).image = [] → env.fwReason = 0 → env.bootBad = [] →
    (∃ b, goodCtl s.upd.ctlCopy0 s.upd.ctlCopy1 = some b ∧ ctlOf (if b then s.upd.ctlCopy1 else s.upd.ctlCopy0) = s.upd.ctl) →
    ∃ t, exec (.nresetRelease at' powerOn env) s = .next t ∧ t.st.rom = false ∧ t.st.stopped = false ∧ 8 ≤ t.st.step ∧
      t.st.step ≤ 10 ∧ t.cru.st = .inService ∧ (∀ l < 3, (t.lane l).st = .inService) ∧ t.fio.mode = 1 ∧
      t.upd.running = (activeSlot s).version ∧ t.mram.bootId = s.mram.bootId + 1

/-! ### Events and detections -/

/-- 14 R393, Table 14.4: an event takes the next event number, never 0; its 64-byte entry stands in the log slot of that number while
the Crucible serves requests, and a severe or quench one at the head of the mirror; raising an event changes nothing but the host
interface, the log, the mirror, the credits and errors of the words written and the packets for the lead with their staging, the channels that compute check values and
what this edge holds of itself, and no byte of the Crucible outside the event log and staging. -/
def Obligations.EventRaising : Prop :=
  (∀ (tail : Bytes) (s : State), tail.length = 56 →
    let t := logEvent tail s
    let q := t.host.eseq
    let ent := entryOf q tail
    q ≠ 0 ∧ (s.host.eseq ≠ 0xFFFFFFFF → q = s.host.eseq + 1) ∧ ent.length = 64 ∧
    { t with
      host := s.host, inst := s.inst, mram := { t.mram with mirror := s.mram.mirror }
      cru := { t.cru with mem := s.cru.mem, errs := s.cru.errs, used := s.cru.used, credits := s.cru.credits } } = s ∧
    (3 ≤ entryClass ent → t.mram.mirror = (ent :: s.mram.mirror).take 1024) ∧
    (entryClass ent < 3 → t.mram.mirror = s.mram.mirror) ∧
    (s.cru.st ≠ .inService → t.cru = s.cru) ∧
    (s.cru.st = .inService → Memory.wf s.cru.mem = true → Memory.bytes t.cru.mem (0x6C100000 + 64 * (q.toNat % 4096)) 64 = ent ∧
      ∀ a, (a < 0x6C100000 + 64 * (q.toNat % 4096) ∨ 0x6C100000 + 64 * (q.toNat % 4096) + 64 ≤ a) →
        Memory.read t.cru.mem a = Memory.read s.cru.mem a)) ∧
  (∀ (e cls src : Nat) (loc : BitVec 64) (vals : List Nat) (s : State),
    let t := raiseEvent e cls vals s src loc
    t.host.eseq ≠ s.host.eseq ∧
    { t with
      host := s.host, inst := s.inst, chans := s.chans, erg := { t.erg with serviceOut := s.erg.serviceOut, stagingAt := s.erg.stagingAt },
      cru := { t.cru with
        mem := s.cru.mem, poison := s.cru.poison, errs := s.cru.errs, used := s.cru.used, credits := s.cru.credits }
      mram := { t.mram with mirror := s.mram.mirror } } = s ∧
    (Memory.wf s.cru.mem = true → Memory.wf t.cru.mem = true ∧
      ∀ a, (a < 0x6C100000 ∨ 0x6C140000 ≤ a) → (a < 0x6D000000 ∨ 0x6E000000 ≤ a) →
        Memory.read t.cru.mem a = Memory.read s.cru.mem a))

/-- 15 R407, R408: a source that detects its error holds its pair with the location and the DETAIL until the collector acknowledges;
what it detects meanwhile merges into one further event; nothing else changes, and no other source. -/
def Obligations.FaultDetection : Prop :=
  ∀ (n m detail : Nat) (loc : BitVec 64) (p : Bool) (s : State),
    let t := detect n loc s detail p
    let d : Detection := { loc := loc, detail := w32 detail }
    { t with flt := s.flt } = s ∧ { t.flt with srcs := s.flt.srcs } = s.flt ∧
    ((s.src n).held = none → (s.src n).active = false → (t.src n).held = some d ∧ (t.src n).active = true ∧
      (t.src n).first = (s.src n).first ∧ (t.src n).latest = (s.src n).latest) ∧
    (∀ x, (s.src n).held = some x → (t.src n).held = some x ∧ (t.src n).behind = some d) ∧
    ((s.src n).held = none → (s.src n).active = true → (t.src n).held = none ∧ (t.src n).active = true) ∧
    (m ≠ n → t.src m = s.src m)

/-! ### The block as a whole -/

/-- A step runs the command at the front of the queue, on the state with the queue's rest. -/
def Obligations.StepTakesFront : Prop :=
  ∀ (c : Instr) (rest : List Instr) (s : State), step { s with pending := c :: rest } = exec c { s with pending := rest }

/-- On an empty queue the service processor takes the oldest packet of its own queue when it is free (14 R390); otherwise the module
idles, which is the model's choice (log 3). -/
def Obligations.StepWithoutCommand : Prop :=
  ∀ (s : State), s.pending = [] →
    (s.host.queue = [] → step s = .next s) ∧
    (∀ c rest, s.host.queue = c :: rest → s.clk.sp = .running → s.clk.spDue = false → s.host.held = none →
      step s = exec c { s with host := { s.host with queue := rest, fromQueue := true } }) ∧
    (∀ c rest, s.host.queue = c :: rest → (s.clk.sp ≠ .running ∨ s.clk.spDue = true ∨ s.host.held ≠ none) → step s = .next s)

/-- 00 R524, 18 R469, 17 R441, 13 R363: after reset no command waits, no session is open, no camera, pipe or trio runs, the Erg unit is
OFF, no fault is recorded, the parameters named read their reset values, and the memories are in their canonical form. -/
def Obligations.ResetState : Prop :=
  State.reset.pending = [] ∧ State.reset.host.sess = none ∧ State.reset.cams = [] ∧ State.reset.pipes = [] ∧ State.reset.units = [] ∧
  State.reset.erg.st = .off ∧ State.reset.flt.srcs = [] ∧ State.reset.st.step = 0 ∧
  reg State.reset P.tickRate = 60000 ∧ reg State.reset P.tickSource = 0 ∧ reg State.reset P.sysEvtResend = 100 ∧
  reg State.reset P.ergRole = 0 ∧ State.memOk State.reset

/-- Every step keeps the canonical form of the Crucible's memory and of every core's data SRAM. -/
def Obligations.MemoryCanonicalKept : Prop := ∀ (s t : State), State.memOk s → step s = .next t → State.memOk t

/-- A command changes everything but the queue: what waits stays, in its order. Every command of the table completes with a next state,
in every state and with all its operands within the absolute maximum ratings (20 R507); none is refused. -/
def Obligations.ExecLeavesQueue : Prop :=
  (∀ (c : Instr) (s t : State), exec c s = .next t → t.pending = s.pending) ∧
  ∀ (c : Instr) (s : State), c.withinRatings = true → ∃ t, exec c s = .next t ∧ t.pending = s.pending

/-- 19 R488, R501 to R504: what is blown stays blown: no step lowers the life-cycle state, un-revokes the customer key, changes a blown
customer key hash, the serial number or the MAC address, and none brings the anti-rollback count or the version floor below what they
were before the writes of the present edge, which a reset or a restart on that very edge keeps from beginning (18 R480, 19 R505). -/
def Obligations.FusesOnlyGrow : Prop :=
  ∀ (s t : State), step s = .next t →
    let before (f : UpdSt → Nat) (n : Nat) : Prop :=
      n ≤ f s.upd ∧ (∀ u, s.inst.bootWas = some u → n ≤ f u) ∧ ∀ h ix u, s.inst.confirmed = some (h, ix, u) → n ≤ f u
    s.upd.lc ≤ t.upd.lc ∧ (∀ n, before (fun u => u.rbCount) n → n ≤ t.upd.rbCount) ∧
    (∀ n, before (fun u => u.floor.toNat) n → n ≤ t.upd.floor.toNat) ∧
    (s.upd.custRevoked = true → t.upd.custRevoked = true) ∧ (s.upd.custHash ≠ [] → t.upd.custHash = s.upd.custHash) ∧
    t.upd.serial = s.upd.serial ∧ t.upd.mac = s.upd.mac
end

