-- ==== Sys2Proof/Laws/Bytes.lean ====
section
/-! SUPPORT. Laws of byte strings: lengths, little-endian fields, and check fields that are written and read back. -/

namespace Sys2Proof.Machine

theorem le_length : ∀ n v, (le n v).length = n
  | 0, _ => rfl
  | n + 1, v => by simp [le, le_length n]

theorem be_length (n v : Nat) : (be n v).length = n := by simp [be, le_length]

theorem leVal_le : ∀ n v, leVal (le n v) = v % 256 ^ n
  | 0, v => by simp [le, leVal, Nat.mod_one]
  | n + 1, v => by
    have h : (b8 (v % 256)).toNat = v % 256 := by simp [b8]
    rw [le, leVal, leVal_le n, h, Nat.pow_succ, Nat.mul_comm (256 ^ n) 256, Nat.mod_mul]

theorem splice_length {bs new : Bytes} {off : Nat} (h : off + new.length ≤ bs.length) :
    (splice bs off new).length = bs.length := by
  simp only [splice, List.length_append, List.length_take, List.length_drop]; omega

theorem pad_length (n : Nat) (bs : Bytes) : (pad n bs).length = n := by
  simp only [pad, zeros, List.length_take, List.length_append, List.length_replicate]; omega

/-- What is written over the same bytes twice is the last of the two. -/
theorem splice_twice {bs a b : Bytes} {off : Nat} (hab : a.length = b.length) (h : off + a.length ≤ bs.length) :
    splice (splice bs off a) off b = splice bs off b := by
  have ht : (bs.take off).length = off := by simp; omega
  unfold splice
  rw [List.append_assoc (bs.take off) a, List.take_append_of_le_length (by omega), List.take_of_length_le (by omega)]
  congr 1
  rw [← hab, List.drop_append, ht, List.drop_eq_nil_of_le (by omega), List.nil_append,
    show off + a.length - off = a.length by omega, List.drop_left]

theorem sub_splice {bs a : Bytes} {off : Nat} (h : off ≤ bs.length) : sub (splice bs off a) off a.length = a := by
  have ht : (bs.take off).length = off := by simp; omega
  unfold sub splice
  rw [List.append_assoc, List.drop_append, ht, Nat.sub_self, List.drop_zero, List.drop_eq_nil_of_le (by omega), List.nil_append,
    List.take_left]

theorem splice_append {hd new : Bytes} {off : Nat} (t : Bytes) (h : off + new.length ≤ hd.length) :
    splice (hd ++ t) off new = splice hd off new ++ t := by
  unfold splice
  rw [List.take_append_of_le_length (by omega), List.drop_append_of_le_length h]
  simp [List.append_assoc]

theorem leVal_zero : ∀ bs : Bytes, (∀ b ∈ bs, b = 0) → leVal bs = 0
  | [], _ => rfl
  | b :: r, h => by
    simp only [leVal, h b (by simp), leVal_zero r fun x hx => h x (by simp [hx])]; rfl

/-- A field in the zeros that follow a string reads 0. -/
theorem leAt_tail {hd : Bytes} {o : Nat} (k n : Nat) (h : hd.length ≤ o) : leAt k (hd ++ zeros n) o = 0 := by
  apply leVal_zero
  intro b hb
  have hb := List.mem_of_mem_drop (List.mem_of_mem_take (i := k) (show b ∈ ((hd ++ zeros n).drop o).take k from hb) |> fun x => by
    rw [List.drop_append, List.drop_eq_nil_of_le h, List.nil_append] at x; exact x)
  exact List.eq_of_mem_replicate hb

theorem u8_tail {hd : Bytes} {o : Nat} (n : Nat) (h : hd.length ≤ o) : u8 (hd ++ zeros n) o = 0 := by
  unfold u8 zeros
  rw [List.getD_eq_getElem?_getD, List.getElem?_append_right h, List.getElem?_replicate]
  split <;> rfl

/-- The first bytes of a big-endian number, read back. -/
theorem beAt_be {t : Bytes} (n v : Nat) : beAt n (be n v ++ t) 0 = v % 256 ^ n := by
  unfold beAt sub
  rw [List.drop_zero, List.take_append_of_le_length (Nat.le_of_eq (be_length n v).symm), List.take_of_length_le (Nat.le_of_eq (be_length n v))]
  simp [beVal, be, leVal_le]

theorem revBits_lt : ∀ w n, revBits w n < 2 ^ w
  | 0, _ => by simp [revBits]
  | w + 1, n => by
    have h := revBits_lt w (n / 2)
    have h2 : n % 2 * 2 ^ w ≤ 1 * 2 ^ w := Nat.mul_le_mul_right _ (by omega)
    rw [revBits, Nat.pow_succ]; omega

theorem crcStore_lt (bs : Bytes) : crcStore bs < 2 ^ 32 := by
  unfold crcStore crcRun
  exact Nat.xor_lt_two_pow (by simpa [storePreset] using revBits_lt 32 _) (by decide)

theorem crcBit_lt (w poly crc : Nat) : crcBit w poly crc < 2 ^ w := by
  unfold crcBit
  split <;> exact Nat.mod_lt _ (Nat.two_pow_pos w)

theorem crcIol_lt (bs : Bytes) : crcIol bs < 2 ^ 16 := by
  have h : ∀ (l : Bytes) (c : Nat), c < 2 ^ 16 →
      l.foldl (fun crc d => crcByte 16 0x1021 (crc ^^^ (d.toNat <<< (16 - 8)))) c < 2 ^ 16 := by
    intro l
    induction l with
    | nil => intro c hc; exact hc
    | cons d r ih => intro c _; exact ih _ (crcBit_lt 16 _ _)
  unfold crcIol crcRun
  exact Nat.xor_lt_two_pow (by simpa [iolPreset] using h bs 0xFFFF (by decide)) (by decide)

/-- A frame of the I/O link passes its check exactly where it is not damaged (16 R434, R437). -/
@[simp] theorem iolArrives_eq (undamaged : Bool) (content : Bytes) : iolArrives undamaged content = undamaged := by
  have hlt := crcIol_lt content
  have hb : ∀ v, v < 2 ^ 16 → beAt 2 (content ++ be 2 v) content.length = v := by
    intro v hv
    unfold beAt sub
    rw [List.drop_left, List.take_of_length_le (Nat.le_of_eq (be_length _ _))]
    simp only [beVal, be, List.reverse_reverse, leVal_le]
    exact Nat.mod_eq_of_lt (by simpa using hv)
  have hl : ∀ v, (content ++ be 2 v).length - 2 = content.length := by intro v; simp [be_length]
  unfold iolArrives iolOk iolFrame
  cases undamaged <;>
    simp only [hl, List.take_append_of_le_length (Nat.le_refl _), List.take_length, if_true, if_false, Bool.false_eq_true]
  · rw [hb _ (by omega)]
    exact decide_eq_false (by omega)
  · rw [hb _ hlt]
    exact decide_eq_true rfl

/-- An object whose check field is written with its check value passes its check (16 R435, R436). -/
theorem crcEmbeddedOk_splice {bs : Bytes} {off : Nat} (h : off + 4 ≤ bs.length) :
    crcEmbeddedOk (splice bs off (le 4 (crcEmbedded bs off))) off = true := by
  have hl : ∀ v, (le 4 v).length = 4 := le_length 4
  have hs := sub_splice (bs := bs) (a := le 4 (crcEmbedded bs off)) (off := off) (by omega)
  rw [hl] at hs
  unfold crcEmbeddedOk u32 leAt
  rw [hs, leVal_le, show 256 ^ 4 = 2 ^ 32 from rfl, Nat.mod_eq_of_lt (show crcEmbedded bs off < 2 ^ 32 from crcStore_lt _),
    decide_eq_true_eq]
  unfold crcEmbedded
  rw [splice_twice (by simp [le_length, zeros]) (by rw [hl]; omega)]

end Sys2Proof.Machine
end

