-- ==== Sys2Proof/Laws/State.lean ====
section
/-! SUPPORT. Every field of the state after every named update of Machine/Ops.lean: one lemma per field per update. -/

namespace Sys2Proof.Machine

variable (s : State)

@[simp] theorem State.modCam_pending (k : Nat) (f : CamPort → CamPort) : (s.modCam k f).pending = s.pending := rfl
@[simp] theorem State.modCam_now (k : Nat) (f : CamPort → CamPort) : (s.modCam k f).now = s.now := rfl
@[simp] theorem State.modCam_startAt (k : Nat) (f : CamPort → CamPort) : (s.modCam k f).startAt = s.startAt := rfl
@[simp] theorem State.modCam_free (k : Nat) (f : CamPort → CamPort) : (s.modCam k f).free = s.free := rfl
@[simp] theorem State.modCam_regs (k : Nat) (f : CamPort → CamPort) : (s.modCam k f).regs = s.regs := rfl
@[simp] theorem State.modCam_regsEdge (k : Nat) (f : CamPort → CamPort) : (s.modCam k f).regsEdge = s.regsEdge := rfl
@[simp] theorem State.modCam_regsBoot (k : Nat) (f : CamPort → CamPort) : (s.modCam k f).regsBoot = s.regsBoot := rfl
@[simp] theorem State.modCam_vsnap (k : Nat) (f : CamPort → CamPort) : (s.modCam k f).vsnap = s.vsnap := rfl
@[simp] theorem State.modCam_sNow (k : Nat) (f : CamPort → CamPort) : (s.modCam k f).sNow = s.sNow := rfl
@[simp] theorem State.modCam_sSample (k : Nat) (f : CamPort → CamPort) : (s.modCam k f).sSample = s.sSample := rfl
@[simp] theorem State.modCam_inst (k : Nat) (f : CamPort → CamPort) : (s.modCam k f).inst = s.inst := rfl
@[simp] theorem State.modCam_sHist (k : Nat) (f : CamPort → CamPort) : (s.modCam k f).sHist = s.sHist := rfl
@[simp] theorem State.modCam_owners (k : Nat) (f : CamPort → CamPort) : (s.modCam k f).owners = s.owners := rfl
@[simp] theorem State.modCam_chk (k : Nat) (f : CamPort → CamPort) : (s.modCam k f).chk = s.chk := rfl
@[simp] theorem State.modCam_chkState (k : Nat) (f : CamPort → CamPort) : (s.modCam k f).chkState = s.chkState := rfl
@[simp] theorem State.modCam_chans (k : Nat) (f : CamPort → CamPort) : (s.modCam k f).chans = s.chans := rfl
@[simp] theorem State.modCam_tick (k : Nat) (f : CamPort → CamPort) : (s.modCam k f).tick = s.tick := rfl
@[simp] theorem State.modCam_cru (k : Nat) (f : CamPort → CamPort) : (s.modCam k f).cru = s.cru := rfl
@[simp] theorem State.modCam_views (k : Nat) (f : CamPort → CamPort) : (s.modCam k f).views = s.views := rfl
@[simp] theorem State.modCam_tracks (k : Nat) (f : CamPort → CamPort) : (s.modCam k f).tracks = s.tracks := rfl
@[simp] theorem State.modCam_tickClocks (k : Nat) (f : CamPort → CamPort) : (s.modCam k f).tickClocks = s.tickClocks := rfl
@[simp] theorem State.modCam_tickDone (k : Nat) (f : CamPort → CamPort) : (s.modCam k f).tickDone = s.tickDone := rfl
@[simp] theorem State.modCam_hostAge (k : Nat) (f : CamPort → CamPort) : (s.modCam k f).hostAge = s.hostAge := rfl
@[simp] theorem State.modCam_lanes (k : Nat) (f : CamPort → CamPort) : (s.modCam k f).lanes = s.lanes := rfl
@[simp] theorem State.modCam_pipes (k : Nat) (f : CamPort → CamPort) : (s.modCam k f).pipes = s.pipes := rfl
@[simp] theorem State.modCam_cores (k : Nat) (f : CamPort → CamPort) : (s.modCam k f).cores = s.cores := rfl
@[simp] theorem State.modCam_units (k : Nat) (f : CamPort → CamPort) : (s.modCam k f).units = s.units := rfl
@[simp] theorem State.modCam_trios (k : Nat) (f : CamPort → CamPort) : (s.modCam k f).trios = s.trios := rfl
@[simp] theorem State.modCam_fio (k : Nat) (f : CamPort → CamPort) : (s.modCam k f).fio = s.fio := rfl
@[simp] theorem State.modCam_iol (k : Nat) (f : CamPort → CamPort) : (s.modCam k f).iol = s.iol := rfl
@[simp] theorem State.modCam_erg (k : Nat) (f : CamPort → CamPort) : (s.modCam k f).erg = s.erg := rfl
@[simp] theorem State.modCam_host (k : Nat) (f : CamPort → CamPort) : (s.modCam k f).host = s.host := rfl
@[simp] theorem State.modCam_flt (k : Nat) (f : CamPort → CamPort) : (s.modCam k f).flt = s.flt := rfl
@[simp] theorem State.modCam_st (k : Nat) (f : CamPort → CamPort) : (s.modCam k f).st = s.st := rfl
@[simp] theorem State.modCam_clk (k : Nat) (f : CamPort → CamPort) : (s.modCam k f).clk = s.clk := rfl
@[simp] theorem State.modCam_upd (k : Nat) (f : CamPort → CamPort) : (s.modCam k f).upd = s.upd := rfl
@[simp] theorem State.modCam_mram (k : Nat) (f : CamPort → CamPort) : (s.modCam k f).mram = s.mram := rfl
@[simp] theorem State.modCam_cams (k : Nat) (f : CamPort → CamPort) : (s.modCam k f).cams = tmod {} s.cams k f := rfl
@[simp] theorem State.modView_pending (k : Nat) (f : ViewSt → ViewSt) : (s.modView k f).pending = s.pending := rfl
@[simp] theorem State.modView_now (k : Nat) (f : ViewSt → ViewSt) : (s.modView k f).now = s.now := rfl
@[simp] theorem State.modView_startAt (k : Nat) (f : ViewSt → ViewSt) : (s.modView k f).startAt = s.startAt := rfl
@[simp] theorem State.modView_free (k : Nat) (f : ViewSt → ViewSt) : (s.modView k f).free = s.free := rfl
@[simp] theorem State.modView_regs (k : Nat) (f : ViewSt → ViewSt) : (s.modView k f).regs = s.regs := rfl
@[simp] theorem State.modView_regsEdge (k : Nat) (f : ViewSt → ViewSt) : (s.modView k f).regsEdge = s.regsEdge := rfl
@[simp] theorem State.modView_regsBoot (k : Nat) (f : ViewSt → ViewSt) : (s.modView k f).regsBoot = s.regsBoot := rfl
@[simp] theorem State.modView_vsnap (k : Nat) (f : ViewSt → ViewSt) : (s.modView k f).vsnap = s.vsnap := rfl
@[simp] theorem State.modView_sNow (k : Nat) (f : ViewSt → ViewSt) : (s.modView k f).sNow = s.sNow := rfl
@[simp] theorem State.modView_sSample (k : Nat) (f : ViewSt → ViewSt) : (s.modView k f).sSample = s.sSample := rfl
@[simp] theorem State.modView_inst (k : Nat) (f : ViewSt → ViewSt) : (s.modView k f).inst = s.inst := rfl
@[simp] theorem State.modView_sHist (k : Nat) (f : ViewSt → ViewSt) : (s.modView k f).sHist = s.sHist := rfl
@[simp] theorem State.modView_owners (k : Nat) (f : ViewSt → ViewSt) : (s.modView k f).owners = s.owners := rfl
@[simp] theorem State.modView_chk (k : Nat) (f : ViewSt → ViewSt) : (s.modView k f).chk = s.chk := rfl
@[simp] theorem State.modView_chkState (k : Nat) (f : ViewSt → ViewSt) : (s.modView k f).chkState = s.chkState := rfl
@[simp] theorem State.modView_chans (k : Nat) (f : ViewSt → ViewSt) : (s.modView k f).chans = s.chans := rfl
@[simp] theorem State.modView_tick (k : Nat) (f : ViewSt → ViewSt) : (s.modView k f).tick = s.tick := rfl
@[simp] theorem State.modView_cams (k : Nat) (f : ViewSt → ViewSt) : (s.modView k f).cams = s.cams := rfl
@[simp] theorem State.modView_cru (k : Nat) (f : ViewSt → ViewSt) : (s.modView k f).cru = s.cru := rfl
@[simp] theorem State.modView_tracks (k : Nat) (f : ViewSt → ViewSt) : (s.modView k f).tracks = s.tracks := rfl
@[simp] theorem State.modView_tickClocks (k : Nat) (f : ViewSt → ViewSt) : (s.modView k f).tickClocks = s.tickClocks := rfl
@[simp] theorem State.modView_tickDone (k : Nat) (f : ViewSt → ViewSt) : (s.modView k f).tickDone = s.tickDone := rfl
@[simp] theorem State.modView_hostAge (k : Nat) (f : ViewSt → ViewSt) : (s.modView k f).hostAge = s.hostAge := rfl
@[simp] theorem State.modView_lanes (k : Nat) (f : ViewSt → ViewSt) : (s.modView k f).lanes = s.lanes := rfl
@[simp] theorem State.modView_pipes (k : Nat) (f : ViewSt → ViewSt) : (s.modView k f).pipes = s.pipes := rfl
@[simp] theorem State.modView_cores (k : Nat) (f : ViewSt → ViewSt) : (s.modView k f).cores = s.cores := rfl
@[simp] theorem State.modView_units (k : Nat) (f : ViewSt → ViewSt) : (s.modView k f).units = s.units := rfl
@[simp] theorem State.modView_trios (k : Nat) (f : ViewSt → ViewSt) : (s.modView k f).trios = s.trios := rfl
@[simp] theorem State.modView_fio (k : Nat) (f : ViewSt → ViewSt) : (s.modView k f).fio = s.fio := rfl
@[simp] theorem State.modView_iol (k : Nat) (f : ViewSt → ViewSt) : (s.modView k f).iol = s.iol := rfl
@[simp] theorem State.modView_erg (k : Nat) (f : ViewSt → ViewSt) : (s.modView k f).erg = s.erg := rfl
@[simp] theorem State.modView_host (k : Nat) (f : ViewSt → ViewSt) : (s.modView k f).host = s.host := rfl
@[simp] theorem State.modView_flt (k : Nat) (f : ViewSt → ViewSt) : (s.modView k f).flt = s.flt := rfl
@[simp] theorem State.modView_st (k : Nat) (f : ViewSt → ViewSt) : (s.modView k f).st = s.st := rfl
@[simp] theorem State.modView_clk (k : Nat) (f : ViewSt → ViewSt) : (s.modView k f).clk = s.clk := rfl
@[simp] theorem State.modView_upd (k : Nat) (f : ViewSt → ViewSt) : (s.modView k f).upd = s.upd := rfl
@[simp] theorem State.modView_mram (k : Nat) (f : ViewSt → ViewSt) : (s.modView k f).mram = s.mram := rfl
@[simp] theorem State.modView_views (k : Nat) (f : ViewSt → ViewSt) : (s.modView k f).views = tmod {} s.views k f := rfl
@[simp] theorem State.modTrack_pending (k : Nat) (f : Track → Track) : (s.modTrack k f).pending = s.pending := rfl
@[simp] theorem State.modTrack_now (k : Nat) (f : Track → Track) : (s.modTrack k f).now = s.now := rfl
@[simp] theorem State.modTrack_startAt (k : Nat) (f : Track → Track) : (s.modTrack k f).startAt = s.startAt := rfl
@[simp] theorem State.modTrack_free (k : Nat) (f : Track → Track) : (s.modTrack k f).free = s.free := rfl
@[simp] theorem State.modTrack_regs (k : Nat) (f : Track → Track) : (s.modTrack k f).regs = s.regs := rfl
@[simp] theorem State.modTrack_regsEdge (k : Nat) (f : Track → Track) : (s.modTrack k f).regsEdge = s.regsEdge := rfl
@[simp] theorem State.modTrack_regsBoot (k : Nat) (f : Track → Track) : (s.modTrack k f).regsBoot = s.regsBoot := rfl
@[simp] theorem State.modTrack_vsnap (k : Nat) (f : Track → Track) : (s.modTrack k f).vsnap = s.vsnap := rfl
@[simp] theorem State.modTrack_sNow (k : Nat) (f : Track → Track) : (s.modTrack k f).sNow = s.sNow := rfl
@[simp] theorem State.modTrack_sSample (k : Nat) (f : Track → Track) : (s.modTrack k f).sSample = s.sSample := rfl
@[simp] theorem State.modTrack_inst (k : Nat) (f : Track → Track) : (s.modTrack k f).inst = s.inst := rfl
@[simp] theorem State.modTrack_sHist (k : Nat) (f : Track → Track) : (s.modTrack k f).sHist = s.sHist := rfl
@[simp] theorem State.modTrack_owners (k : Nat) (f : Track → Track) : (s.modTrack k f).owners = s.owners := rfl
@[simp] theorem State.modTrack_chk (k : Nat) (f : Track → Track) : (s.modTrack k f).chk = s.chk := rfl
@[simp] theorem State.modTrack_chkState (k : Nat) (f : Track → Track) : (s.modTrack k f).chkState = s.chkState := rfl
@[simp] theorem State.modTrack_chans (k : Nat) (f : Track → Track) : (s.modTrack k f).chans = s.chans := rfl
@[simp] theorem State.modTrack_tick (k : Nat) (f : Track → Track) : (s.modTrack k f).tick = s.tick := rfl
@[simp] theorem State.modTrack_cams (k : Nat) (f : Track → Track) : (s.modTrack k f).cams = s.cams := rfl
@[simp] theorem State.modTrack_cru (k : Nat) (f : Track → Track) : (s.modTrack k f).cru = s.cru := rfl
@[simp] theorem State.modTrack_views (k : Nat) (f : Track → Track) : (s.modTrack k f).views = s.views := rfl
@[simp] theorem State.modTrack_tickClocks (k : Nat) (f : Track → Track) : (s.modTrack k f).tickClocks = s.tickClocks := rfl
@[simp] theorem State.modTrack_tickDone (k : Nat) (f : Track → Track) : (s.modTrack k f).tickDone = s.tickDone := rfl
@[simp] theorem State.modTrack_hostAge (k : Nat) (f : Track → Track) : (s.modTrack k f).hostAge = s.hostAge := rfl
@[simp] theorem State.modTrack_lanes (k : Nat) (f : Track → Track) : (s.modTrack k f).lanes = s.lanes := rfl
@[simp] theorem State.modTrack_pipes (k : Nat) (f : Track → Track) : (s.modTrack k f).pipes = s.pipes := rfl
@[simp] theorem State.modTrack_cores (k : Nat) (f : Track → Track) : (s.modTrack k f).cores = s.cores := rfl
@[simp] theorem State.modTrack_units (k : Nat) (f : Track → Track) : (s.modTrack k f).units = s.units := rfl
@[simp] theorem State.modTrack_trios (k : Nat) (f : Track → Track) : (s.modTrack k f).trios = s.trios := rfl
@[simp] theorem State.modTrack_fio (k : Nat) (f : Track → Track) : (s.modTrack k f).fio = s.fio := rfl
@[simp] theorem State.modTrack_iol (k : Nat) (f : Track → Track) : (s.modTrack k f).iol = s.iol := rfl
@[simp] theorem State.modTrack_erg (k : Nat) (f : Track → Track) : (s.modTrack k f).erg = s.erg := rfl
@[simp] theorem State.modTrack_host (k : Nat) (f : Track → Track) : (s.modTrack k f).host = s.host := rfl
@[simp] theorem State.modTrack_flt (k : Nat) (f : Track → Track) : (s.modTrack k f).flt = s.flt := rfl
@[simp] theorem State.modTrack_st (k : Nat) (f : Track → Track) : (s.modTrack k f).st = s.st := rfl
@[simp] theorem State.modTrack_clk (k : Nat) (f : Track → Track) : (s.modTrack k f).clk = s.clk := rfl
@[simp] theorem State.modTrack_upd (k : Nat) (f : Track → Track) : (s.modTrack k f).upd = s.upd := rfl
@[simp] theorem State.modTrack_mram (k : Nat) (f : Track → Track) : (s.modTrack k f).mram = s.mram := rfl
@[simp] theorem State.modTrack_tracks (k : Nat) (f : Track → Track) : (s.modTrack k f).tracks = tmod {} s.tracks k f := rfl
@[simp] theorem State.modLane_pending (k : Nat) (f : Lane → Lane) : (s.modLane k f).pending = s.pending := rfl
@[simp] theorem State.modLane_now (k : Nat) (f : Lane → Lane) : (s.modLane k f).now = s.now := rfl
@[simp] theorem State.modLane_startAt (k : Nat) (f : Lane → Lane) : (s.modLane k f).startAt = s.startAt := rfl
@[simp] theorem State.modLane_free (k : Nat) (f : Lane → Lane) : (s.modLane k f).free = s.free := rfl
@[simp] theorem State.modLane_regs (k : Nat) (f : Lane → Lane) : (s.modLane k f).regs = s.regs := rfl
@[simp] theorem State.modLane_regsEdge (k : Nat) (f : Lane → Lane) : (s.modLane k f).regsEdge = s.regsEdge := rfl
@[simp] theorem State.modLane_regsBoot (k : Nat) (f : Lane → Lane) : (s.modLane k f).regsBoot = s.regsBoot := rfl
@[simp] theorem State.modLane_vsnap (k : Nat) (f : Lane → Lane) : (s.modLane k f).vsnap = s.vsnap := rfl
@[simp] theorem State.modLane_sNow (k : Nat) (f : Lane → Lane) : (s.modLane k f).sNow = s.sNow := rfl
@[simp] theorem State.modLane_sSample (k : Nat) (f : Lane → Lane) : (s.modLane k f).sSample = s.sSample := rfl
@[simp] theorem State.modLane_inst (k : Nat) (f : Lane → Lane) : (s.modLane k f).inst = s.inst := rfl
@[simp] theorem State.modLane_sHist (k : Nat) (f : Lane → Lane) : (s.modLane k f).sHist = s.sHist := rfl
@[simp] theorem State.modLane_owners (k : Nat) (f : Lane → Lane) : (s.modLane k f).owners = s.owners := rfl
@[simp] theorem State.modLane_chk (k : Nat) (f : Lane → Lane) : (s.modLane k f).chk = s.chk := rfl
@[simp] theorem State.modLane_chkState (k : Nat) (f : Lane → Lane) : (s.modLane k f).chkState = s.chkState := rfl
@[simp] theorem State.modLane_chans (k : Nat) (f : Lane → Lane) : (s.modLane k f).chans = s.chans := rfl
@[simp] theorem State.modLane_tick (k : Nat) (f : Lane → Lane) : (s.modLane k f).tick = s.tick := rfl
@[simp] theorem State.modLane_cams (k : Nat) (f : Lane → Lane) : (s.modLane k f).cams = s.cams := rfl
@[simp] theorem State.modLane_cru (k : Nat) (f : Lane → Lane) : (s.modLane k f).cru = s.cru := rfl
@[simp] theorem State.modLane_views (k : Nat) (f : Lane → Lane) : (s.modLane k f).views = s.views := rfl
@[simp] theorem State.modLane_tracks (k : Nat) (f : Lane → Lane) : (s.modLane k f).tracks = s.tracks := rfl
@[simp] theorem State.modLane_tickClocks (k : Nat) (f : Lane → Lane) : (s.modLane k f).tickClocks = s.tickClocks := rfl
@[simp] theorem State.modLane_tickDone (k : Nat) (f : Lane → Lane) : (s.modLane k f).tickDone = s.tickDone := rfl
@[simp] theorem State.modLane_hostAge (k : Nat) (f : Lane → Lane) : (s.modLane k f).hostAge = s.hostAge := rfl
@[simp] theorem State.modLane_pipes (k : Nat) (f : Lane → Lane) : (s.modLane k f).pipes = s.pipes := rfl
@[simp] theorem State.modLane_cores (k : Nat) (f : Lane → Lane) : (s.modLane k f).cores = s.cores := rfl
@[simp] theorem State.modLane_units (k : Nat) (f : Lane → Lane) : (s.modLane k f).units = s.units := rfl
@[simp] theorem State.modLane_trios (k : Nat) (f : Lane → Lane) : (s.modLane k f).trios = s.trios := rfl
@[simp] theorem State.modLane_fio (k : Nat) (f : Lane → Lane) : (s.modLane k f).fio = s.fio := rfl
@[simp] theorem State.modLane_iol (k : Nat) (f : Lane → Lane) : (s.modLane k f).iol = s.iol := rfl
@[simp] theorem State.modLane_erg (k : Nat) (f : Lane → Lane) : (s.modLane k f).erg = s.erg := rfl
@[simp] theorem State.modLane_host (k : Nat) (f : Lane → Lane) : (s.modLane k f).host = s.host := rfl
@[simp] theorem State.modLane_flt (k : Nat) (f : Lane → Lane) : (s.modLane k f).flt = s.flt := rfl
@[simp] theorem State.modLane_st (k : Nat) (f : Lane → Lane) : (s.modLane k f).st = s.st := rfl
@[simp] theorem State.modLane_clk (k : Nat) (f : Lane → Lane) : (s.modLane k f).clk = s.clk := rfl
@[simp] theorem State.modLane_upd (k : Nat) (f : Lane → Lane) : (s.modLane k f).upd = s.upd := rfl
@[simp] theorem State.modLane_mram (k : Nat) (f : Lane → Lane) : (s.modLane k f).mram = s.mram := rfl
@[simp] theorem State.modLane_lanes (k : Nat) (f : Lane → Lane) : (s.modLane k f).lanes = tmod {} s.lanes k f := rfl
@[simp] theorem State.modPipe_pending (k : Nat) (f : PipeSt → PipeSt) : (s.modPipe k f).pending = s.pending := rfl
@[simp] theorem State.modPipe_now (k : Nat) (f : PipeSt → PipeSt) : (s.modPipe k f).now = s.now := rfl
@[simp] theorem State.modPipe_startAt (k : Nat) (f : PipeSt → PipeSt) : (s.modPipe k f).startAt = s.startAt := rfl
@[simp] theorem State.modPipe_free (k : Nat) (f : PipeSt → PipeSt) : (s.modPipe k f).free = s.free := rfl
@[simp] theorem State.modPipe_regs (k : Nat) (f : PipeSt → PipeSt) : (s.modPipe k f).regs = s.regs := rfl
@[simp] theorem State.modPipe_regsEdge (k : Nat) (f : PipeSt → PipeSt) : (s.modPipe k f).regsEdge = s.regsEdge := rfl
@[simp] theorem State.modPipe_regsBoot (k : Nat) (f : PipeSt → PipeSt) : (s.modPipe k f).regsBoot = s.regsBoot := rfl
@[simp] theorem State.modPipe_vsnap (k : Nat) (f : PipeSt → PipeSt) : (s.modPipe k f).vsnap = s.vsnap := rfl
@[simp] theorem State.modPipe_sNow (k : Nat) (f : PipeSt → PipeSt) : (s.modPipe k f).sNow = s.sNow := rfl
@[simp] theorem State.modPipe_sSample (k : Nat) (f : PipeSt → PipeSt) : (s.modPipe k f).sSample = s.sSample := rfl
@[simp] theorem State.modPipe_inst (k : Nat) (f : PipeSt → PipeSt) : (s.modPipe k f).inst = s.inst := rfl
@[simp] theorem State.modPipe_sHist (k : Nat) (f : PipeSt → PipeSt) : (s.modPipe k f).sHist = s.sHist := rfl
@[simp] theorem State.modPipe_owners (k : Nat) (f : PipeSt → PipeSt) : (s.modPipe k f).owners = s.owners := rfl
@[simp] theorem State.modPipe_chk (k : Nat) (f : PipeSt → PipeSt) : (s.modPipe k f).chk = s.chk := rfl
@[simp] theorem State.modPipe_chkState (k : Nat) (f : PipeSt → PipeSt) : (s.modPipe k f).chkState = s.chkState := rfl
@[simp] theorem State.modPipe_chans (k : Nat) (f : PipeSt → PipeSt) : (s.modPipe k f).chans = s.chans := rfl
@[simp] theorem State.modPipe_tick (k : Nat) (f : PipeSt → PipeSt) : (s.modPipe k f).tick = s.tick := rfl
@[simp] theorem State.modPipe_cams (k : Nat) (f : PipeSt → PipeSt) : (s.modPipe k f).cams = s.cams := rfl
@[simp] theorem State.modPipe_cru (k : Nat) (f : PipeSt → PipeSt) : (s.modPipe k f).cru = s.cru := rfl
@[simp] theorem State.modPipe_views (k : Nat) (f : PipeSt → PipeSt) : (s.modPipe k f).views = s.views := rfl
@[simp] theorem State.modPipe_tracks (k : Nat) (f : PipeSt → PipeSt) : (s.modPipe k f).tracks = s.tracks := rfl
@[simp] theorem State.modPipe_tickClocks (k : Nat) (f : PipeSt → PipeSt) : (s.modPipe k f).tickClocks = s.tickClocks := rfl
@[simp] theorem State.modPipe_tickDone (k : Nat) (f : PipeSt → PipeSt) : (s.modPipe k f).tickDone = s.tickDone := rfl
@[simp] theorem State.modPipe_hostAge (k : Nat) (f : PipeSt → PipeSt) : (s.modPipe k f).hostAge = s.hostAge := rfl
@[simp] theorem State.modPipe_lanes (k : Nat) (f : PipeSt → PipeSt) : (s.modPipe k f).lanes = s.lanes := rfl
@[simp] theorem State.modPipe_cores (k : Nat) (f : PipeSt → PipeSt) : (s.modPipe k f).cores = s.cores := rfl
@[simp] theorem State.modPipe_units (k : Nat) (f : PipeSt → PipeSt) : (s.modPipe k f).units = s.units := rfl
@[simp] theorem State.modPipe_trios (k : Nat) (f : PipeSt → PipeSt) : (s.modPipe k f).trios = s.trios := rfl
@[simp] theorem State.modPipe_fio (k : Nat) (f : PipeSt → PipeSt) : (s.modPipe k f).fio = s.fio := rfl
@[simp] theorem State.modPipe_iol (k : Nat) (f : PipeSt → PipeSt) : (s.modPipe k f).iol = s.iol := rfl
@[simp] theorem State.modPipe_erg (k : Nat) (f : PipeSt → PipeSt) : (s.modPipe k f).erg = s.erg := rfl
@[simp] theorem State.modPipe_host (k : Nat) (f : PipeSt → PipeSt) : (s.modPipe k f).host = s.host := rfl
@[simp] theorem State.modPipe_flt (k : Nat) (f : PipeSt → PipeSt) : (s.modPipe k f).flt = s.flt := rfl
@[simp] theorem State.modPipe_st (k : Nat) (f : PipeSt → PipeSt) : (s.modPipe k f).st = s.st := rfl
@[simp] theorem State.modPipe_clk (k : Nat) (f : PipeSt → PipeSt) : (s.modPipe k f).clk = s.clk := rfl
@[simp] theorem State.modPipe_upd (k : Nat) (f : PipeSt → PipeSt) : (s.modPipe k f).upd = s.upd := rfl
@[simp] theorem State.modPipe_mram (k : Nat) (f : PipeSt → PipeSt) : (s.modPipe k f).mram = s.mram := rfl
@[simp] theorem State.modPipe_pipes (k : Nat) (f : PipeSt → PipeSt) : (s.modPipe k f).pipes = tmod {} s.pipes k f := rfl
@[simp] theorem State.modCore_pending (k : Nat) (f : Core → Core) : (s.modCore k f).pending = s.pending := rfl
@[simp] theorem State.modCore_now (k : Nat) (f : Core → Core) : (s.modCore k f).now = s.now := rfl
@[simp] theorem State.modCore_startAt (k : Nat) (f : Core → Core) : (s.modCore k f).startAt = s.startAt := rfl
@[simp] theorem State.modCore_free (k : Nat) (f : Core → Core) : (s.modCore k f).free = s.free := rfl
@[simp] theorem State.modCore_regs (k : Nat) (f : Core → Core) : (s.modCore k f).regs = s.regs := rfl
@[simp] theorem State.modCore_regsEdge (k : Nat) (f : Core → Core) : (s.modCore k f).regsEdge = s.regsEdge := rfl
@[simp] theorem State.modCore_regsBoot (k : Nat) (f : Core → Core) : (s.modCore k f).regsBoot = s.regsBoot := rfl
@[simp] theorem State.modCore_vsnap (k : Nat) (f : Core → Core) : (s.modCore k f).vsnap = s.vsnap := rfl
@[simp] theorem State.modCore_sNow (k : Nat) (f : Core → Core) : (s.modCore k f).sNow = s.sNow := rfl
@[simp] theorem State.modCore_sSample (k : Nat) (f : Core → Core) : (s.modCore k f).sSample = s.sSample := rfl
@[simp] theorem State.modCore_inst (k : Nat) (f : Core → Core) : (s.modCore k f).inst = s.inst := rfl
@[simp] theorem State.modCore_sHist (k : Nat) (f : Core → Core) : (s.modCore k f).sHist = s.sHist := rfl
@[simp] theorem State.modCore_owners (k : Nat) (f : Core → Core) : (s.modCore k f).owners = s.owners := rfl
@[simp] theorem State.modCore_chk (k : Nat) (f : Core → Core) : (s.modCore k f).chk = s.chk := rfl
@[simp] theorem State.modCore_chkState (k : Nat) (f : Core → Core) : (s.modCore k f).chkState = s.chkState := rfl
@[simp] theorem State.modCore_chans (k : Nat) (f : Core → Core) : (s.modCore k f).chans = s.chans := rfl
@[simp] theorem State.modCore_tick (k : Nat) (f : Core → Core) : (s.modCore k f).tick = s.tick := rfl
@[simp] theorem State.modCore_cams (k : Nat) (f : Core → Core) : (s.modCore k f).cams = s.cams := rfl
@[simp] theorem State.modCore_cru (k : Nat) (f : Core → Core) : (s.modCore k f).cru = s.cru := rfl
@[simp] theorem State.modCore_views (k : Nat) (f : Core → Core) : (s.modCore k f).views = s.views := rfl
@[simp] theorem State.modCore_tracks (k : Nat) (f : Core → Core) : (s.modCore k f).tracks = s.tracks := rfl
@[simp] theorem State.modCore_tickClocks (k : Nat) (f : Core → Core) : (s.modCore k f).tickClocks = s.tickClocks := rfl
@[simp] theorem State.modCore_tickDone (k : Nat) (f : Core → Core) : (s.modCore k f).tickDone = s.tickDone := rfl
@[simp] theorem State.modCore_hostAge (k : Nat) (f : Core → Core) : (s.modCore k f).hostAge = s.hostAge := rfl
@[simp] theorem State.modCore_lanes (k : Nat) (f : Core → Core) : (s.modCore k f).lanes = s.lanes := rfl
@[simp] theorem State.modCore_pipes (k : Nat) (f : Core → Core) : (s.modCore k f).pipes = s.pipes := rfl
@[simp] theorem State.modCore_units (k : Nat) (f : Core → Core) : (s.modCore k f).units = s.units := rfl
@[simp] theorem State.modCore_trios (k : Nat) (f : Core → Core) : (s.modCore k f).trios = s.trios := rfl
@[simp] theorem State.modCore_fio (k : Nat) (f : Core → Core) : (s.modCore k f).fio = s.fio := rfl
@[simp] theorem State.modCore_iol (k : Nat) (f : Core → Core) : (s.modCore k f).iol = s.iol := rfl
@[simp] theorem State.modCore_erg (k : Nat) (f : Core → Core) : (s.modCore k f).erg = s.erg := rfl
@[simp] theorem State.modCore_host (k : Nat) (f : Core → Core) : (s.modCore k f).host = s.host := rfl
@[simp] theorem State.modCore_flt (k : Nat) (f : Core → Core) : (s.modCore k f).flt = s.flt := rfl
@[simp] theorem State.modCore_st (k : Nat) (f : Core → Core) : (s.modCore k f).st = s.st := rfl
@[simp] theorem State.modCore_clk (k : Nat) (f : Core → Core) : (s.modCore k f).clk = s.clk := rfl
@[simp] theorem State.modCore_upd (k : Nat) (f : Core → Core) : (s.modCore k f).upd = s.upd := rfl
@[simp] theorem State.modCore_mram (k : Nat) (f : Core → Core) : (s.modCore k f).mram = s.mram := rfl
@[simp] theorem State.modCore_cores (k : Nat) (f : Core → Core) : (s.modCore k f).cores = tmod {} s.cores k f := rfl
@[simp] theorem State.modUnit_pending (k : Nat) (f : RunUnit → RunUnit) : (s.modUnit k f).pending = s.pending := rfl
@[simp] theorem State.modUnit_now (k : Nat) (f : RunUnit → RunUnit) : (s.modUnit k f).now = s.now := rfl
@[simp] theorem State.modUnit_startAt (k : Nat) (f : RunUnit → RunUnit) : (s.modUnit k f).startAt = s.startAt := rfl
@[simp] theorem State.modUnit_free (k : Nat) (f : RunUnit → RunUnit) : (s.modUnit k f).free = s.free := rfl
@[simp] theorem State.modUnit_regs (k : Nat) (f : RunUnit → RunUnit) : (s.modUnit k f).regs = s.regs := rfl
@[simp] theorem State.modUnit_regsEdge (k : Nat) (f : RunUnit → RunUnit) : (s.modUnit k f).regsEdge = s.regsEdge := rfl
@[simp] theorem State.modUnit_regsBoot (k : Nat) (f : RunUnit → RunUnit) : (s.modUnit k f).regsBoot = s.regsBoot := rfl
@[simp] theorem State.modUnit_vsnap (k : Nat) (f : RunUnit → RunUnit) : (s.modUnit k f).vsnap = s.vsnap := rfl
@[simp] theorem State.modUnit_sNow (k : Nat) (f : RunUnit → RunUnit) : (s.modUnit k f).sNow = s.sNow := rfl
@[simp] theorem State.modUnit_sSample (k : Nat) (f : RunUnit → RunUnit) : (s.modUnit k f).sSample = s.sSample := rfl
@[simp] theorem State.modUnit_inst (k : Nat) (f : RunUnit → RunUnit) : (s.modUnit k f).inst = s.inst := rfl
@[simp] theorem State.modUnit_sHist (k : Nat) (f : RunUnit → RunUnit) : (s.modUnit k f).sHist = s.sHist := rfl
@[simp] theorem State.modUnit_owners (k : Nat) (f : RunUnit → RunUnit) : (s.modUnit k f).owners = s.owners := rfl
@[simp] theorem State.modUnit_chk (k : Nat) (f : RunUnit → RunUnit) : (s.modUnit k f).chk = s.chk := rfl
@[simp] theorem State.modUnit_chkState (k : Nat) (f : RunUnit → RunUnit) : (s.modUnit k f).chkState = s.chkState := rfl
@[simp] theorem State.modUnit_chans (k : Nat) (f : RunUnit → RunUnit) : (s.modUnit k f).chans = s.chans := rfl
@[simp] theorem State.modUnit_tick (k : Nat) (f : RunUnit → RunUnit) : (s.modUnit k f).tick = s.tick := rfl
@[simp] theorem State.modUnit_cams (k : Nat) (f : RunUnit → RunUnit) : (s.modUnit k f).cams = s.cams := rfl
@[simp] theorem State.modUnit_cru (k : Nat) (f : RunUnit → RunUnit) : (s.modUnit k f).cru = s.cru := rfl
@[simp] theorem State.modUnit_views (k : Nat) (f : RunUnit → RunUnit) : (s.modUnit k f).views = s.views := rfl
@[simp] theorem State.modUnit_tracks (k : Nat) (f : RunUnit → RunUnit) : (s.modUnit k f).tracks = s.tracks := rfl
@[simp] theorem State.modUnit_tickClocks (k : Nat) (f : RunUnit → RunUnit) : (s.modUnit k f).tickClocks = s.tickClocks := rfl
@[simp] theorem State.modUnit_tickDone (k : Nat) (f : RunUnit → RunUnit) : (s.modUnit k f).tickDone = s.tickDone := rfl
@[simp] theorem State.modUnit_hostAge (k : Nat) (f : RunUnit → RunUnit) : (s.modUnit k f).hostAge = s.hostAge := rfl
@[simp] theorem State.modUnit_lanes (k : Nat) (f : RunUnit → RunUnit) : (s.modUnit k f).lanes = s.lanes := rfl
@[simp] theorem State.modUnit_pipes (k : Nat) (f : RunUnit → RunUnit) : (s.modUnit k f).pipes = s.pipes := rfl
@[simp] theorem State.modUnit_cores (k : Nat) (f : RunUnit → RunUnit) : (s.modUnit k f).cores = s.cores := rfl
@[simp] theorem State.modUnit_trios (k : Nat) (f : RunUnit → RunUnit) : (s.modUnit k f).trios = s.trios := rfl
@[simp] theorem State.modUnit_fio (k : Nat) (f : RunUnit → RunUnit) : (s.modUnit k f).fio = s.fio := rfl
@[simp] theorem State.modUnit_iol (k : Nat) (f : RunUnit → RunUnit) : (s.modUnit k f).iol = s.iol := rfl
@[simp] theorem State.modUnit_erg (k : Nat) (f : RunUnit → RunUnit) : (s.modUnit k f).erg = s.erg := rfl
@[simp] theorem State.modUnit_host (k : Nat) (f : RunUnit → RunUnit) : (s.modUnit k f).host = s.host := rfl
@[simp] theorem State.modUnit_flt (k : Nat) (f : RunUnit → RunUnit) : (s.modUnit k f).flt = s.flt := rfl
@[simp] theorem State.modUnit_st (k : Nat) (f : RunUnit → RunUnit) : (s.modUnit k f).st = s.st := rfl
@[simp] theorem State.modUnit_clk (k : Nat) (f : RunUnit → RunUnit) : (s.modUnit k f).clk = s.clk := rfl
@[simp] theorem State.modUnit_upd (k : Nat) (f : RunUnit → RunUnit) : (s.modUnit k f).upd = s.upd := rfl
@[simp] theorem State.modUnit_mram (k : Nat) (f : RunUnit → RunUnit) : (s.modUnit k f).mram = s.mram := rfl
@[simp] theorem State.modUnit_units (k : Nat) (f : RunUnit → RunUnit) : (s.modUnit k f).units = tmod {} s.units k f := rfl
@[simp] theorem State.modTrio_pending (k : Nat) (f : TrioSt → TrioSt) : (s.modTrio k f).pending = s.pending := rfl
@[simp] theorem State.modTrio_now (k : Nat) (f : TrioSt → TrioSt) : (s.modTrio k f).now = s.now := rfl
@[simp] theorem State.modTrio_startAt (k : Nat) (f : TrioSt → TrioSt) : (s.modTrio k f).startAt = s.startAt := rfl
@[simp] theorem State.modTrio_free (k : Nat) (f : TrioSt → TrioSt) : (s.modTrio k f).free = s.free := rfl
@[simp] theorem State.modTrio_regs (k : Nat) (f : TrioSt → TrioSt) : (s.modTrio k f).regs = s.regs := rfl
@[simp] theorem State.modTrio_regsEdge (k : Nat) (f : TrioSt → TrioSt) : (s.modTrio k f).regsEdge = s.regsEdge := rfl
@[simp] theorem State.modTrio_regsBoot (k : Nat) (f : TrioSt → TrioSt) : (s.modTrio k f).regsBoot = s.regsBoot := rfl
@[simp] theorem State.modTrio_vsnap (k : Nat) (f : TrioSt → TrioSt) : (s.modTrio k f).vsnap = s.vsnap := rfl
@[simp] theorem State.modTrio_sNow (k : Nat) (f : TrioSt → TrioSt) : (s.modTrio k f).sNow = s.sNow := rfl
@[simp] theorem State.modTrio_sSample (k : Nat) (f : TrioSt → TrioSt) : (s.modTrio k f).sSample = s.sSample := rfl
@[simp] theorem State.modTrio_inst (k : Nat) (f : TrioSt → TrioSt) : (s.modTrio k f).inst = s.inst := rfl
@[simp] theorem State.modTrio_sHist (k : Nat) (f : TrioSt → TrioSt) : (s.modTrio k f).sHist = s.sHist := rfl
@[simp] theorem State.modTrio_owners (k : Nat) (f : TrioSt → TrioSt) : (s.modTrio k f).owners = s.owners := rfl
@[simp] theorem State.modTrio_chk (k : Nat) (f : TrioSt → TrioSt) : (s.modTrio k f).chk = s.chk := rfl
@[simp] theorem State.modTrio_chkState (k : Nat) (f : TrioSt → TrioSt) : (s.modTrio k f).chkState = s.chkState := rfl
@[simp] theorem State.modTrio_chans (k : Nat) (f : TrioSt → TrioSt) : (s.modTrio k f).chans = s.chans := rfl
@[simp] theorem State.modTrio_tick (k : Nat) (f : TrioSt → TrioSt) : (s.modTrio k f).tick = s.tick := rfl
@[simp] theorem State.modTrio_cams (k : Nat) (f : TrioSt → TrioSt) : (s.modTrio k f).cams = s.cams := rfl
@[simp] theorem State.modTrio_cru (k : Nat) (f : TrioSt → TrioSt) : (s.modTrio k f).cru = s.cru := rfl
@[simp] theorem State.modTrio_views (k : Nat) (f : TrioSt → TrioSt) : (s.modTrio k f).views = s.views := rfl
@[simp] theorem State.modTrio_tracks (k : Nat) (f : TrioSt → TrioSt) : (s.modTrio k f).tracks = s.tracks := rfl
@[simp] theorem State.modTrio_tickClocks (k : Nat) (f : TrioSt → TrioSt) : (s.modTrio k f).tickClocks = s.tickClocks := rfl
@[simp] theorem State.modTrio_tickDone (k : Nat) (f : TrioSt → TrioSt) : (s.modTrio k f).tickDone = s.tickDone := rfl
@[simp] theorem State.modTrio_hostAge (k : Nat) (f : TrioSt → TrioSt) : (s.modTrio k f).hostAge = s.hostAge := rfl
@[simp] theorem State.modTrio_lanes (k : Nat) (f : TrioSt → TrioSt) : (s.modTrio k f).lanes = s.lanes := rfl
@[simp] theorem State.modTrio_pipes (k : Nat) (f : TrioSt → TrioSt) : (s.modTrio k f).pipes = s.pipes := rfl
@[simp] theorem State.modTrio_cores (k : Nat) (f : TrioSt → TrioSt) : (s.modTrio k f).cores = s.cores := rfl
@[simp] theorem State.modTrio_units (k : Nat) (f : TrioSt → TrioSt) : (s.modTrio k f).units = s.units := rfl
@[simp] theorem State.modTrio_fio (k : Nat) (f : TrioSt → TrioSt) : (s.modTrio k f).fio = s.fio := rfl
@[simp] theorem State.modTrio_iol (k : Nat) (f : TrioSt → TrioSt) : (s.modTrio k f).iol = s.iol := rfl
@[simp] theorem State.modTrio_erg (k : Nat) (f : TrioSt → TrioSt) : (s.modTrio k f).erg = s.erg := rfl
@[simp] theorem State.modTrio_host (k : Nat) (f : TrioSt → TrioSt) : (s.modTrio k f).host = s.host := rfl
@[simp] theorem State.modTrio_flt (k : Nat) (f : TrioSt → TrioSt) : (s.modTrio k f).flt = s.flt := rfl
@[simp] theorem State.modTrio_st (k : Nat) (f : TrioSt → TrioSt) : (s.modTrio k f).st = s.st := rfl
@[simp] theorem State.modTrio_clk (k : Nat) (f : TrioSt → TrioSt) : (s.modTrio k f).clk = s.clk := rfl
@[simp] theorem State.modTrio_upd (k : Nat) (f : TrioSt → TrioSt) : (s.modTrio k f).upd = s.upd := rfl
@[simp] theorem State.modTrio_mram (k : Nat) (f : TrioSt → TrioSt) : (s.modTrio k f).mram = s.mram := rfl
@[simp] theorem State.modTrio_trios (k : Nat) (f : TrioSt → TrioSt) : (s.modTrio k f).trios = tmod {} s.trios k f := rfl
@[simp] theorem State.modCru_pending (f : CruSt → CruSt) : (s.modCru f).pending = s.pending := rfl
@[simp] theorem State.modCru_now (f : CruSt → CruSt) : (s.modCru f).now = s.now := rfl
@[simp] theorem State.modCru_startAt (f : CruSt → CruSt) : (s.modCru f).startAt = s.startAt := rfl
@[simp] theorem State.modCru_free (f : CruSt → CruSt) : (s.modCru f).free = s.free := rfl
@[simp] theorem State.modCru_regs (f : CruSt → CruSt) : (s.modCru f).regs = s.regs := rfl
@[simp] theorem State.modCru_regsEdge (f : CruSt → CruSt) : (s.modCru f).regsEdge = s.regsEdge := rfl
@[simp] theorem State.modCru_regsBoot (f : CruSt → CruSt) : (s.modCru f).regsBoot = s.regsBoot := rfl
@[simp] theorem State.modCru_vsnap (f : CruSt → CruSt) : (s.modCru f).vsnap = s.vsnap := rfl
@[simp] theorem State.modCru_sNow (f : CruSt → CruSt) : (s.modCru f).sNow = s.sNow := rfl
@[simp] theorem State.modCru_sSample (f : CruSt → CruSt) : (s.modCru f).sSample = s.sSample := rfl
@[simp] theorem State.modCru_inst (f : CruSt → CruSt) : (s.modCru f).inst = s.inst := rfl
@[simp] theorem State.modCru_sHist (f : CruSt → CruSt) : (s.modCru f).sHist = s.sHist := rfl
@[simp] theorem State.modCru_owners (f : CruSt → CruSt) : (s.modCru f).owners = s.owners := rfl
@[simp] theorem State.modCru_chk (f : CruSt → CruSt) : (s.modCru f).chk = s.chk := rfl
@[simp] theorem State.modCru_chkState (f : CruSt → CruSt) : (s.modCru f).chkState = s.chkState := rfl
@[simp] theorem State.modCru_chans (f : CruSt → CruSt) : (s.modCru f).chans = s.chans := rfl
@[simp] theorem State.modCru_tick (f : CruSt → CruSt) : (s.modCru f).tick = s.tick := rfl
@[simp] theorem State.modCru_cams (f : CruSt → CruSt) : (s.modCru f).cams = s.cams := rfl
@[simp] theorem State.modCru_views (f : CruSt → CruSt) : (s.modCru f).views = s.views := rfl
@[simp] theorem State.modCru_tracks (f : CruSt → CruSt) : (s.modCru f).tracks = s.tracks := rfl
@[simp] theorem State.modCru_tickClocks (f : CruSt → CruSt) : (s.modCru f).tickClocks = s.tickClocks := rfl
@[simp] theorem State.modCru_tickDone (f : CruSt → CruSt) : (s.modCru f).tickDone = s.tickDone := rfl
@[simp] theorem State.modCru_hostAge (f : CruSt → CruSt) : (s.modCru f).hostAge = s.hostAge := rfl
@[simp] theorem State.modCru_lanes (f : CruSt → CruSt) : (s.modCru f).lanes = s.lanes := rfl
@[simp] theorem State.modCru_pipes (f : CruSt → CruSt) : (s.modCru f).pipes = s.pipes := rfl
@[simp] theorem State.modCru_cores (f : CruSt → CruSt) : (s.modCru f).cores = s.cores := rfl
@[simp] theorem State.modCru_units (f : CruSt → CruSt) : (s.modCru f).units = s.units := rfl
@[simp] theorem State.modCru_trios (f : CruSt → CruSt) : (s.modCru f).trios = s.trios := rfl
@[simp] theorem State.modCru_fio (f : CruSt → CruSt) : (s.modCru f).fio = s.fio := rfl
@[simp] theorem State.modCru_iol (f : CruSt → CruSt) : (s.modCru f).iol = s.iol := rfl
@[simp] theorem State.modCru_erg (f : CruSt → CruSt) : (s.modCru f).erg = s.erg := rfl
@[simp] theorem State.modCru_host (f : CruSt → CruSt) : (s.modCru f).host = s.host := rfl
@[simp] theorem State.modCru_flt (f : CruSt → CruSt) : (s.modCru f).flt = s.flt := rfl
@[simp] theorem State.modCru_st (f : CruSt → CruSt) : (s.modCru f).st = s.st := rfl
@[simp] theorem State.modCru_clk (f : CruSt → CruSt) : (s.modCru f).clk = s.clk := rfl
@[simp] theorem State.modCru_upd (f : CruSt → CruSt) : (s.modCru f).upd = s.upd := rfl
@[simp] theorem State.modCru_mram (f : CruSt → CruSt) : (s.modCru f).mram = s.mram := rfl
@[simp] theorem State.modCru_cru (f : CruSt → CruSt) : (s.modCru f).cru = f s.cru := rfl
@[simp] theorem State.modHost_pending (f : HostSt → HostSt) : (s.modHost f).pending = s.pending := rfl
@[simp] theorem State.modHost_now (f : HostSt → HostSt) : (s.modHost f).now = s.now := rfl
@[simp] theorem State.modHost_startAt (f : HostSt → HostSt) : (s.modHost f).startAt = s.startAt := rfl
@[simp] theorem State.modHost_free (f : HostSt → HostSt) : (s.modHost f).free = s.free := rfl
@[simp] theorem State.modHost_regs (f : HostSt → HostSt) : (s.modHost f).regs = s.regs := rfl
@[simp] theorem State.modHost_regsEdge (f : HostSt → HostSt) : (s.modHost f).regsEdge = s.regsEdge := rfl
@[simp] theorem State.modHost_regsBoot (f : HostSt → HostSt) : (s.modHost f).regsBoot = s.regsBoot := rfl
@[simp] theorem State.modHost_vsnap (f : HostSt → HostSt) : (s.modHost f).vsnap = s.vsnap := rfl
@[simp] theorem State.modHost_sNow (f : HostSt → HostSt) : (s.modHost f).sNow = s.sNow := rfl
@[simp] theorem State.modHost_sSample (f : HostSt → HostSt) : (s.modHost f).sSample = s.sSample := rfl
@[simp] theorem State.modHost_inst (f : HostSt → HostSt) : (s.modHost f).inst = s.inst := rfl
@[simp] theorem State.modHost_sHist (f : HostSt → HostSt) : (s.modHost f).sHist = s.sHist := rfl
@[simp] theorem State.modHost_owners (f : HostSt → HostSt) : (s.modHost f).owners = s.owners := rfl
@[simp] theorem State.modHost_chk (f : HostSt → HostSt) : (s.modHost f).chk = s.chk := rfl
@[simp] theorem State.modHost_chkState (f : HostSt → HostSt) : (s.modHost f).chkState = s.chkState := rfl
@[simp] theorem State.modHost_chans (f : HostSt → HostSt) : (s.modHost f).chans = s.chans := rfl
@[simp] theorem State.modHost_tick (f : HostSt → HostSt) : (s.modHost f).tick = s.tick := rfl
@[simp] theorem State.modHost_cams (f : HostSt → HostSt) : (s.modHost f).cams = s.cams := rfl
@[simp] theorem State.modHost_cru (f : HostSt → HostSt) : (s.modHost f).cru = s.cru := rfl
@[simp] theorem State.modHost_views (f : HostSt → HostSt) : (s.modHost f).views = s.views := rfl
@[simp] theorem State.modHost_tracks (f : HostSt → HostSt) : (s.modHost f).tracks = s.tracks := rfl
@[simp] theorem State.modHost_tickClocks (f : HostSt → HostSt) : (s.modHost f).tickClocks = s.tickClocks := rfl
@[simp] theorem State.modHost_tickDone (f : HostSt → HostSt) : (s.modHost f).tickDone = s.tickDone := rfl
@[simp] theorem State.modHost_hostAge (f : HostSt → HostSt) : (s.modHost f).hostAge = s.hostAge := rfl
@[simp] theorem State.modHost_lanes (f : HostSt → HostSt) : (s.modHost f).lanes = s.lanes := rfl
@[simp] theorem State.modHost_pipes (f : HostSt → HostSt) : (s.modHost f).pipes = s.pipes := rfl
@[simp] theorem State.modHost_cores (f : HostSt → HostSt) : (s.modHost f).cores = s.cores := rfl
@[simp] theorem State.modHost_units (f : HostSt → HostSt) : (s.modHost f).units = s.units := rfl
@[simp] theorem State.modHost_trios (f : HostSt → HostSt) : (s.modHost f).trios = s.trios := rfl
@[simp] theorem State.modHost_fio (f : HostSt → HostSt) : (s.modHost f).fio = s.fio := rfl
@[simp] theorem State.modHost_iol (f : HostSt → HostSt) : (s.modHost f).iol = s.iol := rfl
@[simp] theorem State.modHost_erg (f : HostSt → HostSt) : (s.modHost f).erg = s.erg := rfl
@[simp] theorem State.modHost_flt (f : HostSt → HostSt) : (s.modHost f).flt = s.flt := rfl
@[simp] theorem State.modHost_st (f : HostSt → HostSt) : (s.modHost f).st = s.st := rfl
@[simp] theorem State.modHost_clk (f : HostSt → HostSt) : (s.modHost f).clk = s.clk := rfl
@[simp] theorem State.modHost_upd (f : HostSt → HostSt) : (s.modHost f).upd = s.upd := rfl
@[simp] theorem State.modHost_mram (f : HostSt → HostSt) : (s.modHost f).mram = s.mram := rfl
@[simp] theorem State.modHost_host (f : HostSt → HostSt) : (s.modHost f).host = f s.host := rfl
@[simp] theorem State.modFlt_pending (f : FaultSt → FaultSt) : (s.modFlt f).pending = s.pending := rfl
@[simp] theorem State.modFlt_now (f : FaultSt → FaultSt) : (s.modFlt f).now = s.now := rfl
@[simp] theorem State.modFlt_startAt (f : FaultSt → FaultSt) : (s.modFlt f).startAt = s.startAt := rfl
@[simp] theorem State.modFlt_free (f : FaultSt → FaultSt) : (s.modFlt f).free = s.free := rfl
@[simp] theorem State.modFlt_regs (f : FaultSt → FaultSt) : (s.modFlt f).regs = s.regs := rfl
@[simp] theorem State.modFlt_regsEdge (f : FaultSt → FaultSt) : (s.modFlt f).regsEdge = s.regsEdge := rfl
@[simp] theorem State.modFlt_regsBoot (f : FaultSt → FaultSt) : (s.modFlt f).regsBoot = s.regsBoot := rfl
@[simp] theorem State.modFlt_vsnap (f : FaultSt → FaultSt) : (s.modFlt f).vsnap = s.vsnap := rfl
@[simp] theorem State.modFlt_sNow (f : FaultSt → FaultSt) : (s.modFlt f).sNow = s.sNow := rfl
@[simp] theorem State.modFlt_sSample (f : FaultSt → FaultSt) : (s.modFlt f).sSample = s.sSample := rfl
@[simp] theorem State.modFlt_inst (f : FaultSt → FaultSt) : (s.modFlt f).inst = s.inst := rfl
@[simp] theorem State.modFlt_sHist (f : FaultSt → FaultSt) : (s.modFlt f).sHist = s.sHist := rfl
@[simp] theorem State.modFlt_owners (f : FaultSt → FaultSt) : (s.modFlt f).owners = s.owners := rfl
@[simp] theorem State.modFlt_chk (f : FaultSt → FaultSt) : (s.modFlt f).chk = s.chk := rfl
@[simp] theorem State.modFlt_chkState (f : FaultSt → FaultSt) : (s.modFlt f).chkState = s.chkState := rfl
@[simp] theorem State.modFlt_chans (f : FaultSt → FaultSt) : (s.modFlt f).chans = s.chans := rfl
@[simp] theorem State.modFlt_tick (f : FaultSt → FaultSt) : (s.modFlt f).tick = s.tick := rfl
@[simp] theorem State.modFlt_cams (f : FaultSt → FaultSt) : (s.modFlt f).cams = s.cams := rfl
@[simp] theorem State.modFlt_cru (f : FaultSt → FaultSt) : (s.modFlt f).cru = s.cru := rfl
@[simp] theorem State.modFlt_views (f : FaultSt → FaultSt) : (s.modFlt f).views = s.views := rfl
@[simp] theorem State.modFlt_tracks (f : FaultSt → FaultSt) : (s.modFlt f).tracks = s.tracks := rfl
@[simp] theorem State.modFlt_tickClocks (f : FaultSt → FaultSt) : (s.modFlt f).tickClocks = s.tickClocks := rfl
@[simp] theorem State.modFlt_tickDone (f : FaultSt → FaultSt) : (s.modFlt f).tickDone = s.tickDone := rfl
@[simp] theorem State.modFlt_hostAge (f : FaultSt → FaultSt) : (s.modFlt f).hostAge = s.hostAge := rfl
@[simp] theorem State.modFlt_lanes (f : FaultSt → FaultSt) : (s.modFlt f).lanes = s.lanes := rfl
@[simp] theorem State.modFlt_pipes (f : FaultSt → FaultSt) : (s.modFlt f).pipes = s.pipes := rfl
@[simp] theorem State.modFlt_cores (f : FaultSt → FaultSt) : (s.modFlt f).cores = s.cores := rfl
@[simp] theorem State.modFlt_units (f : FaultSt → FaultSt) : (s.modFlt f).units = s.units := rfl
@[simp] theorem State.modFlt_trios (f : FaultSt → FaultSt) : (s.modFlt f).trios = s.trios := rfl
@[simp] theorem State.modFlt_fio (f : FaultSt → FaultSt) : (s.modFlt f).fio = s.fio := rfl
@[simp] theorem State.modFlt_iol (f : FaultSt → FaultSt) : (s.modFlt f).iol = s.iol := rfl
@[simp] theorem State.modFlt_erg (f : FaultSt → FaultSt) : (s.modFlt f).erg = s.erg := rfl
@[simp] theorem State.modFlt_host (f : FaultSt → FaultSt) : (s.modFlt f).host = s.host := rfl
@[simp] theorem State.modFlt_st (f : FaultSt → FaultSt) : (s.modFlt f).st = s.st := rfl
@[simp] theorem State.modFlt_clk (f : FaultSt → FaultSt) : (s.modFlt f).clk = s.clk := rfl
@[simp] theorem State.modFlt_upd (f : FaultSt → FaultSt) : (s.modFlt f).upd = s.upd := rfl
@[simp] theorem State.modFlt_mram (f : FaultSt → FaultSt) : (s.modFlt f).mram = s.mram := rfl
@[simp] theorem State.modFlt_flt (f : FaultSt → FaultSt) : (s.modFlt f).flt = f s.flt := rfl
@[simp] theorem State.modFio_pending (f : FioSt → FioSt) : (s.modFio f).pending = s.pending := rfl
@[simp] theorem State.modFio_now (f : FioSt → FioSt) : (s.modFio f).now = s.now := rfl
@[simp] theorem State.modFio_startAt (f : FioSt → FioSt) : (s.modFio f).startAt = s.startAt := rfl
@[simp] theorem State.modFio_free (f : FioSt → FioSt) : (s.modFio f).free = s.free := rfl
@[simp] theorem State.modFio_regs (f : FioSt → FioSt) : (s.modFio f).regs = s.regs := rfl
@[simp] theorem State.modFio_regsEdge (f : FioSt → FioSt) : (s.modFio f).regsEdge = s.regsEdge := rfl
@[simp] theorem State.modFio_regsBoot (f : FioSt → FioSt) : (s.modFio f).regsBoot = s.regsBoot := rfl
@[simp] theorem State.modFio_vsnap (f : FioSt → FioSt) : (s.modFio f).vsnap = s.vsnap := rfl
@[simp] theorem State.modFio_sNow (f : FioSt → FioSt) : (s.modFio f).sNow = s.sNow := rfl
@[simp] theorem State.modFio_sSample (f : FioSt → FioSt) : (s.modFio f).sSample = s.sSample := rfl
@[simp] theorem State.modFio_inst (f : FioSt → FioSt) : (s.modFio f).inst = s.inst := rfl
@[simp] theorem State.modFio_sHist (f : FioSt → FioSt) : (s.modFio f).sHist = s.sHist := rfl
@[simp] theorem State.modFio_owners (f : FioSt → FioSt) : (s.modFio f).owners = s.owners := rfl
@[simp] theorem State.modFio_chk (f : FioSt → FioSt) : (s.modFio f).chk = s.chk := rfl
@[simp] theorem State.modFio_chkState (f : FioSt → FioSt) : (s.modFio f).chkState = s.chkState := rfl
@[simp] theorem State.modFio_chans (f : FioSt → FioSt) : (s.modFio f).chans = s.chans := rfl
@[simp] theorem State.modFio_tick (f : FioSt → FioSt) : (s.modFio f).tick = s.tick := rfl
@[simp] theorem State.modFio_cams (f : FioSt → FioSt) : (s.modFio f).cams = s.cams := rfl
@[simp] theorem State.modFio_cru (f : FioSt → FioSt) : (s.modFio f).cru = s.cru := rfl
@[simp] theorem State.modFio_views (f : FioSt → FioSt) : (s.modFio f).views = s.views := rfl
@[simp] theorem State.modFio_tracks (f : FioSt → FioSt) : (s.modFio f).tracks = s.tracks := rfl
@[simp] theorem State.modFio_tickClocks (f : FioSt → FioSt) : (s.modFio f).tickClocks = s.tickClocks := rfl
@[simp] theorem State.modFio_tickDone (f : FioSt → FioSt) : (s.modFio f).tickDone = s.tickDone := rfl
@[simp] theorem State.modFio_hostAge (f : FioSt → FioSt) : (s.modFio f).hostAge = s.hostAge := rfl
@[simp] theorem State.modFio_lanes (f : FioSt → FioSt) : (s.modFio f).lanes = s.lanes := rfl
@[simp] theorem State.modFio_pipes (f : FioSt → FioSt) : (s.modFio f).pipes = s.pipes := rfl
@[simp] theorem State.modFio_cores (f : FioSt → FioSt) : (s.modFio f).cores = s.cores := rfl
@[simp] theorem State.modFio_units (f : FioSt → FioSt) : (s.modFio f).units = s.units := rfl
@[simp] theorem State.modFio_trios (f : FioSt → FioSt) : (s.modFio f).trios = s.trios := rfl
@[simp] theorem State.modFio_iol (f : FioSt → FioSt) : (s.modFio f).iol = s.iol := rfl
@[simp] theorem State.modFio_erg (f : FioSt → FioSt) : (s.modFio f).erg = s.erg := rfl
@[simp] theorem State.modFio_host (f : FioSt → FioSt) : (s.modFio f).host = s.host := rfl
@[simp] theorem State.modFio_flt (f : FioSt → FioSt) : (s.modFio f).flt = s.flt := rfl
@[simp] theorem State.modFio_st (f : FioSt → FioSt) : (s.modFio f).st = s.st := rfl
@[simp] theorem State.modFio_clk (f : FioSt → FioSt) : (s.modFio f).clk = s.clk := rfl
@[simp] theorem State.modFio_upd (f : FioSt → FioSt) : (s.modFio f).upd = s.upd := rfl
@[simp] theorem State.modFio_mram (f : FioSt → FioSt) : (s.modFio f).mram = s.mram := rfl
@[simp] theorem State.modFio_fio (f : FioSt → FioSt) : (s.modFio f).fio = f s.fio := rfl
@[simp] theorem State.modErg_pending (f : ErgSt → ErgSt) : (s.modErg f).pending = s.pending := rfl
@[simp] theorem State.modErg_now (f : ErgSt → ErgSt) : (s.modErg f).now = s.now := rfl
@[simp] theorem State.modErg_startAt (f : ErgSt → ErgSt) : (s.modErg f).startAt = s.startAt := rfl
@[simp] theorem State.modErg_free (f : ErgSt → ErgSt) : (s.modErg f).free = s.free := rfl
@[simp] theorem State.modErg_regs (f : ErgSt → ErgSt) : (s.modErg f).regs = s.regs := rfl
@[simp] theorem State.modErg_regsEdge (f : ErgSt → ErgSt) : (s.modErg f).regsEdge = s.regsEdge := rfl
@[simp] theorem State.modErg_regsBoot (f : ErgSt → ErgSt) : (s.modErg f).regsBoot = s.regsBoot := rfl
@[simp] theorem State.modErg_vsnap (f : ErgSt → ErgSt) : (s.modErg f).vsnap = s.vsnap := rfl
@[simp] theorem State.modErg_sNow (f : ErgSt → ErgSt) : (s.modErg f).sNow = s.sNow := rfl
@[simp] theorem State.modErg_sSample (f : ErgSt → ErgSt) : (s.modErg f).sSample = s.sSample := rfl
@[simp] theorem State.modErg_inst (f : ErgSt → ErgSt) : (s.modErg f).inst = s.inst := rfl
@[simp] theorem State.modErg_sHist (f : ErgSt → ErgSt) : (s.modErg f).sHist = s.sHist := rfl
@[simp] theorem State.modErg_owners (f : ErgSt → ErgSt) : (s.modErg f).owners = s.owners := rfl
@[simp] theorem State.modErg_chk (f : ErgSt → ErgSt) : (s.modErg f).chk = s.chk := rfl
@[simp] theorem State.modErg_chkState (f : ErgSt → ErgSt) : (s.modErg f).chkState = s.chkState := rfl
@[simp] theorem State.modErg_chans (f : ErgSt → ErgSt) : (s.modErg f).chans = s.chans := rfl
@[simp] theorem State.modErg_tick (f : ErgSt → ErgSt) : (s.modErg f).tick = s.tick := rfl
@[simp] theorem State.modErg_cams (f : ErgSt → ErgSt) : (s.modErg f).cams = s.cams := rfl
@[simp] theorem State.modErg_cru (f : ErgSt → ErgSt) : (s.modErg f).cru = s.cru := rfl
@[simp] theorem State.modErg_views (f : ErgSt → ErgSt) : (s.modErg f).views = s.views := rfl
@[simp] theorem State.modErg_tracks (f : ErgSt → ErgSt) : (s.modErg f).tracks = s.tracks := rfl
@[simp] theorem State.modErg_tickClocks (f : ErgSt → ErgSt) : (s.modErg f).tickClocks = s.tickClocks := rfl
@[simp] theorem State.modErg_tickDone (f : ErgSt → ErgSt) : (s.modErg f).tickDone = s.tickDone := rfl
@[simp] theorem State.modErg_hostAge (f : ErgSt → ErgSt) : (s.modErg f).hostAge = s.hostAge := rfl
@[simp] theorem State.modErg_lanes (f : ErgSt → ErgSt) : (s.modErg f).lanes = s.lanes := rfl
@[simp] theorem State.modErg_pipes (f : ErgSt → ErgSt) : (s.modErg f).pipes = s.pipes := rfl
@[simp] theorem State.modErg_cores (f : ErgSt → ErgSt) : (s.modErg f).cores = s.cores := rfl
@[simp] theorem State.modErg_units (f : ErgSt → ErgSt) : (s.modErg f).units = s.units := rfl
@[simp] theorem State.modErg_trios (f : ErgSt → ErgSt) : (s.modErg f).trios = s.trios := rfl
@[simp] theorem State.modErg_fio (f : ErgSt → ErgSt) : (s.modErg f).fio = s.fio := rfl
@[simp] theorem State.modErg_iol (f : ErgSt → ErgSt) : (s.modErg f).iol = s.iol := rfl
@[simp] theorem State.modErg_host (f : ErgSt → ErgSt) : (s.modErg f).host = s.host := rfl
@[simp] theorem State.modErg_flt (f : ErgSt → ErgSt) : (s.modErg f).flt = s.flt := rfl
@[simp] theorem State.modErg_st (f : ErgSt → ErgSt) : (s.modErg f).st = s.st := rfl
@[simp] theorem State.modErg_clk (f : ErgSt → ErgSt) : (s.modErg f).clk = s.clk := rfl
@[simp] theorem State.modErg_upd (f : ErgSt → ErgSt) : (s.modErg f).upd = s.upd := rfl
@[simp] theorem State.modErg_mram (f : ErgSt → ErgSt) : (s.modErg f).mram = s.mram := rfl
@[simp] theorem State.modErg_erg (f : ErgSt → ErgSt) : (s.modErg f).erg = f s.erg := rfl
@[simp] theorem State.modMram_pending (f : MramSt → MramSt) : (s.modMram f).pending = s.pending := rfl
@[simp] theorem State.modMram_now (f : MramSt → MramSt) : (s.modMram f).now = s.now := rfl
@[simp] theorem State.modMram_startAt (f : MramSt → MramSt) : (s.modMram f).startAt = s.startAt := rfl
@[simp] theorem State.modMram_free (f : MramSt → MramSt) : (s.modMram f).free = s.free := rfl
@[simp] theorem State.modMram_regs (f : MramSt → MramSt) : (s.modMram f).regs = s.regs := rfl
@[simp] theorem State.modMram_regsEdge (f : MramSt → MramSt) : (s.modMram f).regsEdge = s.regsEdge := rfl
@[simp] theorem State.modMram_regsBoot (f : MramSt → MramSt) : (s.modMram f).regsBoot = s.regsBoot := rfl
@[simp] theorem State.modMram_vsnap (f : MramSt → MramSt) : (s.modMram f).vsnap = s.vsnap := rfl
@[simp] theorem State.modMram_sNow (f : MramSt → MramSt) : (s.modMram f).sNow = s.sNow := rfl
@[simp] theorem State.modMram_sSample (f : MramSt → MramSt) : (s.modMram f).sSample = s.sSample := rfl
@[simp] theorem State.modMram_inst (f : MramSt → MramSt) : (s.modMram f).inst = s.inst := rfl
@[simp] theorem State.modMram_sHist (f : MramSt → MramSt) : (s.modMram f).sHist = s.sHist := rfl
@[simp] theorem State.modMram_owners (f : MramSt → MramSt) : (s.modMram f).owners = s.owners := rfl
@[simp] theorem State.modMram_chk (f : MramSt → MramSt) : (s.modMram f).chk = s.chk := rfl
@[simp] theorem State.modMram_chkState (f : MramSt → MramSt) : (s.modMram f).chkState = s.chkState := rfl
@[simp] theorem State.modMram_chans (f : MramSt → MramSt) : (s.modMram f).chans = s.chans := rfl
@[simp] theorem State.modMram_tick (f : MramSt → MramSt) : (s.modMram f).tick = s.tick := rfl
@[simp] theorem State.modMram_cams (f : MramSt → MramSt) : (s.modMram f).cams = s.cams := rfl
@[simp] theorem State.modMram_cru (f : MramSt → MramSt) : (s.modMram f).cru = s.cru := rfl
@[simp] theorem State.modMram_views (f : MramSt → MramSt) : (s.modMram f).views = s.views := rfl
@[simp] theorem State.modMram_tracks (f : MramSt → MramSt) : (s.modMram f).tracks = s.tracks := rfl
@[simp] theorem State.modMram_tickClocks (f : MramSt → MramSt) : (s.modMram f).tickClocks = s.tickClocks := rfl
@[simp] theorem State.modMram_tickDone (f : MramSt → MramSt) : (s.modMram f).tickDone = s.tickDone := rfl
@[simp] theorem State.modMram_hostAge (f : MramSt → MramSt) : (s.modMram f).hostAge = s.hostAge := rfl
@[simp] theorem State.modMram_lanes (f : MramSt → MramSt) : (s.modMram f).lanes = s.lanes := rfl
@[simp] theorem State.modMram_pipes (f : MramSt → MramSt) : (s.modMram f).pipes = s.pipes := rfl
@[simp] theorem State.modMram_cores (f : MramSt → MramSt) : (s.modMram f).cores = s.cores := rfl
@[simp] theorem State.modMram_units (f : MramSt → MramSt) : (s.modMram f).units = s.units := rfl
@[simp] theorem State.modMram_trios (f : MramSt → MramSt) : (s.modMram f).trios = s.trios := rfl
@[simp] theorem State.modMram_fio (f : MramSt → MramSt) : (s.modMram f).fio = s.fio := rfl
@[simp] theorem State.modMram_iol (f : MramSt → MramSt) : (s.modMram f).iol = s.iol := rfl
@[simp] theorem State.modMram_erg (f : MramSt → MramSt) : (s.modMram f).erg = s.erg := rfl
@[simp] theorem State.modMram_host (f : MramSt → MramSt) : (s.modMram f).host = s.host := rfl
@[simp] theorem State.modMram_flt (f : MramSt → MramSt) : (s.modMram f).flt = s.flt := rfl
@[simp] theorem State.modMram_st (f : MramSt → MramSt) : (s.modMram f).st = s.st := rfl
@[simp] theorem State.modMram_clk (f : MramSt → MramSt) : (s.modMram f).clk = s.clk := rfl
@[simp] theorem State.modMram_upd (f : MramSt → MramSt) : (s.modMram f).upd = s.upd := rfl
@[simp] theorem State.modMram_mram (f : MramSt → MramSt) : (s.modMram f).mram = f s.mram := rfl
@[simp] theorem State.modUpd_pending (f : UpdSt → UpdSt) : (s.modUpd f).pending = s.pending := rfl
@[simp] theorem State.modUpd_now (f : UpdSt → UpdSt) : (s.modUpd f).now = s.now := rfl
@[simp] theorem State.modUpd_startAt (f : UpdSt → UpdSt) : (s.modUpd f).startAt = s.startAt := rfl
@[simp] theorem State.modUpd_free (f : UpdSt → UpdSt) : (s.modUpd f).free = s.free := rfl
@[simp] theorem State.modUpd_regs (f : UpdSt → UpdSt) : (s.modUpd f).regs = s.regs := rfl
@[simp] theorem State.modUpd_regsEdge (f : UpdSt → UpdSt) : (s.modUpd f).regsEdge = s.regsEdge := rfl
@[simp] theorem State.modUpd_regsBoot (f : UpdSt → UpdSt) : (s.modUpd f).regsBoot = s.regsBoot := rfl
@[simp] theorem State.modUpd_vsnap (f : UpdSt → UpdSt) : (s.modUpd f).vsnap = s.vsnap := rfl
@[simp] theorem State.modUpd_sNow (f : UpdSt → UpdSt) : (s.modUpd f).sNow = s.sNow := rfl
@[simp] theorem State.modUpd_sSample (f : UpdSt → UpdSt) : (s.modUpd f).sSample = s.sSample := rfl
@[simp] theorem State.modUpd_inst (f : UpdSt → UpdSt) : (s.modUpd f).inst = s.inst := rfl
@[simp] theorem State.modUpd_sHist (f : UpdSt → UpdSt) : (s.modUpd f).sHist = s.sHist := rfl
@[simp] theorem State.modUpd_owners (f : UpdSt → UpdSt) : (s.modUpd f).owners = s.owners := rfl
@[simp] theorem State.modUpd_chk (f : UpdSt → UpdSt) : (s.modUpd f).chk = s.chk := rfl
@[simp] theorem State.modUpd_chkState (f : UpdSt → UpdSt) : (s.modUpd f).chkState = s.chkState := rfl
@[simp] theorem State.modUpd_chans (f : UpdSt → UpdSt) : (s.modUpd f).chans = s.chans := rfl
@[simp] theorem State.modUpd_tick (f : UpdSt → UpdSt) : (s.modUpd f).tick = s.tick := rfl
@[simp] theorem State.modUpd_cams (f : UpdSt → UpdSt) : (s.modUpd f).cams = s.cams := rfl
@[simp] theorem State.modUpd_cru (f : UpdSt → UpdSt) : (s.modUpd f).cru = s.cru := rfl
@[simp] theorem State.modUpd_views (f : UpdSt → UpdSt) : (s.modUpd f).views = s.views := rfl
@[simp] theorem State.modUpd_tracks (f : UpdSt → UpdSt) : (s.modUpd f).tracks = s.tracks := rfl
@[simp] theorem State.modUpd_tickClocks (f : UpdSt → UpdSt) : (s.modUpd f).tickClocks = s.tickClocks := rfl
@[simp] theorem State.modUpd_tickDone (f : UpdSt → UpdSt) : (s.modUpd f).tickDone = s.tickDone := rfl
@[simp] theorem State.modUpd_hostAge (f : UpdSt → UpdSt) : (s.modUpd f).hostAge = s.hostAge := rfl
@[simp] theorem State.modUpd_lanes (f : UpdSt → UpdSt) : (s.modUpd f).lanes = s.lanes := rfl
@[simp] theorem State.modUpd_pipes (f : UpdSt → UpdSt) : (s.modUpd f).pipes = s.pipes := rfl
@[simp] theorem State.modUpd_cores (f : UpdSt → UpdSt) : (s.modUpd f).cores = s.cores := rfl
@[simp] theorem State.modUpd_units (f : UpdSt → UpdSt) : (s.modUpd f).units = s.units := rfl
@[simp] theorem State.modUpd_trios (f : UpdSt → UpdSt) : (s.modUpd f).trios = s.trios := rfl
@[simp] theorem State.modUpd_fio (f : UpdSt → UpdSt) : (s.modUpd f).fio = s.fio := rfl
@[simp] theorem State.modUpd_iol (f : UpdSt → UpdSt) : (s.modUpd f).iol = s.iol := rfl
@[simp] theorem State.modUpd_erg (f : UpdSt → UpdSt) : (s.modUpd f).erg = s.erg := rfl
@[simp] theorem State.modUpd_host (f : UpdSt → UpdSt) : (s.modUpd f).host = s.host := rfl
@[simp] theorem State.modUpd_flt (f : UpdSt → UpdSt) : (s.modUpd f).flt = s.flt := rfl
@[simp] theorem State.modUpd_st (f : UpdSt → UpdSt) : (s.modUpd f).st = s.st := rfl
@[simp] theorem State.modUpd_clk (f : UpdSt → UpdSt) : (s.modUpd f).clk = s.clk := rfl
@[simp] theorem State.modUpd_mram (f : UpdSt → UpdSt) : (s.modUpd f).mram = s.mram := rfl
@[simp] theorem State.modUpd_upd (f : UpdSt → UpdSt) : (s.modUpd f).upd = f s.upd := rfl
@[simp] theorem State.modSt_pending (f : StSt → StSt) : (s.modSt f).pending = s.pending := rfl
@[simp] theorem State.modSt_now (f : StSt → StSt) : (s.modSt f).now = s.now := rfl
@[simp] theorem State.modSt_startAt (f : StSt → StSt) : (s.modSt f).startAt = s.startAt := rfl
@[simp] theorem State.modSt_free (f : StSt → StSt) : (s.modSt f).free = s.free := rfl
@[simp] theorem State.modSt_regs (f : StSt → StSt) : (s.modSt f).regs = s.regs := rfl
@[simp] theorem State.modSt_regsEdge (f : StSt → StSt) : (s.modSt f).regsEdge = s.regsEdge := rfl
@[simp] theorem State.modSt_regsBoot (f : StSt → StSt) : (s.modSt f).regsBoot = s.regsBoot := rfl
@[simp] theorem State.modSt_vsnap (f : StSt → StSt) : (s.modSt f).vsnap = s.vsnap := rfl
@[simp] theorem State.modSt_sNow (f : StSt → StSt) : (s.modSt f).sNow = s.sNow := rfl
@[simp] theorem State.modSt_sSample (f : StSt → StSt) : (s.modSt f).sSample = s.sSample := rfl
@[simp] theorem State.modSt_inst (f : StSt → StSt) : (s.modSt f).inst = s.inst := rfl
@[simp] theorem State.modSt_sHist (f : StSt → StSt) : (s.modSt f).sHist = s.sHist := rfl
@[simp] theorem State.modSt_owners (f : StSt → StSt) : (s.modSt f).owners = s.owners := rfl
@[simp] theorem State.modSt_chk (f : StSt → StSt) : (s.modSt f).chk = s.chk := rfl
@[simp] theorem State.modSt_chkState (f : StSt → StSt) : (s.modSt f).chkState = s.chkState := rfl
@[simp] theorem State.modSt_chans (f : StSt → StSt) : (s.modSt f).chans = s.chans := rfl
@[simp] theorem State.modSt_tick (f : StSt → StSt) : (s.modSt f).tick = s.tick := rfl
@[simp] theorem State.modSt_cams (f : StSt → StSt) : (s.modSt f).cams = s.cams := rfl
@[simp] theorem State.modSt_cru (f : StSt → StSt) : (s.modSt f).cru = s.cru := rfl
@[simp] theorem State.modSt_views (f : StSt → StSt) : (s.modSt f).views = s.views := rfl
@[simp] theorem State.modSt_tracks (f : StSt → StSt) : (s.modSt f).tracks = s.tracks := rfl
@[simp] theorem State.modSt_tickClocks (f : StSt → StSt) : (s.modSt f).tickClocks = s.tickClocks := rfl
@[simp] theorem State.modSt_tickDone (f : StSt → StSt) : (s.modSt f).tickDone = s.tickDone := rfl
@[simp] theorem State.modSt_hostAge (f : StSt → StSt) : (s.modSt f).hostAge = s.hostAge := rfl
@[simp] theorem State.modSt_lanes (f : StSt → StSt) : (s.modSt f).lanes = s.lanes := rfl
@[simp] theorem State.modSt_pipes (f : StSt → StSt) : (s.modSt f).pipes = s.pipes := rfl
@[simp] theorem State.modSt_cores (f : StSt → StSt) : (s.modSt f).cores = s.cores := rfl
@[simp] theorem State.modSt_units (f : StSt → StSt) : (s.modSt f).units = s.units := rfl
@[simp] theorem State.modSt_trios (f : StSt → StSt) : (s.modSt f).trios = s.trios := rfl
@[simp] theorem State.modSt_fio (f : StSt → StSt) : (s.modSt f).fio = s.fio := rfl
@[simp] theorem State.modSt_iol (f : StSt → StSt) : (s.modSt f).iol = s.iol := rfl
@[simp] theorem State.modSt_erg (f : StSt → StSt) : (s.modSt f).erg = s.erg := rfl
@[simp] theorem State.modSt_host (f : StSt → StSt) : (s.modSt f).host = s.host := rfl
@[simp] theorem State.modSt_flt (f : StSt → StSt) : (s.modSt f).flt = s.flt := rfl
@[simp] theorem State.modSt_clk (f : StSt → StSt) : (s.modSt f).clk = s.clk := rfl
@[simp] theorem State.modSt_upd (f : StSt → StSt) : (s.modSt f).upd = s.upd := rfl
@[simp] theorem State.modSt_mram (f : StSt → StSt) : (s.modSt f).mram = s.mram := rfl
@[simp] theorem State.modSt_st (f : StSt → StSt) : (s.modSt f).st = f s.st := rfl
@[simp] theorem State.modClk_pending (f : ClkSt → ClkSt) : (s.modClk f).pending = s.pending := rfl
@[simp] theorem State.modClk_now (f : ClkSt → ClkSt) : (s.modClk f).now = s.now := rfl
@[simp] theorem State.modClk_startAt (f : ClkSt → ClkSt) : (s.modClk f).startAt = s.startAt := rfl
@[simp] theorem State.modClk_free (f : ClkSt → ClkSt) : (s.modClk f).free = s.free := rfl
@[simp] theorem State.modClk_regs (f : ClkSt → ClkSt) : (s.modClk f).regs = s.regs := rfl
@[simp] theorem State.modClk_regsEdge (f : ClkSt → ClkSt) : (s.modClk f).regsEdge = s.regsEdge := rfl
@[simp] theorem State.modClk_regsBoot (f : ClkSt → ClkSt) : (s.modClk f).regsBoot = s.regsBoot := rfl
@[simp] theorem State.modClk_vsnap (f : ClkSt → ClkSt) : (s.modClk f).vsnap = s.vsnap := rfl
@[simp] theorem State.modClk_sNow (f : ClkSt → ClkSt) : (s.modClk f).sNow = s.sNow := rfl
@[simp] theorem State.modClk_sSample (f : ClkSt → ClkSt) : (s.modClk f).sSample = s.sSample := rfl
@[simp] theorem State.modClk_inst (f : ClkSt → ClkSt) : (s.modClk f).inst = s.inst := rfl
@[simp] theorem State.modClk_sHist (f : ClkSt → ClkSt) : (s.modClk f).sHist = s.sHist := rfl
@[simp] theorem State.modClk_owners (f : ClkSt → ClkSt) : (s.modClk f).owners = s.owners := rfl
@[simp] theorem State.modClk_chk (f : ClkSt → ClkSt) : (s.modClk f).chk = s.chk := rfl
@[simp] theorem State.modClk_chkState (f : ClkSt → ClkSt) : (s.modClk f).chkState = s.chkState := rfl
@[simp] theorem State.modClk_chans (f : ClkSt → ClkSt) : (s.modClk f).chans = s.chans := rfl
@[simp] theorem State.modClk_tick (f : ClkSt → ClkSt) : (s.modClk f).tick = s.tick := rfl
@[simp] theorem State.modClk_cams (f : ClkSt → ClkSt) : (s.modClk f).cams = s.cams := rfl
@[simp] theorem State.modClk_cru (f : ClkSt → ClkSt) : (s.modClk f).cru = s.cru := rfl
@[simp] theorem State.modClk_views (f : ClkSt → ClkSt) : (s.modClk f).views = s.views := rfl
@[simp] theorem State.modClk_tracks (f : ClkSt → ClkSt) : (s.modClk f).tracks = s.tracks := rfl
@[simp] theorem State.modClk_tickClocks (f : ClkSt → ClkSt) : (s.modClk f).tickClocks = s.tickClocks := rfl
@[simp] theorem State.modClk_tickDone (f : ClkSt → ClkSt) : (s.modClk f).tickDone = s.tickDone := rfl
@[simp] theorem State.modClk_hostAge (f : ClkSt → ClkSt) : (s.modClk f).hostAge = s.hostAge := rfl
@[simp] theorem State.modClk_lanes (f : ClkSt → ClkSt) : (s.modClk f).lanes = s.lanes := rfl
@[simp] theorem State.modClk_pipes (f : ClkSt → ClkSt) : (s.modClk f).pipes = s.pipes := rfl
@[simp] theorem State.modClk_cores (f : ClkSt → ClkSt) : (s.modClk f).cores = s.cores := rfl
@[simp] theorem State.modClk_units (f : ClkSt → ClkSt) : (s.modClk f).units = s.units := rfl
@[simp] theorem State.modClk_trios (f : ClkSt → ClkSt) : (s.modClk f).trios = s.trios := rfl
@[simp] theorem State.modClk_fio (f : ClkSt → ClkSt) : (s.modClk f).fio = s.fio := rfl
@[simp] theorem State.modClk_iol (f : ClkSt → ClkSt) : (s.modClk f).iol = s.iol := rfl
@[simp] theorem State.modClk_erg (f : ClkSt → ClkSt) : (s.modClk f).erg = s.erg := rfl
@[simp] theorem State.modClk_host (f : ClkSt → ClkSt) : (s.modClk f).host = s.host := rfl
@[simp] theorem State.modClk_flt (f : ClkSt → ClkSt) : (s.modClk f).flt = s.flt := rfl
@[simp] theorem State.modClk_st (f : ClkSt → ClkSt) : (s.modClk f).st = s.st := rfl
@[simp] theorem State.modClk_upd (f : ClkSt → ClkSt) : (s.modClk f).upd = s.upd := rfl
@[simp] theorem State.modClk_mram (f : ClkSt → ClkSt) : (s.modClk f).mram = s.mram := rfl
@[simp] theorem State.modClk_clk (f : ClkSt → ClkSt) : (s.modClk f).clk = f s.clk := rfl
@[simp] theorem State.modTick_pending (f : TickSt → TickSt) : (s.modTick f).pending = s.pending := rfl
@[simp] theorem State.modTick_now (f : TickSt → TickSt) : (s.modTick f).now = s.now := rfl
@[simp] theorem State.modTick_startAt (f : TickSt → TickSt) : (s.modTick f).startAt = s.startAt := rfl
@[simp] theorem State.modTick_free (f : TickSt → TickSt) : (s.modTick f).free = s.free := rfl
@[simp] theorem State.modTick_regs (f : TickSt → TickSt) : (s.modTick f).regs = s.regs := rfl
@[simp] theorem State.modTick_regsEdge (f : TickSt → TickSt) : (s.modTick f).regsEdge = s.regsEdge := rfl
@[simp] theorem State.modTick_regsBoot (f : TickSt → TickSt) : (s.modTick f).regsBoot = s.regsBoot := rfl
@[simp] theorem State.modTick_vsnap (f : TickSt → TickSt) : (s.modTick f).vsnap = s.vsnap := rfl
@[simp] theorem State.modTick_sNow (f : TickSt → TickSt) : (s.modTick f).sNow = s.sNow := rfl
@[simp] theorem State.modTick_sSample (f : TickSt → TickSt) : (s.modTick f).sSample = s.sSample := rfl
@[simp] theorem State.modTick_inst (f : TickSt → TickSt) : (s.modTick f).inst = s.inst := rfl
@[simp] theorem State.modTick_sHist (f : TickSt → TickSt) : (s.modTick f).sHist = s.sHist := rfl
@[simp] theorem State.modTick_owners (f : TickSt → TickSt) : (s.modTick f).owners = s.owners := rfl
@[simp] theorem State.modTick_chk (f : TickSt → TickSt) : (s.modTick f).chk = s.chk := rfl
@[simp] theorem State.modTick_chkState (f : TickSt → TickSt) : (s.modTick f).chkState = s.chkState := rfl
@[simp] theorem State.modTick_chans (f : TickSt → TickSt) : (s.modTick f).chans = s.chans := rfl
@[simp] theorem State.modTick_cams (f : TickSt → TickSt) : (s.modTick f).cams = s.cams := rfl
@[simp] theorem State.modTick_cru (f : TickSt → TickSt) : (s.modTick f).cru = s.cru := rfl
@[simp] theorem State.modTick_views (f : TickSt → TickSt) : (s.modTick f).views = s.views := rfl
@[simp] theorem State.modTick_tracks (f : TickSt → TickSt) : (s.modTick f).tracks = s.tracks := rfl
@[simp] theorem State.modTick_tickClocks (f : TickSt → TickSt) : (s.modTick f).tickClocks = s.tickClocks := rfl
@[simp] theorem State.modTick_tickDone (f : TickSt → TickSt) : (s.modTick f).tickDone = s.tickDone := rfl
@[simp] theorem State.modTick_hostAge (f : TickSt → TickSt) : (s.modTick f).hostAge = s.hostAge := rfl
@[simp] theorem State.modTick_lanes (f : TickSt → TickSt) : (s.modTick f).lanes = s.lanes := rfl
@[simp] theorem State.modTick_pipes (f : TickSt → TickSt) : (s.modTick f).pipes = s.pipes := rfl
@[simp] theorem State.modTick_cores (f : TickSt → TickSt) : (s.modTick f).cores = s.cores := rfl
@[simp] theorem State.modTick_units (f : TickSt → TickSt) : (s.modTick f).units = s.units := rfl
@[simp] theorem State.modTick_trios (f : TickSt → TickSt) : (s.modTick f).trios = s.trios := rfl
@[simp] theorem State.modTick_fio (f : TickSt → TickSt) : (s.modTick f).fio = s.fio := rfl
@[simp] theorem State.modTick_iol (f : TickSt → TickSt) : (s.modTick f).iol = s.iol := rfl
@[simp] theorem State.modTick_erg (f : TickSt → TickSt) : (s.modTick f).erg = s.erg := rfl
@[simp] theorem State.modTick_host (f : TickSt → TickSt) : (s.modTick f).host = s.host := rfl
@[simp] theorem State.modTick_flt (f : TickSt → TickSt) : (s.modTick f).flt = s.flt := rfl
@[simp] theorem State.modTick_st (f : TickSt → TickSt) : (s.modTick f).st = s.st := rfl
@[simp] theorem State.modTick_clk (f : TickSt → TickSt) : (s.modTick f).clk = s.clk := rfl
@[simp] theorem State.modTick_upd (f : TickSt → TickSt) : (s.modTick f).upd = s.upd := rfl
@[simp] theorem State.modTick_mram (f : TickSt → TickSt) : (s.modTick f).mram = s.mram := rfl
@[simp] theorem State.modTick_tick (f : TickSt → TickSt) : (s.modTick f).tick = f s.tick := rfl
@[simp] theorem State.modSrc_pending (k : Nat) (f : FaultSrc → FaultSrc) : (s.modSrc k f).pending = s.pending := rfl
@[simp] theorem State.modSrc_now (k : Nat) (f : FaultSrc → FaultSrc) : (s.modSrc k f).now = s.now := rfl
@[simp] theorem State.modSrc_startAt (k : Nat) (f : FaultSrc → FaultSrc) : (s.modSrc k f).startAt = s.startAt := rfl
@[simp] theorem State.modSrc_free (k : Nat) (f : FaultSrc → FaultSrc) : (s.modSrc k f).free = s.free := rfl
@[simp] theorem State.modSrc_regs (k : Nat) (f : FaultSrc → FaultSrc) : (s.modSrc k f).regs = s.regs := rfl
@[simp] theorem State.modSrc_regsEdge (k : Nat) (f : FaultSrc → FaultSrc) : (s.modSrc k f).regsEdge = s.regsEdge := rfl
@[simp] theorem State.modSrc_regsBoot (k : Nat) (f : FaultSrc → FaultSrc) : (s.modSrc k f).regsBoot = s.regsBoot := rfl
@[simp] theorem State.modSrc_vsnap (k : Nat) (f : FaultSrc → FaultSrc) : (s.modSrc k f).vsnap = s.vsnap := rfl
@[simp] theorem State.modSrc_sNow (k : Nat) (f : FaultSrc → FaultSrc) : (s.modSrc k f).sNow = s.sNow := rfl
@[simp] theorem State.modSrc_sSample (k : Nat) (f : FaultSrc → FaultSrc) : (s.modSrc k f).sSample = s.sSample := rfl
@[simp] theorem State.modSrc_inst (k : Nat) (f : FaultSrc → FaultSrc) : (s.modSrc k f).inst = s.inst := rfl
@[simp] theorem State.modSrc_sHist (k : Nat) (f : FaultSrc → FaultSrc) : (s.modSrc k f).sHist = s.sHist := rfl
@[simp] theorem State.modSrc_owners (k : Nat) (f : FaultSrc → FaultSrc) : (s.modSrc k f).owners = s.owners := rfl
@[simp] theorem State.modSrc_chk (k : Nat) (f : FaultSrc → FaultSrc) : (s.modSrc k f).chk = s.chk := rfl
@[simp] theorem State.modSrc_chkState (k : Nat) (f : FaultSrc → FaultSrc) : (s.modSrc k f).chkState = s.chkState := rfl
@[simp] theorem State.modSrc_chans (k : Nat) (f : FaultSrc → FaultSrc) : (s.modSrc k f).chans = s.chans := rfl
@[simp] theorem State.modSrc_tick (k : Nat) (f : FaultSrc → FaultSrc) : (s.modSrc k f).tick = s.tick := rfl
@[simp] theorem State.modSrc_cams (k : Nat) (f : FaultSrc → FaultSrc) : (s.modSrc k f).cams = s.cams := rfl
@[simp] theorem State.modSrc_cru (k : Nat) (f : FaultSrc → FaultSrc) : (s.modSrc k f).cru = s.cru := rfl
@[simp] theorem State.modSrc_views (k : Nat) (f : FaultSrc → FaultSrc) : (s.modSrc k f).views = s.views := rfl
@[simp] theorem State.modSrc_tracks (k : Nat) (f : FaultSrc → FaultSrc) : (s.modSrc k f).tracks = s.tracks := rfl
@[simp] theorem State.modSrc_tickClocks (k : Nat) (f : FaultSrc → FaultSrc) : (s.modSrc k f).tickClocks = s.tickClocks := rfl
@[simp] theorem State.modSrc_tickDone (k : Nat) (f : FaultSrc → FaultSrc) : (s.modSrc k f).tickDone = s.tickDone := rfl
@[simp] theorem State.modSrc_hostAge (k : Nat) (f : FaultSrc → FaultSrc) : (s.modSrc k f).hostAge = s.hostAge := rfl
@[simp] theorem State.modSrc_lanes (k : Nat) (f : FaultSrc → FaultSrc) : (s.modSrc k f).lanes = s.lanes := rfl
@[simp] theorem State.modSrc_pipes (k : Nat) (f : FaultSrc → FaultSrc) : (s.modSrc k f).pipes = s.pipes := rfl
@[simp] theorem State.modSrc_cores (k : Nat) (f : FaultSrc → FaultSrc) : (s.modSrc k f).cores = s.cores := rfl
@[simp] theorem State.modSrc_units (k : Nat) (f : FaultSrc → FaultSrc) : (s.modSrc k f).units = s.units := rfl
@[simp] theorem State.modSrc_trios (k : Nat) (f : FaultSrc → FaultSrc) : (s.modSrc k f).trios = s.trios := rfl
@[simp] theorem State.modSrc_fio (k : Nat) (f : FaultSrc → FaultSrc) : (s.modSrc k f).fio = s.fio := rfl
@[simp] theorem State.modSrc_iol (k : Nat) (f : FaultSrc → FaultSrc) : (s.modSrc k f).iol = s.iol := rfl
@[simp] theorem State.modSrc_erg (k : Nat) (f : FaultSrc → FaultSrc) : (s.modSrc k f).erg = s.erg := rfl
@[simp] theorem State.modSrc_host (k : Nat) (f : FaultSrc → FaultSrc) : (s.modSrc k f).host = s.host := rfl
@[simp] theorem State.modSrc_st (k : Nat) (f : FaultSrc → FaultSrc) : (s.modSrc k f).st = s.st := rfl
@[simp] theorem State.modSrc_clk (k : Nat) (f : FaultSrc → FaultSrc) : (s.modSrc k f).clk = s.clk := rfl
@[simp] theorem State.modSrc_upd (k : Nat) (f : FaultSrc → FaultSrc) : (s.modSrc k f).upd = s.upd := rfl
@[simp] theorem State.modSrc_mram (k : Nat) (f : FaultSrc → FaultSrc) : (s.modSrc k f).mram = s.mram := rfl
@[simp] theorem State.modSrc_flt (k : Nat) (f : FaultSrc → FaultSrc) : (s.modSrc k f).flt = { s.flt with srcs := tmod {} s.flt.srcs k f } := rfl
@[simp] theorem setReg_pending (id v : Nat) : (setReg s id v).pending = s.pending := rfl
@[simp] theorem setReg_now (id v : Nat) : (setReg s id v).now = s.now := rfl
@[simp] theorem setReg_startAt (id v : Nat) : (setReg s id v).startAt = s.startAt := rfl
@[simp] theorem setReg_free (id v : Nat) : (setReg s id v).free = s.free := rfl
@[simp] theorem setReg_regsEdge (id v : Nat) : (setReg s id v).regsEdge = s.regsEdge := rfl
@[simp] theorem setReg_regsBoot (id v : Nat) : (setReg s id v).regsBoot = s.regsBoot := rfl
@[simp] theorem setReg_vsnap (id v : Nat) : (setReg s id v).vsnap = s.vsnap := rfl
@[simp] theorem setReg_sNow (id v : Nat) : (setReg s id v).sNow = s.sNow := rfl
@[simp] theorem setReg_sSample (id v : Nat) : (setReg s id v).sSample = s.sSample := rfl
@[simp] theorem setReg_inst (id v : Nat) : (setReg s id v).inst = s.inst := rfl
@[simp] theorem setReg_sHist (id v : Nat) : (setReg s id v).sHist = s.sHist := rfl
@[simp] theorem setReg_owners (id v : Nat) : (setReg s id v).owners = s.owners := rfl
@[simp] theorem setReg_chk (id v : Nat) : (setReg s id v).chk = s.chk := rfl
@[simp] theorem setReg_chkState (id v : Nat) : (setReg s id v).chkState = s.chkState := rfl
@[simp] theorem setReg_chans (id v : Nat) : (setReg s id v).chans = s.chans := rfl
@[simp] theorem setReg_tick (id v : Nat) : (setReg s id v).tick = s.tick := rfl
@[simp] theorem setReg_cams (id v : Nat) : (setReg s id v).cams = s.cams := rfl
@[simp] theorem setReg_cru (id v : Nat) : (setReg s id v).cru = s.cru := rfl
@[simp] theorem setReg_views (id v : Nat) : (setReg s id v).views = s.views := rfl
@[simp] theorem setReg_tracks (id v : Nat) : (setReg s id v).tracks = s.tracks := rfl
@[simp] theorem setReg_tickClocks (id v : Nat) : (setReg s id v).tickClocks = s.tickClocks := rfl
@[simp] theorem setReg_tickDone (id v : Nat) : (setReg s id v).tickDone = s.tickDone := rfl
@[simp] theorem setReg_hostAge (id v : Nat) : (setReg s id v).hostAge = s.hostAge := rfl
@[simp] theorem setReg_lanes (id v : Nat) : (setReg s id v).lanes = s.lanes := rfl
@[simp] theorem setReg_pipes (id v : Nat) : (setReg s id v).pipes = s.pipes := rfl
@[simp] theorem setReg_cores (id v : Nat) : (setReg s id v).cores = s.cores := rfl
@[simp] theorem setReg_units (id v : Nat) : (setReg s id v).units = s.units := rfl
@[simp] theorem setReg_trios (id v : Nat) : (setReg s id v).trios = s.trios := rfl
@[simp] theorem setReg_fio (id v : Nat) : (setReg s id v).fio = s.fio := rfl
@[simp] theorem setReg_iol (id v : Nat) : (setReg s id v).iol = s.iol := rfl
@[simp] theorem setReg_erg (id v : Nat) : (setReg s id v).erg = s.erg := rfl
@[simp] theorem setReg_host (id v : Nat) : (setReg s id v).host = s.host := rfl
@[simp] theorem setReg_flt (id v : Nat) : (setReg s id v).flt = s.flt := rfl
@[simp] theorem setReg_st (id v : Nat) : (setReg s id v).st = s.st := rfl
@[simp] theorem setReg_clk (id v : Nat) : (setReg s id v).clk = s.clk := rfl
@[simp] theorem setReg_upd (id v : Nat) : (setReg s id v).upd = s.upd := rfl
@[simp] theorem setReg_mram (id v : Nat) : (setReg s id v).mram = s.mram := rfl
@[simp] theorem setReg_regs (id v : Nat) : (setReg s id v).regs = regSet s.regs id v := rfl
@[simp] theorem advance_pending (t : Time) : (advance t s).pending = s.pending := rfl
@[simp] theorem advance_startAt (t : Time) : (advance t s).startAt = s.startAt := rfl
@[simp] theorem advance_free (t : Time) : (advance t s).free = s.free := rfl
@[simp] theorem advance_regs (t : Time) : (advance t s).regs = s.regs := rfl
@[simp] theorem advance_regsEdge (t : Time) : (advance t s).regsEdge = s.regsEdge := rfl
@[simp] theorem advance_regsBoot (t : Time) : (advance t s).regsBoot = s.regsBoot := rfl
@[simp] theorem advance_vsnap (t : Time) : (advance t s).vsnap = s.vsnap := rfl
@[simp] theorem advance_sNow (t : Time) : (advance t s).sNow = s.sNow := rfl
@[simp] theorem advance_sSample (t : Time) : (advance t s).sSample = s.sSample := rfl
@[simp] theorem advance_inst (t : Time) : (advance t s).inst = s.inst := rfl
@[simp] theorem advance_sHist (t : Time) : (advance t s).sHist = s.sHist := rfl
@[simp] theorem advance_owners (t : Time) : (advance t s).owners = s.owners := rfl
@[simp] theorem advance_chk (t : Time) : (advance t s).chk = s.chk := rfl
@[simp] theorem advance_chkState (t : Time) : (advance t s).chkState = s.chkState := rfl
@[simp] theorem advance_chans (t : Time) : (advance t s).chans = s.chans := rfl
@[simp] theorem advance_tick (t : Time) : (advance t s).tick = s.tick := rfl
@[simp] theorem advance_cams (t : Time) : (advance t s).cams = s.cams := rfl
@[simp] theorem advance_cru (t : Time) : (advance t s).cru = s.cru := rfl
@[simp] theorem advance_views (t : Time) : (advance t s).views = s.views := rfl
@[simp] theorem advance_tracks (t : Time) : (advance t s).tracks = s.tracks := rfl
@[simp] theorem advance_tickClocks (t : Time) : (advance t s).tickClocks = s.tickClocks := rfl
@[simp] theorem advance_tickDone (t : Time) : (advance t s).tickDone = s.tickDone := rfl
@[simp] theorem advance_hostAge (t : Time) : (advance t s).hostAge = s.hostAge := rfl
@[simp] theorem advance_lanes (t : Time) : (advance t s).lanes = s.lanes := rfl
@[simp] theorem advance_pipes (t : Time) : (advance t s).pipes = s.pipes := rfl
@[simp] theorem advance_cores (t : Time) : (advance t s).cores = s.cores := rfl
@[simp] theorem advance_units (t : Time) : (advance t s).units = s.units := rfl
@[simp] theorem advance_trios (t : Time) : (advance t s).trios = s.trios := rfl
@[simp] theorem advance_fio (t : Time) : (advance t s).fio = s.fio := rfl
@[simp] theorem advance_iol (t : Time) : (advance t s).iol = s.iol := rfl
@[simp] theorem advance_erg (t : Time) : (advance t s).erg = s.erg := rfl
@[simp] theorem advance_host (t : Time) : (advance t s).host = s.host := rfl
@[simp] theorem advance_flt (t : Time) : (advance t s).flt = s.flt := rfl
@[simp] theorem advance_st (t : Time) : (advance t s).st = s.st := rfl
@[simp] theorem advance_clk (t : Time) : (advance t s).clk = s.clk := rfl
@[simp] theorem advance_upd (t : Time) : (advance t s).upd = s.upd := rfl
@[simp] theorem advance_mram (t : Time) : (advance t s).mram = s.mram := rfl
@[simp] theorem advance_now (t : Time) : (advance t s).now = max s.now t := rfl

@[simp] theorem useChannel_pending (u p m : Nat) : (useChannel u p m s).pending = s.pending := rfl
@[simp] theorem useChannel_now (u p m : Nat) : (useChannel u p m s).now = s.now := rfl
@[simp] theorem useChannel_startAt (u p m : Nat) : (useChannel u p m s).startAt = s.startAt := rfl
@[simp] theorem useChannel_free (u p m : Nat) : (useChannel u p m s).free = s.free := rfl
@[simp] theorem useChannel_regs (u p m : Nat) : (useChannel u p m s).regs = s.regs := rfl
@[simp] theorem useChannel_regsEdge (u p m : Nat) : (useChannel u p m s).regsEdge = s.regsEdge := rfl
@[simp] theorem useChannel_regsBoot (u p m : Nat) : (useChannel u p m s).regsBoot = s.regsBoot := rfl
@[simp] theorem useChannel_vsnap (u p m : Nat) : (useChannel u p m s).vsnap = s.vsnap := rfl
@[simp] theorem useChannel_sNow (u p m : Nat) : (useChannel u p m s).sNow = s.sNow := rfl
@[simp] theorem useChannel_sSample (u p m : Nat) : (useChannel u p m s).sSample = s.sSample := rfl
@[simp] theorem useChannel_inst (u p m : Nat) : (useChannel u p m s).inst = s.inst := rfl
@[simp] theorem useChannel_sHist (u p m : Nat) : (useChannel u p m s).sHist = s.sHist := rfl
@[simp] theorem useChannel_owners (u p m : Nat) : (useChannel u p m s).owners = s.owners := rfl
@[simp] theorem useChannel_chk (u p m : Nat) : (useChannel u p m s).chk = s.chk := rfl
@[simp] theorem useChannel_chkState (u p m : Nat) : (useChannel u p m s).chkState = s.chkState := rfl
@[simp] theorem useChannel_tick (u p m : Nat) : (useChannel u p m s).tick = s.tick := rfl
@[simp] theorem useChannel_cams (u p m : Nat) : (useChannel u p m s).cams = s.cams := rfl
@[simp] theorem useChannel_cru (u p m : Nat) : (useChannel u p m s).cru = s.cru := rfl
@[simp] theorem useChannel_views (u p m : Nat) : (useChannel u p m s).views = s.views := rfl
@[simp] theorem useChannel_tracks (u p m : Nat) : (useChannel u p m s).tracks = s.tracks := rfl
@[simp] theorem useChannel_tickClocks (u p m : Nat) : (useChannel u p m s).tickClocks = s.tickClocks := rfl
@[simp] theorem useChannel_tickDone (u p m : Nat) : (useChannel u p m s).tickDone = s.tickDone := rfl
@[simp] theorem useChannel_hostAge (u p m : Nat) : (useChannel u p m s).hostAge = s.hostAge := rfl
@[simp] theorem useChannel_lanes (u p m : Nat) : (useChannel u p m s).lanes = s.lanes := rfl
@[simp] theorem useChannel_pipes (u p m : Nat) : (useChannel u p m s).pipes = s.pipes := rfl
@[simp] theorem useChannel_cores (u p m : Nat) : (useChannel u p m s).cores = s.cores := rfl
@[simp] theorem useChannel_units (u p m : Nat) : (useChannel u p m s).units = s.units := rfl
@[simp] theorem useChannel_trios (u p m : Nat) : (useChannel u p m s).trios = s.trios := rfl
@[simp] theorem useChannel_fio (u p m : Nat) : (useChannel u p m s).fio = s.fio := rfl
@[simp] theorem useChannel_iol (u p m : Nat) : (useChannel u p m s).iol = s.iol := rfl
@[simp] theorem useChannel_erg (u p m : Nat) : (useChannel u p m s).erg = s.erg := rfl
@[simp] theorem useChannel_host (u p m : Nat) : (useChannel u p m s).host = s.host := rfl
@[simp] theorem useChannel_flt (u p m : Nat) : (useChannel u p m s).flt = s.flt := rfl
@[simp] theorem useChannel_st (u p m : Nat) : (useChannel u p m s).st = s.st := rfl
@[simp] theorem useChannel_clk (u p m : Nat) : (useChannel u p m s).clk = s.clk := rfl
@[simp] theorem useChannel_upd (u p m : Nat) : (useChannel u p m s).upd = s.upd := rfl
@[simp] theorem useChannel_mram (u p m : Nat) : (useChannel u p m s).mram = s.mram := rfl

end Sys2Proof.Machine
end

