-- ==== Sys2Proof/Laws/Host.lean ====
section
/-! SUPPORT. What the host interface does with a packet: one lemma for `execute` after steps 6 to 10 of 14 Table 14.3, one for
`serve` where the packet is admitted. -/

namespace Sys2Proof.Machine

/-- The reply to a packet whose own checks and effect gave an answer; a held answer is replied to later. -/
def conclude (h : Hdr) (ix op : Nat) (a : Answer) : State :=
  if a.1 = Status.held then a.2.2 else reply h ix op a.1 a.2.1 a.2.2

theorem conclude_ok (h : Hdr) (ix op : Nat) (st : Nat) (out : Bytes) (s : State) (hs : st ≠ Status.held) :
    conclude h ix op (st, out, s) = reply h ix op st out s := by simp [conclude, hs]

theorem conclude_held (h : Hdr) (ix op : Nat) (out : Bytes) (s : State) :
    conclude h ix op (Status.held, out, s) = s := by simp [conclude]

theorem execute_passes {h : Hdr} {ix op : Nat} {s : State} (params : Bytes) (body : State → Answer)
    (hp : passes h ix op s = true) : execute h ix op params true body s = conclude h ix op (body s) := by
  simp only [passes, Bool.and_eq_true, Bool.or_eq_true, decide_eq_true_eq, Bool.not_eq_true'] at hp
  obtain ⟨⟨⟨⟨⟨⟨ho, hc⟩, hl⟩, hk⟩, ht⟩, hn⟩, hd⟩ := hp
  unfold execute conclude
  have h1 : (decide (h.link ≠ .forwarded) && !(decide (h.target.toNat = deviceNo s) || decide (op = 3))) = false := by
    rcases ho with (ho | ho) | ho <;> simp [ho]
  have h2 : (!cruOk s && needsCrucible op) = false := by rcases hk with hk | hk <;> simp [hk]
  have h3 : (!domUp 0 s && needsTrio op) = false := by rcases ht with ht | ht <;> simp [ht]
  have hd' : deadDomain op s = none := Option.isNone_iff_eq_none.mp hd
  simp only [h1, hc, hl, hn, hd']
  simp [h2, h3]

theorem handle_sequenced {h : Hdr} {op ix : Nat} {s s1 : State} (params : Bytes) (body : State → Answer)
    (hq : sequenced h op s = some (ix, s1)) (hp : passes h ix op s1 = true) :
    handle h op params true body s = conclude h ix op (body s1) := by
  unfold sequenced at hq
  unfold handle
  by_cases hf : h.link = .forwarded
  · simp only [hf, if_true, Option.some.injEq, Prod.mk.injEq] at hq
    obtain ⟨rfl, rfl⟩ := hq
    simp only [hf, if_true]
    exact execute_passes params body hp
  · simp only [hf, if_false] at hq ⊢
    by_cases hv : h.version ≠ 1 ∨ h.rsvd ≠ 0 ∨ opensTo h (sessionIx h s) op (expire (sessionIx h s) s) = false
    · rw [if_pos hv] at hq; cases hq
    · rw [if_neg hv] at hq
      simp only [not_or, Decidable.not_not, Bool.not_eq_false] at hv
      obtain ⟨hv1, hv2, hv3⟩ := hv
      rw [if_neg (by simp [hv1, hv2]), if_neg (by simp [hv3])]
      by_cases hsf : seqFree h.link op = true
      · rw [if_pos hsf] at hq ⊢
        simp only [Option.some.injEq, Prod.mk.injEq] at hq
        obtain ⟨rfl, rfl⟩ := hq
        exact execute_passes params body hp
      · rw [if_neg hsf] at hq ⊢
        by_cases hh : h.hseq = hseqNext (heardFrom h (sessionIx h s) (expire (sessionIx h s) s)) (sessionIx h s)
        · rw [if_pos hh] at hq ⊢
          simp only [Option.some.injEq, Prod.mk.injEq] at hq
          obtain ⟨rfl, rfl⟩ := hq
          exact execute_passes params body hp
        · rw [if_neg hh] at hq; cases hq

/-- An admitted packet is handled: its own checks and effect, and the reply. -/
theorem serve_admitted {h : Hdr} {op ix : Nat} {s s1 : State} (params : Bytes) (c : Instr) (body : State → Answer)
    (ha : admitted h op s = some (ix, s1)) : serve h op params c body s = conclude h ix op (body s1) := by
  unfold admitted at ha
  unfold serve
  by_cases hq : s.host.fromQueue = true
  · simp only [hq, if_true] at ha ⊢
    cases hp : cmdPoisoned h (takeCommand h s) with
    | true => simp [hp] at ha
    | false =>
    simp only [hp, Bool.false_eq_true, if_false] at ha ⊢
    cases hs : sequenced h op (takeCommand h s) with
    | none => simp [hs] at ha
    | some p =>
      obtain ⟨ix', s'⟩ := p
      simp only [hs] at ha
      split at ha
      · rename_i hp
        simp only [Option.some.injEq, Prod.mk.injEq] at ha
        obtain ⟨rfl, rfl⟩ := ha
        exact handle_sequenced params body hs hp
      · cases ha
  · simp only [hq] at ha ⊢
    simp only [Bool.false_eq_true, if_false] at ha ⊢
    generalize hs' : (if h.link = .host then settle 83 ((advance h.t s).modHost fun x => { x with linkUp := true })
      else advance h.t s) = s' at ha ⊢
    split at ha
    · cases ha
    · rename_i b hb
      split at hb
      · cases hb
      · rename_i hc
        simp only [Option.some.injEq] at hb
        subst hb
        simp only [Bool.or_eq_true, not_or, Bool.not_eq_true, Bool.not_eq_true', Bool.not_eq_false] at hc
        obtain ⟨⟨⟨h1, h2⟩, h3⟩, h4⟩ := hc
        simp only [h1, h2, h3, h4]
        cases hs : sequenced h op s' with
        | none => simp [hs] at ha
        | some p =>
          obtain ⟨ix', s''⟩ := p
          simp only [hs] at ha
          split at ha
          · rename_i hp
            simp only [Option.some.injEq, Prod.mk.injEq] at ha
            obtain ⟨rfl, rfl⟩ := ha
            simpa using handle_sequenced params body hs hp
          · cases ha

end Sys2Proof.Machine
end

