-- ==== Sys2Proof/Laws/Tables.lean ====
section
/-! SUPPORT. Canonical tables and byte memories: reading after writing, and that every operation keeps the canonical form. -/

namespace Sys2Proof.Machine

variable {α : Type}

theorem sortedFrom_eq (m : List Host.Cell) : ∀ lo, sortedFrom lo m = risingFrom (0 : Byte) lo m := by
  induction m with
  | nil => intro lo; rfl
  | cons p r ih => intro lo; obtain ⟨k, v⟩ := p; simp [sortedFrom, risingFrom, ih]

theorem wf_eq (m : List Host.Cell) : Memory.wf m = canonical (0 : Byte) m := sortedFrom_eq m 0

/-! ### Reading what was written; no canonical form is needed where the value is not the default -/

theorem tget_tset_ne_default [DecidableEq α] {d v : α} (hv : v ≠ d) (n : Nat) :
    ∀ t : Table α, tget d (tset d t n v) n = v := by
  intro t
  induction t with
  | nil => simp [tset, tget, hv]
  | cons p r ih =>
    obtain ⟨k, w⟩ := p
    simp only [tset]
    split
    · simp [tget]
    · split
      · simp [tget]
      · rename_i h1 h2; simp [tget, h1, h2, ih]

theorem tget_tset_other_ne_default [DecidableEq α] {d v : α} (hv : v ≠ d) {n m : Nat} (hm : m ≠ n) :
    ∀ t : Table α, tget d (tset d t n v) m = tget d t m := by
  intro t
  induction t with
  | nil => simp only [tset, hv, if_false, tget]; split <;> simp_all
  | cons p r ih =>
    obtain ⟨k, w⟩ := p
    simp only [tset]
    split
    · rename_i h; subst h; simp [tget, hm.symm]
    · rename_i h1
      split
      · rename_i h2
        simp only [tget]
        by_cases h3 : n = m
        · exact absurd h3.symm hm
        · simp only [h3, if_false]
          by_cases h4 : m < n
          · have : m < k := by omega
            have : k ≠ m := by omega
            simp_all
          · simp [h4]
      · simp only [tget, ih]

/-! ### Canonical tables -/

theorem tget_below [DecidableEq α] {d : α} {lo n : Nat} (hn : n < lo) :
    ∀ {t : Table α}, risingFrom d lo t = true → tget d t n = d := by
  intro t
  cases t with
  | nil => intro _; rfl
  | cons p r =>
    obtain ⟨k, v⟩ := p
    intro h
    simp only [risingFrom, Bool.and_eq_true, decide_eq_true_eq] at h
    have h1 : k ≠ n := by omega
    have h2 : n < k := by omega
    simp [tget, h1, h2]

theorem risingFrom_mono [DecidableEq α] {d : α} {lo lo' : Nat} (h : lo' ≤ lo) :
    ∀ {t : Table α}, risingFrom d lo t = true → risingFrom d lo' t = true := by
  intro t
  cases t with
  | nil => intro _; rfl
  | cons p r =>
    obtain ⟨k, v⟩ := p
    simp only [risingFrom, Bool.and_eq_true, decide_eq_true_eq]
    rintro ⟨⟨h1, h2⟩, h3⟩
    exact ⟨⟨by omega, h2⟩, h3⟩

theorem tset_rising [DecidableEq α] {d : α} (v : α) (n : Nat) :
    ∀ {t : Table α} {lo : Nat}, lo ≤ n → risingFrom d lo t = true → risingFrom d lo (tset d t n v) = true := by
  intro t
  induction t with
  | nil =>
    intro lo h _
    simp only [tset]
    split
    · rfl
    · rename_i hv; simp [risingFrom, h, hv]
  | cons p r ih =>
    obtain ⟨k, w⟩ := p
    intro lo h hr
    simp only [risingFrom, Bool.and_eq_true, decide_eq_true_eq] at hr
    obtain ⟨⟨h1, h2⟩, h3⟩ := hr
    simp only [tset]
    split
    · rename_i hk; subst hk
      split
      · exact risingFrom_mono (by omega) h3
      · rename_i hv; simp [risingFrom, h1, hv, h3]
    · rename_i hk
      split
      · rename_i hlt
        split
        · simp [risingFrom, h1, h2, h3]
        · rename_i hv
          simp only [risingFrom, Bool.and_eq_true, decide_eq_true_eq]
          exact ⟨⟨h, hv⟩, ⟨by omega, h2⟩, h3⟩
      · rename_i hlt
        simp only [risingFrom, Bool.and_eq_true, decide_eq_true_eq]
        exact ⟨⟨h1, h2⟩, ih (by omega) h3⟩

theorem tget_tset_same [DecidableEq α] {d : α} (v : α) (n : Nat) :
    ∀ {t : Table α} {lo : Nat}, risingFrom d lo t = true → tget d (tset d t n v) n = v := by
  intro t
  induction t with
  | nil => intro lo _; simp only [tset]; split <;> simp_all [tget]
  | cons p r ih =>
    obtain ⟨k, w⟩ := p
    intro lo hr
    simp only [risingFrom, Bool.and_eq_true, decide_eq_true_eq] at hr
    obtain ⟨⟨h1, h2⟩, h3⟩ := hr
    simp only [tset]
    split
    · rename_i hk; subst hk
      split
      · rename_i hv; rw [hv]; exact tget_below (by omega) h3
      · simp [tget]
    · rename_i hk
      split
      · rename_i hlt
        split
        · rename_i hv; simp [tget, hk, hlt, hv]
        · simp [tget]
      · rename_i hlt; simp [tget, hk, hlt, ih h3]

theorem tget_tset_other [DecidableEq α] {d : α} (v : α) {n m : Nat} (hm : m ≠ n) :
    ∀ {t : Table α} {lo : Nat}, risingFrom d lo t = true → tget d (tset d t n v) m = tget d t m := by
  intro t lo hr
  by_cases hv : v = d
  · induction t generalizing lo with
    | nil => simp [tset, hv]
    | cons p r ih =>
      obtain ⟨k, w⟩ := p
      simp only [risingFrom, Bool.and_eq_true, decide_eq_true_eq] at hr
      obtain ⟨⟨h1, h2⟩, h3⟩ := hr
      simp only [tset, hv, if_true]
      split
      · rename_i hk; subst hk
        simp only [tget, hm.symm, if_false]
        split
        · rename_i hlt; exact tget_below (by omega) h3
        · rfl
      · rename_i hk
        split
        · rfl
        · have := ih h3
          simp only [hv] at this
          simp only [tget, this]
  · exact tget_tset_other_ne_default hv hm t

/-! ### Byte memories -/

theorem read_write_same (m : List Host.Cell) (hm : Memory.wf m = true) (a : Nat) (v : Byte) :
    Memory.read (Memory.write m a v) a = v := tget_tset_same v a (lo := 0) ((wf_eq m).symm.trans hm)

theorem read_write_other (m : List Host.Cell) (hm : Memory.wf m = true) {a b : Nat} (h : b ≠ a) (v : Byte) :
    Memory.read (Memory.write m a v) b = Memory.read m b :=
  tget_tset_other v h (lo := 0) ((wf_eq m).symm.trans hm)

theorem write_wf (m : List Host.Cell) (hm : Memory.wf m = true) (a : Nat) (v : Byte) :
    Memory.wf (Memory.write m a v) = true := by
  rw [wf_eq] at hm ⊢
  exact tset_rising v a (Nat.zero_le _) hm

theorem put_wf : ∀ (bs : Bytes) (m : List Host.Cell) (a : Nat), Memory.wf m = true → Memory.wf (Memory.put m a bs) = true := by
  intro bs
  induction bs with
  | nil => intro m a h; exact h
  | cons b r ih => intro m a h; exact ih _ _ (write_wf m h a b)

/-- A byte outside the run written reads as before. -/
theorem read_put_outside : ∀ (bs : Bytes) (m : List Host.Cell) (a b : Nat), Memory.wf m = true →
    (b < a ∨ a + bs.length ≤ b) → Memory.read (Memory.put m a bs) b = Memory.read m b := by
  intro bs
  induction bs with
  | nil => intro m a b _ _; rfl
  | cons x r ih =>
    intro m a b hm h
    simp only [List.length_cons] at h
    simp only [Memory.put]
    rw [ih _ _ _ (write_wf m hm a x) (by omega), read_write_other m hm (by omega)]

/-- A byte of the run written reads as written. -/
theorem read_put_inside : ∀ (bs : Bytes) (m : List Host.Cell) (a i : Nat), Memory.wf m = true → (hi : i < bs.length) →
    Memory.read (Memory.put m a bs) (a + i) = bs[i] := by
  intro bs
  induction bs with
  | nil => intro m a i _ hi; simp at hi
  | cons x r ih =>
    intro m a i hm hi
    simp only [Memory.put]
    cases i with
    | zero =>
      rw [read_put_outside _ _ _ _ (write_wf m hm a x) (by omega), Nat.add_zero, read_write_same m hm]; rfl
    | succ j =>
      have := ih (Memory.write m a x) (a + 1) j (write_wf m hm a x) (by simpa using hi)
      rw [show a + (j + 1) = a + 1 + j by omega, this]; rfl

/-- A filter keeps the canonical form. -/
theorem filter_wf (m : List Host.Cell) (p : Host.Cell → Bool) (h : Memory.wf m = true) : Memory.wf (m.filter p) = true := by
  have key : ∀ (m : List Host.Cell) (lo : Nat), risingFrom (0 : Byte) lo m = true → risingFrom (0 : Byte) lo (m.filter p) = true := by
    intro m
    induction m with
    | nil => intro lo _; rfl
    | cons q r ih =>
      obtain ⟨k, v⟩ := q
      intro lo hr
      simp only [risingFrom, Bool.and_eq_true, decide_eq_true_eq] at hr
      obtain ⟨⟨h1, h2⟩, h3⟩ := hr
      simp only [List.filter]
      split
      · simp only [risingFrom, Bool.and_eq_true, decide_eq_true_eq]; exact ⟨⟨h1, h2⟩, ih _ h3⟩
      · exact ih _ (risingFrom_mono (by omega) h3)
  rw [wf_eq] at h ⊢
  exact key m 0 h

/-- A copy keeps the canonical form. -/
theorem copy_wf (m : List Host.Cell) (src dst n : Nat) (h : Memory.wf m = true) : Memory.wf (Memory.copy m src dst n) = true := by
  unfold Memory.copy
  have key : ∀ (l m : List Host.Cell), Memory.wf m = true →
      Memory.wf (l.foldl (fun m c => Memory.write m (dst + (c.1 - src)) c.2) m) = true := by
    intro l
    induction l with
    | nil => exact fun m hm => hm
    | cons c r ih => exact fun m hm => ih _ (write_wf m hm _ _)
  exact key _ _ (filter_wf m _ h)

theorem reset_memOk : Memory.wf State.reset.cru.mem = true := by decide

end Sys2Proof.Machine
end

