-- ==== Sys2Proof/Laws/Trio.lean ====
section
/-! SUPPORT. What one instruction of a core does to the module: one lemma for a core that is ready to execute it, and the
accessors of cores and units after an update of one core. -/

namespace Sys2Proof.Machine

@[simp] theorem modCore_unit (s : State) (c : Nat) (f : Core → Core) (u : Nat) : (s.modCore c f).unit u = s.unit u := rfl
@[simp] theorem modCore_trio (s : State) (c : Nat) (f : Core → Core) (t : Nat) : (s.modCore c f).trio t = s.trio t := rfl
@[simp] theorem syncF_st (c : Core) : (syncF c).st = c.st := rfl
@[simp] theorem syncF_ended (c : Core) : (syncF c).ended = c.ended := rfl
@[simp] theorem syncF_steps (c : Core) : (syncF c).steps = c.steps := rfl

theorem syncF_ne_default {c : Core} (h : c.steps ≠ 0) : syncF c ≠ {} := by
  intro he
  have := congrArg Core.steps he
  exact h this

theorem modCore_core_same {s : State} {ci : Nat} {v : Core} (hv : v ≠ {}) : (s.modCore ci fun _ => v).core ci = v :=
  tget_tset_ne_default hv ci s.cores

theorem modCore_core_other {s : State} {ci cj : Nat} {v : Core} (hv : v ≠ {}) (h : cj ≠ ci) :
    (s.modCore ci fun _ => v).core cj = s.core cj := tget_tset_other_ne_default hv h s.cores

theorem modCore_unitOfCore (s : State) (c : Nat) (f : Core → Core) (ci : Nat) :
    unitOfCore (s.modCore c f) ci = unitOfCore s ci := rfl

theorem modCore_core_st {s : State} {ci : Nat} {v : Core} (hv : v ≠ {}) (h : v.st = (s.core ci).st) (cj : Nat) :
    ((s.modCore ci fun _ => v).core cj).st = (s.core cj).st := by
  by_cases hc : cj = ci
  · rw [hc, modCore_core_same hv, h]
  · rw [modCore_core_other hv hc]

/-- The executing cores of a unit stay while a core keeps its core state. -/
theorem modCore_running {s : State} {ci : Nat} {v : Core} (hv : v ≠ {}) (h : v.st = (s.core ci).st) (u : Nat) :
    running (s.modCore ci fun _ => v) u = running s u := by
  simp only [running, voters, modCore_core_st hv h, modCore_trio]

/-- A core that is ready executes its instruction, and the cycle ends if it was the last to end. -/
theorem fetchRun_settles {s : State} {ci : Nat} {i : TInstr} {sem : CoreStep} {c' : Core} (hr : ready ci i s = true)
    (hs : sem (s.core ci) = .ok c') : fetchRun ci i sem s = settleCycle (unitOfCore s ci) (ran ci c' s) := by
  simp only [ready, Bool.and_eq_true, decide_eq_true_eq, Bool.not_eq_true'] at hr
  obtain ⟨⟨⟨⟨⟨hm, hw⟩, hok⟩, hb⟩, ht⟩, hd⟩ := hr
  unfold fetchRun
  simp only [hm, hw, hb, hok]
  simp only [Bool.not_true, Bool.false_eq_true, if_false, if_true]
  unfold runInstr
  simp only [hs]
  have hhit : ∀ a ∈ touches i (s.core ci), (∀ b ∈ (s.core ci).ceAt, b / 8 ≠ a) ∧ a ∉ (s.core ci).ueAt := by
    intro a ha
    have := List.all_eq_true.mp ht a ha
    simpa using this
  have h1 : ∀ l : List Nat, l = [] ∨ l = touches i (s.core ci) → l.find? (s.core ci).ueAt.contains = none := by
    rintro l (rfl | rfl)
    · rfl
    · rw [List.find?_eq_none]
      intro a ha
      have := (hhit a ha).2
      simpa using this
  have h2 : ∀ l : List Nat, l = [] ∨ l = touches i (s.core ci) →
      ((s.core ci).ceAt.filter fun b => l.contains (b / 8)) = [] := by
    rintro l (rfl | rfl)
    · simp
    · rw [List.filter_eq_nil_iff]
      intro b hb hc
      exact (hhit (b / 8) (by simpa using hc)).1 b hb rfl
  have hl : ∀ b : Bool, (if b = true then ([] : List Nat) else touches i (s.core ci)) = [] ∨
      (if b = true then ([] : List Nat) else touches i (s.core ci)) = touches i (s.core ci) := by
    intro b; cases b <;> simp
  simp only [h1 _ (hl _), h2 _ (hl _)]
  simp only [List.length_nil, Nat.mul_zero, Nat.add_zero, List.foldl_nil]
  have ha : applyWrites (unitOfCore s ci) ci (s.modCore ci fun _ => syncF { c' with steps := c'.steps + 1 }) =
      s.modCore ci fun _ => syncF { c' with steps := c'.steps + 1 } := by
    unfold applyWrites
    rw [modCore_unit, List.isEmpty_iff.mp hd]
    rfl
  show settleCycle _ (applyWrites _ _ _) = _
  rw [ha]
  rfl

/-- A core that is ready executes its instruction: it stands as the meaning leaves it, one instruction further, and nothing
else changes, as long as it has not ended its cycle. -/
theorem fetchRun_ready {s : State} {ci : Nat} {i : TInstr} {sem : CoreStep} {c' : Core} (hr : ready ci i s = true)
    (hs : sem (s.core ci) = .ok c') (he : c'.ended = false) (hst : c'.st = (s.core ci).st) :
    fetchRun ci i sem s = ran ci c' s := by
  rw [fetchRun_settles hr hs]
  simp only [ready, Bool.and_eq_true, decide_eq_true_eq, Bool.not_eq_true'] at hr
  obtain ⟨⟨⟨⟨⟨hm, hw⟩, hok⟩, hb⟩, ht⟩, hd⟩ := hr
  have hv : syncF { c' with steps := c'.steps + 1 } ≠ {} := syncF_ne_default (Nat.succ_ne_zero _)
  have hst' : (syncF { c' with steps := c'.steps + 1 }).st = (s.core ci).st := hst
  have hin : ci ∈ running s (unitOfCore s ci) := by
    simp only [mayExecute, Bool.and_eq_true] at hm
    simpa using hm.1.2
  unfold settleCycle ran
  rw [if_neg]
  simp only [Bool.and_eq_true, not_and, Bool.not_eq_true]
  intro _
  rw [modCore_running hv hst', List.all_eq_false]
  exact ⟨ci, hin, by rw [modCore_core_same hv]; simp [he]⟩

/-- A core that is ready has not ended its cycle. -/
theorem ready_not_ended {s : State} {ci : Nat} {i : TInstr} (hr : ready ci i s = true) : (s.core ci).ended = false := by
  simp only [ready, mayExecute, Bool.and_eq_true, Bool.not_eq_true'] at hr
  exact hr.1.1.1.1.1.2

/-- A core that raises a program exception halts its unit with cause 7, unless the watchdog has run out (10 R284, R285). -/
theorem fetchRun_raises {s : State} {ci : Nat} {i : TInstr} {sem : CoreStep} {e : Nat} (hr : ready ci i s = true)
    (hs : sem (s.core ci) = .error e) :
    fetchRun ci i sem s = raiseExc (unitOfCore s ci) e (ci % 3) s := by
  simp only [ready, Bool.and_eq_true, decide_eq_true_eq, Bool.not_eq_true'] at hr
  obtain ⟨⟨⟨⟨⟨hm, hw⟩, hok⟩, hb⟩, ht⟩, hd⟩ := hr
  unfold fetchRun
  simp only [hm, hw, hb, hok]
  simp only [Bool.not_true, Bool.false_eq_true, if_false, if_true]
  unfold runInstr
  simp only [hs]
  have hhit : ∀ a ∈ touches i (s.core ci), a ∉ (s.core ci).ueAt := by
    intro a ha
    have := List.all_eq_true.mp ht a ha
    simp only [Bool.and_eq_true, Bool.not_eq_true', List.contains_eq_mem, decide_eq_false_iff_not] at this
    exact this.2
  have h1 : ∀ l : List Nat, l = [] ∨ l = touches i (s.core ci) → l.find? (s.core ci).ueAt.contains = none := by
    rintro l (rfl | rfl)
    · rfl
    · rw [List.find?_eq_none]
      intro a ha
      have := hhit a ha
      simpa using this
  have hl : ∀ b : Bool, (if b = true then ([] : List Nat) else touches i (s.core ci)) = [] ∨
      (if b = true then ([] : List Nat) else touches i (s.core ci)) = touches i (s.core ci) := by
    intro b; cases b <;> simp
  simp only [h1 _ (hl _)]

end Sys2Proof.Machine
end

