-- ==== Sys2Proof/Tests/Slice0.lean ====
section
/-! SUPPORT. Tests: ill-formed terms that WellFormed refuses, worked examples of the spec, and for every statement a witness:
concrete states and operands that meet the hypotheses of each of its clauses. -/

set_option Elab.async false

namespace Sys2Proof.Tests

open Sys2Proof Sys2Proof.Machine

/-! ### Well-formedness -/

def hostHdr : Hdr := { t := 0, link := .host, srcIp := 1, srcPort := 1, hseq := 0, dseq := 0 }

theorem test_ill_formed : ([
    Instr.hello hostHdr 0 (2 ^ 24) (List.replicate 8 0), .hello hostHdr 0 0 [], .ping hostHdr (List.replicate 1401 0),
    .paramInfo hostHdr 65536, .poolLoad hostHdr { index := 65536, total := 0, offset := 0, data := [] },
    .camRowReceive 0 0 { vc := 16, dtype := 0, row := 0, lenBits := 0, ecc := 0, crcOk := true, bytes := [] },
    .dataFrameRx 0 false 0 { ftype := 1, sender := 0, slot := 0, cycle := 0, hops := 0, payload := List.replicate 65536 0, fcs := 0 },
    .st 0 { space := 0, ixf := false, addr := 0 }, .ldw 0 { space := 12, ixf := false, addr := 2048 },
    .ton 0 { num := 0, pv := true, base := 1, count := 0 }] : List Instr).all (fun i => !i.wf) = true := by decide +kernel

theorem test_well_formed : ([
    Instr.hello hostHdr 0 0 (List.replicate 8 0), .ping hostHdr (List.replicate 64 0), .paramInfo hostHdr 65535,
    .st 0 { space := 1, ixf := false, addr := 15 }, .ldw 0 { space := 12, ixf := false, addr := 2047 },
    .ton 0 { num := 255, pv := true, base := 0, count := 0 }] : List Instr).all Instr.wf = true := by decide +kernel

/-! ### Helpers -/

/-- A module that has started, with a host session and a service session open. -/
def up : State := {
  st := { step := 10 }
  cru := { st := .inService }
  flt := { mode := .service, quench := false, selfOk := true }
  lanes := [(0, { st := .inService }), (1, { st := .inService }), (2, { st := .inService })]
  host := {
    sess := some { ip := 1, port := 1, lastAt := 0 }
    svc0 := { sess := some { ip := 2, port := 2, lastAt := 0 } } } }

def svcHdr : Hdr := { t := 0, link := .service, srcIp := 2, srcPort := 2, dstIp := 0xC0A82511, dstPort := 47601, hseq := 0, dseq := 0 }

/-- A packet is admitted, and the state that its own checks see meets a condition. -/
def adm (h : Hdr) (op : Nat) (s : State) (p : State → Bool) : Bool :=
  match admitted h op s with
  | some (_, s1) => p s1
  | none => false

theorem adm_exists {h : Hdr} {op : Nat} {s : State} {p : State → Bool} (ha : adm h op s p = true) :
    ∃ ix s1, admitted h op s = some (ix, s1) ∧ p s1 = true := by
  unfold adm at ha
  cases hq : admitted h op s with
  | none => simp [hq] at ha
  | some x => exact ⟨x.1, x.2, rfl, by simpa [hq] using ha⟩

/-- A bulk part completes its object, and the object and the state after it meet a condition. -/
def whole (op : Nat) (part : BulkPart) (s : State) (p : Nat → Bytes → State → Bool) : Bool :=
  match bulkStep op part s with
  | .whole i bs s2 => p i bs s2
  | _ => false

/-- An object in one part. -/
def one (ix : Nat) (bs : Bytes) : BulkPart := { index := ix, total := bs.length, offset := 0, data := bs }

/-- A trio in the middle of a cycle, its first word an instruction, its core 0 as given. -/
def trioAt (i : TInstr) (c : Core) : State := {
  up with
  units := [(0, { st := .run, inCycle := true, code := [encodeTrio i, encodeTrio { code := 1, arg := .nil }] })]
  cores := [(0, { c with st := .inn }), (1, { st := .inn }), (2, { st := .inn })] }

/-- Every one of a list of instructions is ready on core 0 as given. -/
def allReady (is : List TInstr) (c : Core) : Bool := is.all fun i => ready 0 i (trioAt i c)

def opds (codes : List (BitVec 8)) (o : OpRef) : List TInstr := codes.map fun k => { code := k, arg := .opd o }
def plain (codes : List (BitVec 8)) : List TInstr := codes.map fun k => { code := k, arg := .nil }
def nums (codes : List (BitVec 8)) (n : BitVec 8) : List TInstr := codes.map fun k => { code := k, arg := .num n }
def jumps (codes : List (BitVec 8)) : List TInstr := codes.map fun k => { code := k, arg := .target 1 }

def opM : OpRef := { space := 2, ixf := false, addr := 4095 }
def opQ : OpRef := { space := 1, ixf := false, addr := 15 }
def opW : OpRef := { space := 12, ixf := false, addr := 2046 }
def opImm : OpRef := { space := 14, ixf := false, addr := 0xFFFF }

/-- An object with its embedded check field. -/
def sealed (off : Nat) (bs : Bytes) : Bytes := splice bs off (le 4 (crcEmbedded bs off))

theorem sealed_ok {bs : Bytes} {off : Nat} (h : off + 4 ≤ bs.length) : crcEmbeddedOk (sealed off bs) off = true := crcEmbeddedOk_splice h

/-! ### The interlock trios -/

theorem witness_TrioBits :
    effIndex ({} : Core) opM < spaceSize 2 ∧ allReady (opds [0x10, 0x11, 0x12, 0x13, 0x14, 0x15, 0x16] opM) {} = true ∧
    allReady (plain [0x18, 0x19, 0x46]) {} = true ∧ allReady (plain [0x1A, 0x1B, 0x1C, 0x1D]) { ls := [true] } = true ∧
    effIndex ({} : Core) opQ < spaceSize 1 ∧ allReady (opds [0x20, 0x21, 0x22, 0x23] opQ) {} = true := by decide +kernel

theorem witness_TrioControl :
    allReady (plain [0, 1]) {} = true ∧ allReady (jumps [2, 3, 4, 5]) {} = true ∧ allReady (plain [6]) { cs := [1] } = true ∧
    (running (trioAt { code := 1, arg := .nil } {}) 0).any (fun c => c ≠ 0 && !((trioAt { code := 1, arg := .nil } {}).core c).ended) = true := by
  decide +kernel

theorem witness_TrioEdges :
    allReady [{ code := 0x24, arg := .edge 4095 }, { code := 0x25, arg := .edge 0 }] { mask := [14095] } = true := by decide +kernel

theorem witness_TrioTimersCounters :
    allReady ([0x30, 0x31, 0x32, 0x33].map fun k => { code := k, arg := .timer { num := 255, pv := true, base := 0, count := 0 } }) {} = true ∧
    allReady (nums [0x34, 0x35, 0x36, 0x38, 0x39, 0x3A, 0x3B, 0x3C, 0x3D] 255) {} = true := by decide +kernel

theorem witness_TrioWordMoves :
    (wordOperand {} opW matches .ok _) = true ∧ allReady (opds [0x40, 0x41, 0x42, 0x44, 0x45] opW) {} = true ∧
    effIndex ({} : Core) opW + 1 < spaceSize 12 ∧
    allReady (opds [0x43] { space := 14, ixf := false, addr := 7 }) {} = true ∧
    allReady (opds [0x47, 0x48] { space := 2, ixf := false, addr := 4080 }) {} = true ∧ 4080 % 16 = 0 ∧ 4080 + 15 < spaceSize 2 := by
  decide +kernel

theorem witness_TrioWordResults :
    (wordOperand {} opImm matches .ok _) = true ∧
    allReady (opds [0x50, 0x51, 0x52, 0x53, 0x54, 0x55, 0x60, 0x61, 0x62, 0x63, 0x64, 0x65] opImm) {} = true ∧
    allReady (plain [0x56]) {} = true ∧ allReady (opds [0x66] { space := 14, ixf := false, addr := 31 }) {} = true := by decide +kernel

theorem witness_TrioCompare : allReady (opds [0x70, 0x71, 0x72, 0x73, 0x74, 0x75] opImm) {} = true := by decide +kernel

theorem witness_TrioExceptions :
    ((trioAt { code := 0x19, arg := .nil } {}).unit 0).st = .run ∧
    allReady (plain [0x19]) { ls := List.replicate 16 true } = true ∧ allReady (plain [0x1A, 0x1B, 0x1C, 0x1D]) {} = true ∧
    allReady (jumps [5]) { cs := List.replicate 8 0 } = true ∧ allReady (plain [6]) {} = true ∧
    spaceSize 1 ≤ effIndex ({ ix := 16 } : Core) { space := 1, ixf := true, addr := 0 } ∧
    allReady (opds [0x10, 0x20] { space := 1, ixf := true, addr := 0 }) { ix := 16 } = true ∧
    allReady (opds [0x44] { space := 12, ixf := true, addr := 0 }) { ix := 2048 } = true := by decide +kernel

theorem witness_TrioStoreFrame :
    Memory.wf ((trioAt { code := 0x20, arg := .opd opQ } {}).core 0).sram = true ∧ (bitHome 1 15).1 ≠ 0 ∧
    allReady (opds [0x20, 0x21, 0x22, 0x23, 0x10, 0x16] opQ) {} = true ∧ allReady (opds [0x44, 0x45, 0x40, 0x50, 0x70] opW) {} = true ∧
    wordHome 12 2046 + 4 ≤ 0x3000 ∧ allReady (opds [0x48] { space := 1, ixf := false, addr := 0 }) {} = true := by decide +kernel

theorem witness_TrioEncoding :
    argFits { code := 0x10, arg := .opd opM } = true ∧
    decodeTrio (encodeTrio { code := 0x10, arg := .opd opM }) = some { code := 0x10, arg := .opd opM } := by decide +kernel

/-! ### The host interface and the fault collector -/

theorem witness_Admission : adm hostHdr 0x0101 up (fun _ => true) = true ∧ adm svcHdr 0x0E10 up (fun _ => true) = true ∧
    hostHdr.link ≠ .forwarded ∧ seqFree .host 0x0101 = false ∧ seqFree .host 6 = true ∧ up.cru.errs = [] ∧
    (hseqNext up 0 - hostHdr.hseq).toNat ≤ windowSize 0 := by decide +kernel

/-- A module that has answered the packet with HSEQ 0, and one that has not but waits for a worker's reply to it. -/
def answered : State := up.modHost fun x => { x with hseqNext := 1, window := [replyTo hostHdr 0x0101 0 [] up] }
def waiting : State := up.modHost fun x => { x with hseqNext := 1, fwd := [{ h := hostHdr, opcode := 0x0101, left := 3 }] }

theorem witness_SequenceAndQueue :
    (let s1 := heardFrom hostHdr 0 (expire 0 answered)
     opensTo hostHdr 0 0x0101 (expire 0 answered) = true ∧ hostHdr.hseq ≠ hseqNext s1 0 ∧ (stored s1 0 hostHdr.hseq).isSome = true) ∧
    (let s1 := heardFrom { hostHdr with hseq := 7 } 0 (expire 0 answered)
     hseqNext s1 0 ≠ 7 ∧ stored s1 0 7 = none ∧ s1.host.fwd = []) ∧
    (let s1 := heardFrom hostHdr 0 (expire 0 waiting)
     hostHdr.hseq ≠ hseqNext s1 0 ∧ stored s1 0 0 = none ∧ (s1.host.fwd.any fun f => awaits hostHdr.hseq 0 f) = true) ∧
    (up.host.fromQueue = false ∧ answers hostHdr (advance 0 up) = true) ∧
    (answers hostHdr (advance 0 (up.modClk fun c => { c with sp := .restarting })) = true) ∧
    (let s := up.modHost fun x => { x with queue := List.replicate 16 (.evtAck hostHdr) }
     queueFull s = true ∧ answers hostHdr (advance 0 s) = true) ∧
    (let s := up.modHost fun x => { x with held := some { h := hostHdr, opcode := 0x0901 } }
     queueFull s = false ∧ mustWait s = true ∧ s.clk.sp ≠ .restarting) := by decide +kernel

theorem witness_SessionAndEventCommands :
    adm hostHdr 1 up (fun _ => true) = true ∧ adm hostHdr 2 up (fun _ => true) = true ∧ adm hostHdr 5 up (fun _ => true) = true ∧
    adm hostHdr 6 up (fun _ => true) = true ∧ (List.replicate 64 (0 : Byte)).length ≤ 64 ∧
    adm hostHdr 3 answered (fun s1 => (stored s1 0 0).isSome) = true ∧
    (let s := raiseEvent 100 1 [0, 0] up
     let bad := s.modCru fun c => { c with poison := [logAddr 1 / 256] }
     let es := eseqRange 1 1
     let at1 (s1 : State) : State := touchAll 0x60 6 ((es.filter fun q => (logEntry s1 q).isSome).map fun q => (logAddr q, 64)) s1
     let hit (s1 : State) : Option Word := (es.filter fun q => (logEntry s1 q).isSome).find? fun q => tilePoisoned (at1 s1) (logAddr q)
     adm hostHdr 4 s (fun s1 => decide (hit s1 = none) && !(es.filterMap (eventEntry (at1 s1))).isEmpty) = true ∧
       adm hostHdr 4 bad (fun s1 => decide (hit s1 = some 1)) = true) ∧
    adm hostHdr 0x0A01 up (fun _ => true) = true ∧ adm hostHdr 0x0A02 up (fun _ => true) = true ∧
    adm hostHdr 0x0A03 up (fun _ => true) = true ∧
    adm hostHdr 0x0A04 { up with mram := { mirror := [zeros 64] } } (fun s1 => decide (0 < s1.mram.mirror.length)) = true := by
  decide +kernel

theorem witness_InterfaceEvents :
    (∃ x, up.host.sess = some x ∧ x.lastAt + ms 100 * reg up P.sysSessionTimeout ≤ (advance (10 ^ 9) up).now) ∧
    (let s := raiseEvent 100 1 [0, 0] up
     (∃ u, s.host.unacked.find? (fun u => u.eseq = 1) = some u ∧ u.resends < 3 ∧
       u.sentAt + ms (reg s P.sysEvtResend) ≤ (advance (10 ^ 9) s).now) ∧ (eventEntry s 1).isSome = true ∧ canSend s = true ∧
     isWorker s = false ∧ s.cru.errs = []) ∧
    (let s := waiting.modHost fun x => { x with fwd := [{ h := hostHdr, opcode := 0x0101, left := 0, sent := true }] }
     (s.host.fwd.find? (fun f => f.h.hseq = 0 && f.sent && decide (f.left = 0))).isSome = true) ∧
    unitUp up = true ∧ (0 : BitVec 32).toNat = 0 ∧ malformed 8 [] = true ∧
    adm hostHdr 0x0FFF up (fun _ => true) = true ∧ definedOps.contains 0x0FFF = false := by decide +kernel

/-- Source 20 has a record of an event of class degraded, and its cause has gone or not. -/
def faulted (active : Bool) : State :=
  let t := faultEvent 5 20 2 { loc := 0, detail := 1 } active up
  if active then t else causeGone 20 t

theorem witness_FaultCommands :
    adm hostHdr 0x0801 up (fun _ => true) = true ∧
    adm hostHdr 0x0802 (faulted true) (fun s1 => (s1.src 20).first.isSome && (s1.src 20).latest.isSome) = true ∧
    adm hostHdr 0x0803 (faulted true) (fun s1 => keepsRecord 20 s1 && !s1.flt.quench) = true ∧
    adm hostHdr 0x0803 (faulted false) (fun s1 => keepsRecord 20 s1 && !sourceActive 20 s1 && !s1.flt.quench) = true ∧
    adm hostHdr 0x0803 up (fun s1 => !sourceActive 20 s1 && (instant s1).fltEvents.isEmpty && !sourceLatched 20 s1 && !s1.flt.quench) = true ∧
    adm { hostHdr with t := 9 } 0x0803 (faulted false) (fun s1 =>
      !sourceActive 20 s1 && (instant s1).fltEvents.isEmpty && sourceLatched 20 s1 && !s1.flt.quench) = true ∧
    adm hostHdr 0x0804 { up with mram := { log := [zeros 48] } } (fun s1 => decide (0 < s1.mram.log.length)) = true := by decide +kernel

theorem witness_FaultCollector :
    (up.src 20).held = none ∧ (up.src 20).active = false ∧ (eventClass 20 (sourceLoc 20 0 (advance 5 up)) (advance 5 up)).1 ≠ 0 ∧ up.clk.sp = .running ∧
    (let s := advance 5 { up with regsEdge := [(P.fltClass 20, 0)] }; (eventClass 20 (sourceLoc 20 0 s) s).1 = 0) ∧ canonical {} up.flt.srcs = true ∧
    up.flt.mode ≠ .start ∧ (up.src 20).badAt = none ∧ up.inst.at' ≠ (advance 5 up).now ∧ collectorRuns up = true := by decide +kernel

/-! ### Parameters and objects -/

/-- The run that a port of the reset format needs, in tiles. -/
def runLen : Nat := 3 * (camBufSize 3 up / 256)

/-- Camera 3 is LINKED in gear 3 with a run of its own, camera 4 STARTED, pipe 2 ACTIVE. -/
def busy : State := {
  up with
  cams := [(3, { st := .linked, gear := 3 }), (4, { st := .started, gear := 3, triggering := true })]
  cru := { st := .inService, runs := [(3, (0, runLen))] }
  pipes := [(2, { st := .active, rate := 4, lanes := 4 })] }

theorem witness_ParamAccess :
    adm hostHdr 0x0101 up (fun _ => true) = true ∧ (List.replicate 64 0).length ≤ 64 ∧
    ((paramRow P.tickRate).any fun r => decide (r.acc ≠ 2 ∧ r.acc ≠ 3)) = true ∧
    ((paramRow P.sysTjMax).any fun r => decide (r.acc = 3)) = true ∧
    adm hostHdr 0x0101 up (fun s1 => decide (tget none (instant s1).counted 17 = none ∧ 17 ≠ P.sysTjMax) &&
      (paramRow 17).any fun r => decide (r.acc = 3)) = true ∧
    adm hostHdr 0x0101 (countReg up 17) (fun s1 => decide (tget none (instant s1).counted 17 = some (0, 1))) = true ∧ paramRow 0xFFFF = none ∧
    adm hostHdr 0x0103 up (fun _ => true) = true ∧ factIds.contains P.tickRate = false ∧
    adm { hostHdr with lenOk := true } 0x0102 up (fun s1 =>
      (match writeItems 0 [{ id := P.tickStaleLimit, value := 3 }] s1 with | .ok _ => true | .error _ => false) &&
      (match writeItems 0 [{ id := 0xFFFF, value := 3 }] s1 with | .ok _ => false | .error (_, st) => decide (st ≠ Status.held))) = true := by
  decide +kernel

theorem witness_StartStopWrites :
    adm hostHdr 0x0102 busy (fun s1 =>
      decide ((s1.cam 3).st = .linked) && rateOk 3 (setReg s1 (P.camEnable 3) 1) &&
      carriesAt 3 3 (setRate s1) (setReg s1 (P.camEnable 3) 1) && (placeCamera 3 (setReg s1 (P.camEnable 3) 1)).isSome &&
      camOn 4 s1 && decide ((s1.pipe 2).st ≠ .disabled ∧ s1.cru.errs = [] ∧ (instant s1).tracks = none ∧ (instant s1).commits = [])) = true ∧
    adm hostHdr 0x0102 up (fun s1 => decide ((s1.pipe 0).st = .disabled) && canonical {} s1.pipes && !pipeOut 0 s1 && !camBusy s1 &&
      creditsOk 60000 (setReg s1 P.tickRate 60000) && pipesOkAt 60000 (setReg s1 P.tickRate 60000)) = true ∧
    adm hostHdr 0x0102 up (fun s1 => soStartOk 0 (setReg s1 (P.soEnable 0) 1)) = true ∧
    (-18000 : Int) ≤ (0 : Word).toInt := by decide +kernel

def stagedPart : State := up.modHost fun x => { x with staging := [(0x0110, some { index := 0, total := 4, data := [1, 2] })] }

theorem witness_BulkStaging :
    bulkStep 0x0110 { index := 0, total := 4, offset := 2, data := [3, 4] } stagedPart ≠ .bad stagedPart ∧
    tget none stagedPart.host.staging 0x0110 = some { index := 0, total := 4, data := [1, 2] } ∧
    tget none up.host.staging 0x0110 = none := by decide +kernel

def poolTbl : Bytes := sealed 4 (le 2 1 ++ zeros 14 ++ [1, 0, 0, 0] ++ le 4 0 ++ le 4 0x1000 ++ zeros 4)
/-- One pool of each type. -/
def pools : Bytes :=
  sealed 4 (le 2 5 ++ zeros 14 ++ (List.range 5).flatMap fun k => [b8 (k + 1), 0, 0, 0] ++ le 4 (0x1000 * k) ++ le 4 0x1000 ++ zeros 4)
def pooled : State := up.modCru fun c => { c with pool := pools }
def meshObj : Bytes := sealed 0xFC
  (pad 512 (le 2 1 ++ [1, 0x46] ++ le 2 64 ++ le 2 16 ++ le 2 2 ++ le 2 2 ++ zeros 8 ++ le 4 0x100 ++ zeros 8 ++ le 4 512))
def ovlObj : Bytes := sealed 0x0C (pad 256 (zeros 4 ++ le 4 256))
def layerObj : Bytes := sealed 0x0C (pad 512 ([0, 0] ++ le 2 1 ++ le 2 1 ++ le 2 256 ++ le 4 512))

def iconObj : Bytes := sealed 4 (pad 16416 [1])

theorem witness_VideoObjects :
    crcEmbeddedOk poolTbl 4 = true ∧ crcEmbeddedOk meshObj 0xFC = true ∧ crcEmbeddedOk ovlObj 0x0C = true ∧
    crcEmbeddedOk layerObj 0x0C = true ∧ crcEmbeddedOk iconObj 4 = true :=
  ⟨sealed_ok (by decide +kernel), sealed_ok (by decide +kernel), sealed_ok (by decide +kernel), sealed_ok (by decide +kernel),
    sealed_ok (by rw [pad_length]; decide)⟩

theorem witness_VideoLoads :
    whole 0x0110 (one 0 poolTbl) up (fun i bs s2 => decide (i = 0 ∧ 16 ≤ bs.length) && poolFieldsOk bs &&
      (placeAll bs s2 (placedObjects s2) (cameraRuns s2)).isSome && !camBusy s2 && (viewIxs s2).all fun v => !viewOn s2 v) = true ∧
    whole 0x0204 (one 511 meshObj) pooled (fun i bs s2 => decide (i ≤ 511 ∧ 256 ≤ bs.length) && meshFieldsOk bs &&
      !ctxNames s2 cxMesh i && decide (viewStoreUsed s2 - storedLength kMesh i s2 + bs.length ≤ 16777216) &&
      (placeObject kMesh i (storeObj kMesh i bs s2)).isSome) = true ∧
    whole 0x0206 (one 255 ovlObj) pooled (fun i bs s2 => decide (i ≤ 255 ∧ 16 ≤ bs.length) && ovlFieldsOk bs &&
      !ctxNames s2 cxOvl i && decide (viewStoreUsed s2 - storedLength kOverlay i s2 + bs.length ≤ 16777216) &&
      (placeObject kOverlay i (storeObj kOverlay i bs s2)).isSome) = true ∧
    whole 0x0403 (one 0 layerObj) pooled (fun i bs s2 => decide (i ≤ 255 ∧ 256 ≤ bs.length) &&
      decide (u8 bs 0 = i ∧ u8 bs 1 = 0 ∧ 1 ≤ u16 bs 2 ∧ u16 bs 2 ≤ 2560 ∧ 1 ≤ u16 bs 4 ∧ u16 bs 4 ≤ 1600 ∧ u16 bs 6 % 256 = 0 ∧
        4 * u16 bs 2 ≤ u16 bs 6 ∧ u32 bs 8 = 256 + u16 bs 4 * u16 bs 6 ∧ bs.length = u32 bs 8) && allZero (sub bs 0x10 240) &&
      !selNamesImage s2 i && decide (layerStoreUsed s2 - storedLength kLayer i s2 + bs.length ≤ 8388608) &&
      (placeObject kLayer i (storeObj kLayer i bs s2)).isSome) = true ∧
    (u8 iconObj 0 = 1 ∧ allZero (sub iconObj 1 3) = true ∧ allZero (sub iconObj 8 12) = true ∧ u8 iconObj 0x17 = 0 ∧ u8 iconObj 0x1B = 0 ∧
      u8 iconObj 0x1F = 0 ∧ ∀ p < 8, reg up (P.soFbIcon p) ≠ 1) ∧
    ([0x0110, 0x0204, 0x0206, 0x0403, 0x0405].all fun op => adm hostHdr op pooled fun _ => true) = true := by decide +kernel

def ctxRec : Bytes := let b := zeros 124; b ++ le 4 (crcStore b)
def selTbl : Bytes := sealed 4 (zeros 48)
def layoutTbl : Bytes := sealed 4 (zeros 528)
def regionTbl : Bytes := sealed 4 (zeros 16)

theorem witness_VideoTables : crcEmbeddedOk selTbl 4 = true ∧ crcEmbeddedOk layoutTbl 4 = true ∧ crcEmbeddedOk regionTbl 4 = true :=
  ⟨sealed_ok (by decide +kernel), sealed_ok (by decide +kernel), sealed_ok (by decide +kernel)⟩

set_option maxRecDepth 100000 in
theorem witness_VideoCommands :
    adm hostHdr 0x0201 up (fun s1 => crcTrailerOk ctxRec 0x7C && cxFieldsOk s1 255 ctxRec && cxStateOk s1 255 ctxRec) = true ∧
    adm hostHdr 0x0202 { up with views := [(255, { staged := some ctxRec })] } (fun s1 => decide ((s1.view 255).staged = some ctxRec)) = true ∧
    adm hostHdr 0x0203 up (fun _ => true) = true ∧
    adm hostHdr 0x0205 (storeObj kMesh 511 [0] up) (fun s1 => !(mesh s1 511).isEmpty && !ctxNames s1 cxMesh 511) = true ∧
    adm hostHdr 0x0207 (storeObj kOverlay 255 [0] up) (fun s1 => !(ovlList s1 255).isEmpty && !ctxNames s1 cxOvl 255) = true ∧
    adm hostHdr 0x0404 (storeObj kLayer 255 [0] up) (fun s1 => !(obj s1 kLayer 255).isEmpty && !selNamesImage s1 255) = true ∧
    adm hostHdr 0x0208 up (fun s1 => selFieldsOk s1 selTbl && placesOk s1 0 selTbl (latestLayout s1 0) 256 [] &&
      fetchOk s1 0 selTbl (latestLayout s1 0)) = true ∧
    adm hostHdr 0x0401 up (fun s1 => allZero (sub layoutTbl 1 3) && allZero (sub layoutTbl 8 8) &&
      placesOk s1 0 (latestSel s1 0) layoutTbl 256 [] && fetchOk s1 0 (latestSel s1 0) layoutTbl) = true ∧
    adm hostHdr 0x0402 up (fun _ => allZero (sub regionTbl 8 8)) = true := by decide +kernel

theorem witness_RecordReads :
    adm hostHdr 0x0209 up (fun _ => true) = true ∧ adm hostHdr 0x020A up (fun _ => true) = true := by decide +kernel

/-! ### Cameras, ticks, the Crucible -/

def camAs (p : CamPort) : State := {
  up with cams := [(3, p)], cru := { st := .inService, runs := [(3, (0, runLen))] }, tick := { count := 2000 } }
def openWindow : CamWindow := { tick := 2000, trigAt := 0 }
/-- A window whose next trigger's time has come. -/
def overWindow : CamWindow := { tick := 1998, trigAt := 0 }
def inFrame : CamFrame := { tick := 2000, buf := 0, trigAt := 0, startAt := 0, frameNo := 1, width := 64, height := 16 }
def rowOf (n : Nat) : RowPacket := { vc := 0, dtype := 0x1E, row := n, lenBits := 64 * 16, ecc := 0, crcOk := true, bytes := zeros 128 }

theorem witness_CameraLinks :
    (let s := camAs { st := .training }
     (s.cam 3).gear = 0 ∧ reg s (P.camEnable 3) = 0 ∧ (setReg { s with st := { step := 5 } } (P.camEnable 3) 1).st.step < 9) ∧
    (let s := setReg (camAs { st := .training }) (P.camEnable 3) 1
     let m (g : Nat) : State := (s.modCam 3 fun p => { p with gear := g }).modCam 3 fun p => { p with delay := 7, stream := .discarded }
     9 ≤ s.st.step ∧ reg s (P.camEnable 3) ≠ 0 ∧ gearServes 3 (m 3) = true ∧ (placeCamera 3 (m 3)).isSome = true ∧
     (placeCamera 3 ((m 3).modCru fun c => { c with runs := [] })).isNone = true ∧
     gearServes 3 (setReg (m 1) (P.camVcgear 3) 0x20) = false) ∧
    ((camAs { st := .lost }).cam 3).gear = 0 ∧
    (let s := camAs { st := .started, gear := 3 }
     (s.cam 3).gear ≠ 0 ∧ 1024 ≤ (s.tick.count - (s.cam 3).measuredAt).toNat ∧ sendsTrigger 3 s = false ∧ pulsing 3 s = false ∧
     (s.cam 3).frame = none ∧ tget none (instant s).settles 3 = none) ∧
    (let s := camAs { st := .started, gear := 3, triggering := true, window := some openWindow }
     sendsTrigger 3 s = true ∧ triggered 3 s = true ∧ pulsing 3 s = false) ∧
    (let s := camAs { st := .linked, gear := 1 }; (s.cam 3).frame = none ∧ tget none (instant s).settles 3 = none) ∧
    (let u : CamUndo := { port := { st := .started, gear := 3, frame := some inFrame }, header := [], skip := false, full := false }
     let s : State := { camAs { st := .started, gear := 3 } with inst := { settles := tset none [] 3 (some u) } }
     (s.cam 3).gear ≠ 0 ∧ tget none (instant s).settles 3 = some u ∧ u.port.gear ≠ 0 ∧ u.port.frame.isSome = true) := by
  decide +kernel

theorem witness_CameraWindows :
    (let s := camAs { st := .started, gear := 3, triggering := true }
     sendsTrigger 3 s = true ∧ triggered 3 s = false ∧ trigDue 3 (advance 1 s) = true) ∧
    ([true, false].all fun b =>
      let s := camAs { st := .started, gear := 3, window := some { overWindow with settled := b } }
      decide ((s.cam 3).frame = none ∧ windowOver { overWindow with settled := b } s = true)) = true ∧
    windowOver { openWindow with tick := 1999 } (camAs {}) = true ∧
    ((camAs { st := .started, gear := 3, missRun := 2 }).cam 3).lossTicks ≤ 2 := by decide +kernel

theorem witness_CameraFrames :
    (let s := camAs { st := .started, gear := 3, window := some openWindow }
     let s0 := advance 1 s
     (s.cam 3).gear ≠ 0 ∧ windowOver openWindow s0 = false ∧ openWindow.begun = false ∧ openWindow.trigAt + (s.cam 3).delay < s0.now ∧
     (s0.now - (openWindow.trigAt + (s.cam 3).delay)) * 100 * s.tick.rate ≤ openWindow.fswin * perRate ∧ writesFrames 3 s = true ∧
     Memory.wf s.cru.mem = true ∧ fld (reg s (P.camVcgear 3)) 3 0 ≠ 15) ∧
    windowOver { openWindow with begun := true } (camAs {}) = false ∧ windowOver overWindow (camAs {}) = true ∧
    (camAs {}).now ≤ openWindow.trigAt + ((camAs {}).cam 3).delay ∧
    (let s0 := advance (10 ^ 6) (camAs {})
     openWindow.fswin * perRate < (s0.now - (openWindow.trigAt + (s0.cam 3).delay)) * 100 * s0.tick.rate) ∧
    ((camAs { st := .started, gear := 3 }).cam 3).window = none ∧
    (let s := camAs { st := .started, gear := 3, window := some { openWindow with begun := true }, frame := some inFrame, stream := .taken }
     (s.cam 3).frame = some inFrame ∧ (s.cam 3).stream = .taken ∧
     (rowOf 15).vc = fld (reg s (P.camVcgear 3)) 3 0 ∧ (rowOf 15).dtype = dataType inFrame.fmt ∧ (rowOf 15).row < inFrame.height ∧
     inFrame.okRows.contains 15 = false ∧ inFrame.errRows.contains 15 = false ∧
     (rowOf 15).lenBits = inFrame.width * wireBits inFrame.fmt) := by decide +kernel

theorem witness_CameraSettling :
    (let f := { inFrame with ended := true }
     let s := camAs { st := .started, gear := 3, window := some openWindow, frame := some f }
     let s0 := advance 1 s
     let hd := settledHeader f (judgeFrame (s.cam 3) f) s0.now
     windowOver openWindow s0 = false ∧ cruOk s = true ∧ f.errRows.length ≤ openWindow.errmax ∧ Memory.wf s.cru.mem = true ∧
     f.addr % 8 = 0 ∧ cruOk (readHeader 3 f.addr (writeHeader 3 f.addr hd settleParts (keepPort 3 f (judgeFrame (s.cam 3) f).skip (useChannel 3 0 1 s0)))) = true) ∧
    (windowOver overWindow (camAs {}) = true ∧ cruOk { camAs {} with cru := { st := .lost } } = false ∧
     openWindow.errmax < { inFrame with ended := true, errRows := List.range 9 }.errRows.length) ∧
    (let s := camAs { st := .started, gear := 3, window := some openWindow, repeats := 2 }
     (s.cam 3).frozen = false ∧ openWindow.freeze ≤ (s.cam 3).repeats ∧ canonical {} s.views = true) := by decide +kernel

theorem witness_CameraCommands :
    adm hostHdr 0x0301 (camAs { lastHdr := zeros 64 }) (fun s1 => !(s1.cam 3).lastHdr.isEmpty) = true ∧
    adm hostHdr 0x0301 up (fun s1 => (s1.cam 15).lastHdr.isEmpty) = true ∧
    adm hostHdr 0x0302 (camAs { st := .linked, gear := 1 }) (fun s1 => decide ((s1.cam 3).gear ≠ 0)) = true ∧
    (let x : Held := { h := hostHdr, opcode := 0x0302, arg := 4, camera := 3 }
     let p : CamPort := { st := .started, gear := 3, triggering := true, segment := some { ready := 0, begun := none } }
     let s := (camAs p).modHost fun y => { y with held := some x }
     s.host.held = some x ∧ x.opcode = 0x0302 ∧ segmentWaits x.camera s = true ∧
     segmentWaits x.camera (advance (10 ^ 6) s) = false) := by decide +kernel

def following : State := { up with tick := { source := 1, ref := some 0, loose := false } }

theorem witness_TickEvents :
    up.tick.source ≠ 1 ∧ following.tick.source = 1 ∧ false = decide (reg following P.tickInEdge = 1) ∧
    refExpired 1666666 following = false ∧ { following with tick := { source := 1 } }.tick.ref = none ∧
    inWindowOf (1666666 * following.tick.rate) (nearestPeriods (1666666 * following.tick.rate)) = true ∧
    inWindowOf (500000 * following.tick.rate) (nearestPeriods (500000 * following.tick.rate)) = false ∧
    inWindowOf (100 * following.tick.rate) 0 = true ∧ nearestPeriods (100 * following.tick.rate) = 0 ∧
    refExpired 3400000 following = true ∧ following.tick.holdover = false ∧ reg following P.tickLossCount + 1 < 65536 ∧
    (let s : State := { up with tick := { source := 1, holdover := true, accepted := 3 } }; 3 ≤ s.tick.accepted) ∧
    (powered up = true ∧ edgeAllowed 100 (advance 100 up) = true) ∧
    (let s : State := { up with
       cams := [(3, { st := .started, gear := 3, stopping := true })], pipes := [(2, { st := .active, stopping := true })] }
     powered s = true ∧ 2 ≤ s.st.step ∧ edgeAllowed 100 (advance 100 s) = true ∧ canonical {} s.views = true ∧
     canonical {} s.cams = true ∧ canonical {} s.pipes = true ∧ (s.cam 3).stopping = true ∧ (s.pipe 2).stopping = true ∧
     (s.pipe 2).stopAt ≠ (advance 100 s).now ∧ regGet (edgeRegs (advance 100 s)) P.tickSource = s.tick.source) ∧
    (edgeAllowed 1666667 (advance 1666667 { following with tick := { loose := false } }) = true ∨
     edgeAllowed 1666666 (advance 1666666 { following with tick := { loose := false } }) = true) := by
  decide +kernel

theorem witness_CrucibleAccess :
    up.cru.st = .inService ∧ mayWrite up .camera 0 256 = false ∧ mayWrite up .selfTest 0x6FFFFF00 256 = true ∧
    Memory.wf up.cru.mem = true ∧ (∀ x, tget 0 up.cru.errs x ≠ 0 → x ≠ 0x6FFFFF00 / 8 ∧ x ≠ (0x6FFFFF00 + 256) / 8) ∧
    0x70000000 < 0x6FFFFFFF + 2 ∧ 0x6FFFFFF8 + 8 ≤ 0x70000000 := by
  refine ⟨by decide +kernel, by decide +kernel, by decide +kernel, by decide +kernel, fun x h => absurd rfl h, by decide, by decide⟩

theorem witness_CrucibleUpkeepRecovery :
    up.cru.st = .inService ∧ up.cru.scrubAt + 8 < 0x70000000 ∧ tget 0 up.cru.errs 0 = 0 ∧
    0x70000000 ≤ (up.modCru fun c => { c with scrubAt := 0x6FFFFFF8 }).cru.scrubAt + 8 ∧
    ([1, 64, 65].all fun e =>
      let s := up.modCru fun c => { c with errs := tset 0 [] 0 e }
      decide (tget 0 s.cru.errs 0 = e) && !tilePoisoned s 0 && !(instant s).wrote.contains 0) = true ∧
    (insertNat 0 up.cru.poison).length + (instant up).cleared ≤ reg up P.cruPoisonMax ∧
    (let s := up.modCru fun c => { c with poison := (List.range 5000).map (· + 1) }
     tilePoisoned s 0 = false ∧ reg s P.cruPoisonMax < (insertNat 0 s.cru.poison).length + (instant s).cleared ∧
     reg s P.cruPoisonMax < poisonCount s) ∧
    up.cru.overrun.contains 3 = false ∧
    adm hostHdr 0x0901 (up.modCru fun c => { c with st := .lost }) (fun s1 => decide (s1.cru.st = .lost)) = true ∧
    adm hostHdr 0x0901 up (fun s1 => decide (s1.cru.st ≠ .lost)) = true ∧
    (let s := up.modCru fun c => { c with st := .recovering }
     s.cru.returning = false ∧ domUp 5 s = true ∧ s.clk.sp = .running ∧ s.clk.spDue = false ∧ (instant (advance 5 s)).fltEvents = []) := by decide +kernel

/-! ### Renders, scan-out and the witness -/

/-- A context of one camera, 64 x 16 pixels, deadline 50 %, commit 40 %; `ctrl` its CTRL byte. -/
def ctxOf (ctrl : Byte) : Bytes := pad 128 ([ctrl, 0, 50, 40] ++ le 2 64 ++ le 2 16 ++ [3, 0xFF])
def rendering (r : Render) : State := {
  up with
  views := [(0, { ctx := r.ctx, render := some r, lastClocks := some 1000, shownSel := true })]
  cams := [(3, { st := .started, gear := 3, settled := some { buf := 0, tick := 0, gen := 1, fresh := true, at' := 0 } })] }
def plainRender : Render := { tick := 0, ctx := ctxOf 1, buf := 0, checked := true }
def mirageRender : Render := { tick := 0, ctx := ctxOf 3, buf := 0, checked := true }

theorem witness_RenderJobs :
    viewsRun up = true ∧ engineInPool 7 up = true ∧ firstJob up = none ∧
    (let s := rendering plainRender; (firstJob ((enabledViews s).foldl (fun s v => checkHeaders v s) (advance 0 s))).isSome = true) := by
  decide +kernel

theorem witness_RenderOutcomes :
    (let r := { plainRender with rows := 1, decision := some .plain }
     let s := rendering r
     liveRender 0 (advance 100 s) = some r ∧ viewsRun s = true ∧ tileRows r.ctx ≤ r.rows ∧ r.done = none ∧ r.decision = some .plain ∧
     sourcesSettled r s = true ∧ canonical {} s.views = true ∧ (s.view 0).invalid = false ∧
     ((s.modView 0 fun x => { x with invalid := true }).view 0).invalid = true) ∧
    (let s := rendering plainRender
     plainRender.tick = s.tick.count ∧ plainRender.settled = false ∧ plainRender.checked = true ∧ cxMirage plainRender.ctx = false ∧
     reached (cxDeadline plainRender.ctx) (advance (10 ^ 6) s) = true) ∧
    (let s := (rendering plainRender).modView 0 fun x => { x with stale := 8 }
     (s.view 0).invalid = false ∧ reg s P.tickStaleLimit ≤ (s.view 0).stale ∧ ctxEnabled (s.view 0).ctx = true) ∧
    (let s := (rendering plainRender).modView 0 fun x => { x with invalid := true, recover := 8 }
     reg s P.tickRecoverCount ≤ (s.view 0).recover) := by decide +kernel

theorem witness_MirageDecisions :
    (let s := { rendering mirageRender with
       hostAge := [(0, 0)], tick := { lastEdge := 1666666 }
       cams := [(3, { st := .started, gear := 3, settledAt := [(0xFFFFFFFF, 0)] })] }
     let s0 := advance 2366666 s
     commitRender 0 s0 = some mirageRender ∧ mirageRender.decision ≠ some .envelope ∧ viewsRun s = true ∧ mirageRender.done = none ∧
     commitRender 0 (modRender 0 (fun r => { r with decision := some .envelope }) s0) =
       some { mirageRender with decision := some .envelope } ∧
     commitRender 0 (advance 700000 (rendering mirageRender)) = some mirageRender ∧
     (measure ((trackOf (cxAngleSrc mirageRender.ctx)).getD 0) s).any (fun a => decide ((a - mirageRender.thetaPred).natAbs ≤ 0)) = true ∧
     (measure 0 s).any (fun a => decide (5 * cxAngleTol mirageRender.ctx < (a - 50).natAbs)) = true ∧
     budgetOk 0 mirageRender.ctx s0 = true ∧ budgetOk 1 mirageRender.ctx s0 = false ∧ envelopeDone mirageRender s = false) ∧
    measure 0 (rendering mirageRender) = none ∧ envelopeDone mirageRender (rendering mirageRender) = false ∧ reg up P.mirHostTimeout < tget 256 up.hostAge 3 := by decide +kernel

def showing (f : OutFrame) : State := { up with pipes := [(2, { st := .active, rate := 3, lanes := 4, frame := some f })] }
def shownFrame : OutFrame := { tick := 0, entry := 0, layers := [] }

theorem witness_PipeFramesLinks :
    (let s : State := { up with pipes := [(2, { st := .active })], tick := { count := 7, loose := false } }
     (s.pipe 2).st = .active ∧ startTick 2 s = some 6 ∧ startTick 2 (advance 1666666 s) = some 7 ∧
     startTick 2 (advance (10 ^ 6) s) = none ∧ (∀ g, (s.pipe 2).frame = some g → g.tick ≠ 6) ∧
     cruOk { s with cru := { st := .lost } } = false) ∧
    (let s := showing shownFrame
     let s0 := advance (10 ^ 7) s
     (s.pipe 2).frame = some shownFrame ∧ shownFrame.complete = false ∧ shownFrame.lostAt = none ∧
     activeOver 2 shownFrame s0 = true ∧ (s.pipe 2).st = .active ∧ staticPoisoned shownFrame s = false ∧
     failingRegions 2 (s.pipe 2) shownFrame 0 s0 = []) ∧
    (let s : State := { up with pipes := [(2, { st := .training })] }
     carriesTiming 2 3 4 s.tick.rate s = true ∧ carriesTiming 2 0 4 s.tick.rate s = false ∧ (s.pipe 2).trainedNext = false) ∧
    (let s := showing shownFrame
     tget none (instant (advance 5 s)).started 2 = none ∧ 2559 < hact 2 s + 2560 ∧ 0 < hact 2 s ∧ 0 < vact 2 s ∧
     shownFrame.underrun = none ∧ shownFrame.full = false) ∧
    (let s := (keepStart 2 { showing shownFrame with pipes := [(2, { st := .active, rate := 3, lanes := 4 })] }).modPipe 2 fun x =>
       { x with frame := some shownFrame }
     ((tget none (instant s).started 2).map (·.frame)) = some none ∧ (s.pipe 2).st = .active) := by
  refine ⟨⟨rfl, by decide +kernel, by decide +kernel, by decide +kernel, fun g h => ?_, by decide +kernel⟩, ?_, ?_, ?_, ?_⟩
  · cases h
  all_goals decide +kernel

def badRegions : Bytes := sealed 4 (pad 48 ([2, 1] ++ zeros 22 ++ le 2 1 ++ [1, 0] ++ le 4 1))

theorem witness_RegionMismatch :
    (let x : PipeSt := { st := .active, rate := 3, lanes := 4, frame := some { shownFrame with lanes := 7 }, region := badRegions }
     let s : State := { up with pipes := [(2, x)] }
     (failingRegions 2 x { shownFrame with lanes := 7 } 0 (advance (10 ^ 7) s)).isEmpty = false) := by decide +kernel

def layerOf (m : LayerMode) : LayerShown := { layer := 0, mode := m, index := 0, x := 0, y := 0, w := 64, h := 16, addr := 0, tick := 0 }

theorem witness_WitnessVote :
    2 ≤ ([{ lane := 0, verdict := .pass, reason := 0 }, { lane := 1, verdict := .fail, reason := 1 }] : List LanePart).length := by decide +kernel

theorem witness_WitnessVerdicts :
    openTaps 0 up = [] ∧
    (let s := showing { shownFrame with layers := [layerOf .live] }
     let ts := openTaps 0 s
     ts.length = 1 ∧ oldestTick ts s = some 0 ∧ (ts.all fun t => activeOver t.1 t.2.2.1 (advance (10 ^ 7) s)) = true ∧
     (s.pipes.all fun e => !stillToShow 0 0 e.1 e.2 (advance (10 ^ 7) s)) = true ∧ s.cru.st = .inService ∧
     (ts.all fun t => decide (t.2.2.2.mode = .live) && t.2.2.1.lostAt.isNone &&
       !bufferPoisoned t.2.2.2 (markJudged 0 0 (feedLanes (advance (10 ^ 7) s))) && t.2.2.1.underrun.isNone && !t.2.2.1.full) = true) ∧
    (let s := showing { shownFrame with layers := [layerOf .repeated], lostAt := some 0 }
     let ts := openTaps 0 s
     ts.length = 1 ∧ oldestTick ts s = some 0 ∧ (ts.all fun t => t.2.2.1.lostAt.isSome && decide (t.2.2.2.mode = .repeated)) = true) ∧
    (let s := showing { shownFrame with layers := [layerOf .fallback] }
     let ts := openTaps 0 s
     oldestTick ts s = some 0 ∧ (ts.all fun t => decide (t.2.2.2.mode = .fallback) && !t.2.2.2.present) = true) ∧
    ((rendering plainRender).view 0).shownSel = true := by decide +kernel

theorem witness_WitnessOutcomes :
    (let s := (rendering plainRender).modView 0 fun x => { x with failRun := 8 }
     ctxEnabled (s.view 0).ctx = true ∧ (s.view 0).witInvalid = false ∧ reg s P.witInvalidAfter ≤ (s.view 0).failRun ∧
     ((s.modView 0 fun x => { x with freezeDue := true }).view 0).freezeDue = true) ∧
    (let s := (rendering plainRender).modView 0 fun x => { x with witInvalid := true, probRun := 8 }
     reg s P.witRecover ≤ (s.view 0).probRun ∧ viewFrozen 0 s = false ∧ (s.view 0).freezeDue = false ∧
     (instant (advance 5 s)).declared.contains 0 = false ∧
     (instant { s with inst := { declared := [0] } }).declared.contains 0 = true) ∧
    (let s := up.modLane 2 fun x => { x with blame := 1000 }
     (s.lane 2).st = .inService ∧ stopsNow 4 (advance 5 s) = false ∧ reg s P.witBlameTicks ≤ (s.lane 2).blame ∧ canonical {} s.lanes = true) ∧
    up.tick.count.toNat % 1024 = 0 := by decide +kernel

/-! ### Self-test in service -/

def rested : State := { up with st := { step := 10, since := [(0, 10 ^ 6), (1, 10 ^ 6), (2, 10 ^ 6), (3, 10 ^ 6)] } }
def runningTrio : State := {
  rested with
  units := [(0, { st := .run })]
  cores := [(0, { st := .inn }), (1, { st := .inn }), (2, { st := .inn })] }
def slicing (c u : Nat) : State := { up with st := { step := 10, running := [(c, some { unit := u, seg := 0, startAt := 0 })] } }

theorem witness_SelfTestSlices :
    (nextFrom 8 0 (fun e => engineInPool e rested) = some 0 ∧ sliceDue 0 false rested = true ∧ domUp 1 rested = true) ∧
    ((bistOf 0 rested).isNone = true ∧ (bistOf 1 rested).isNone = true ∧ (bistOf 2 runningTrio).isNone = true ∧
      (∀ l < 3, (rested.lane l).testDue = false) ∧ (rested.lane 0).blame < reg rested P.witBlameTicks ∧ nextFrom 3 0 (fun l => decide ((rested.lane l).st = .inService)) = some 0 ∧
      sliceDue 1 false rested = true ∧ otherLaneGone 0 rested = false) ∧
    (let s := rested.modLane 2 fun x => { x with st := .out }
     nextFrom 3 0 (fun l => decide ((s.lane l).st = .inService)) = some 0 ∧ otherLaneGone 0 s = true) ∧
    (nextFrom 24 0 (fun c => coreTestable c runningTrio || blamedNow c runningTrio) = some 0 ∧ blamedNow 0 runningTrio = false ∧
      blamedNow 0 { runningTrio with inst := { blamed := [0] } } = true ∧ sliceDue 2 false runningTrio = true ∧
      (runningTrio.unit 0).inCycle = false ∧ boundaryDue 0 runningTrio = false ∧
      boundaryDue 0 (runningTrio.modUnit 0 fun x => { x with stopReq := true }) = true) ∧
    (sliceDue 3 false rested = true ∧ cruOk rested = true) ∧
    (slicing 0 0).clk.sp = .running ∧ ([0, 1, 2, 3].all fun c => (tget none (slicing c 0).st.running c).isSome && (bistOf 0 (slicing c 0)).isNone) = true ∧
    tget none (instant (advance 5 (slicing 0 7))).jobs 7 = none ∧ (slicing 0 7).st.retry.contains (sliceBlock 0 7) = false ∧
    ((slicing 0 7).modSt fun x => { x with retry := [0x17] }).st.retry.contains (sliceBlock 0 7) = true := by decide +kernel

theorem witness_SelfTestCommands :
    adm hostHdr 0x0902 up (fun s1 => decide (bistUnit 0x17 = some (0, 7) ∧ stopsNow (unitDomain 0 7) s1 = false ∧
      bistStatusOf 0 7 s1 = Status.ok ∧ tget none (instant s1).jobs 7 = none ∧ bistUnit 0x50 = none)) = true ∧
    adm hostHdr 0x0902 { up with clk := { doms := [(1, .stopped)], stoppedAt := [(1, 0)] } } (fun s1 => stopsNow (unitDomain 0 7) s1) = true ∧
    adm hostHdr 0x0903 up (fun _ => true) = true ∧ katAnswer 3 ≠ 0 ∧ katUnit 0x1F = true ∧
    (let s0 := advance 5 up; katUnit 0x1F = true ∧ chanBusy 0x1F s0 = false ∧ katDue 0x1F 3 s0 = true ∧ katUnit 0x23 = false) := by decide +kernel

/-! ### The trios from outside -/

def ctrHead : Bytes := pad 64 (le 2 1 ++ [0, 0] ++ le 4 1) ++ le 4 0x01000000
/-- A container of one word, END, without symbols. -/
def ctr : Bytes := sealed 0xC (ctrHead ++ zeros 9216)

theorem ctr_eq (v : Nat) : splice (ctrHead ++ zeros 9216) 0xC (le 4 v) = splice ctrHead 0xC (le 4 v) ++ zeros 9216 :=
  splice_append _ (by rw [le_length]; decide)

theorem symbolsOk_zero : ∀ l : List Nat, (∀ x ∈ l, x = 0) → symbolsOk l = true
  | [], _ => rfl
  | a :: r, h => by simp [symbolsOk, h a (by simp), symbolsOk_zero r fun x hx => h x (by simp [hx])]

theorem zeros_length (n : Nat) : (zeros n).length = n := List.length_replicate

theorem ctr_raw : (ctrHead ++ zeros 9216).length = 9284 := by
  rw [List.length_append, zeros_length, show ctrHead.length = 68 from by decide]

theorem ctr_length : ctr.length = 9284 := by
  unfold ctr sealed
  rw [splice_length (by rw [le_length, ctr_raw]; omega), ctr_raw]

theorem ctr_fields : containerFieldsOk ctr = true := by
  have hl := ctr_length
  have hc : containerLen ctr = 1 := by decide +kernel
  have hz : ∀ k o, 68 ≤ o → leAt k ctr o = 0 := by
    intro k o ho
    unfold ctr sealed
    rw [ctr_eq]
    apply leAt_tail
    rw [splice_length (by rw [le_length]; decide)]
    simpa [ctrHead, le_length, pad_length] using ho
  have hs : ∀ n (f : Nat → Nat), (∀ i, f i = 0) → symbolsOk ((List.range n).map f) = true := fun n f hf =>
    symbolsOk_zero _ fun x hx => by obtain ⟨i, _, rfl⟩ := List.mem_map.1 hx; exact hf i
  unfold containerFieldsOk
  rw [hs 256 (symTimer ctr) fun i => hz 2 _ (by rw [hc]; omega), hs 256 (symCounter ctr) fun i => hz 2 _ (by rw [hc]; omega),
    hs 4096 (symEdge ctr) fun i => hz 2 _ (by rw [hc]; omega), hl, hc]
  decide +kernel

/-- The container passes its checks for trio 0 of any module whose trio 0 is a voted one. -/
theorem ctr_ok {s : State} (h : (s.trio 0).split = false) : containerCheck 0 ctr s = none := by
  have he : crcEmbeddedOk ctr 0xC = true := sealed_ok (by rw [ctr_raw]; omega)
  have hb : firstBad (containerLen ctr) (containerWords ctr) 0 [] = none := by decide +kernel
  have h2 : u8 ctr 2 = 0 := by decide +kernel
  have h3 : u8 ctr 3 = 0 := by decide +kernel
  unfold containerCheck
  rw [if_neg (by rw [he]; decide),
    if_neg (by rw [ctr_fields]; decide), if_neg (by simp [h2, h3, unitIx, h]), hb]

def trioAs (x : RunUnit) : State := { runningTrio with units := [(0, x)] }

theorem witness_TrioProgramCommands :
    (containerCheck 0 ctr up = none ∧ (up.unit 0).st = .empty ∧ held250 0 up = false ∧ adm hostHdr 0x0501 up (fun _ => true) = true) ∧
    (unitIx 7 0 up = some 28 ∧ unitIx 0 0 runningTrio = some 0) ∧
    adm hostHdr 0x0502 (trioAs { st := .stop }) (fun s1 => decide ((s1.unit 0).st = .stop)) = true ∧
    adm hostHdr 0x0503 { trioAs { st := .stop, code := [0x01000000] } with mram := { confirmed := some 0 }, chkState := 1 }
      (fun s1 => decide ((s1.unit 0).st = .stop) && mayStart 0 s1) = true ∧
    adm hostHdr 0x0505 { trioAs { st := .halted, code := [0x01000000] } with mram := { confirmed := some 0 }, chkState := 1 }
      (fun s1 => decide ((s1.unit 0).st = .halted) && mayStart 0 s1) = true ∧
    ([true, false].all fun b => adm hostHdr 0x0504 (trioAs { st := .run, inCycle := b })
      fun s1 => let x := undoCycle 0 (settleSuspect 0 s1); decide ((x.unit 0).st = .run ∧ (x.unit 0).inCycle = b ∧ (x.unit 0).dbgWrites = [])) = true :=
  ⟨⟨ctr_ok rfl, by decide +kernel⟩, by decide +kernel⟩

theorem witness_Exchange :
    (∃ bs, 8 ≤ bs.length ∧ beAt 4 bs 4 = 0 ∧ containerCheck 0 (sub bs 8 (bs.length - 8)) runningTrio = none ∧
      w32 (crcStore (chkBytes (fun u => if u = 0 then sub bs 8 (bs.length - 8) else obj runningTrio kProgram u)
        (obj runningTrio kOwner 0) runningTrio)) = w32 (beAt 4 bs 0)) ∧
    adm hostHdr 0x0506 runningTrio (fun s1 => decide ((s1.unit 0).st = .run)) = true := by
  refine ⟨?_, by decide +kernel⟩
  let v := crcStore (chkBytes (fun u => if u = 0 then ctr else obj runningTrio kProgram u) (obj runningTrio kOwner 0) runningTrio)
  have hs : sub (be 4 v ++ (be 4 0 ++ ctr)) 8 ((be 4 v ++ (be 4 0 ++ ctr)).length - 8) = ctr := by
    unfold sub
    rw [← List.append_assoc, List.drop_left' (by simp [be_length]), List.take_of_length_le (by simp [be_length]; omega)]
  have hd : beAt 4 (be 4 v ++ (be 4 0 ++ ctr)) 4 = 0 := by
    have h0 : sub (be 4 v ++ (be 4 0 ++ ctr)) 4 4 = be 4 0 := by
      unfold sub
      rw [List.drop_left' (be_length 4 v), List.take_left' (be_length 4 0)]
    unfold beAt
    rw [h0]; rfl
  refine ⟨be 4 v ++ (be 4 0 ++ ctr), by simp [be_length]; omega, hd, ?_, ?_⟩
  · rw [hs]; exact ctr_ok rfl
  · rw [hs, beAt_be, show 256 ^ 4 = 2 ^ 32 from rfl, Nat.mod_eq_of_lt (crcStore_lt _)]

def ownerObj : Bytes := sealed 4 (le 2 1 ++ zeros 2590)

theorem owner_raw : (le 2 1 ++ zeros 2590).length = 2592 := by rw [List.length_append, zeros_length, le_length]

theorem witness_OwnerMap : crcEmbeddedOk ownerObj 4 = true ∧ ownerObj.length = 2592 :=
  ⟨sealed_ok (by rw [owner_raw]; omega), by unfold ownerObj sealed; rw [splice_length (by rw [le_length, owner_raw]; omega), owner_raw]⟩

theorem witness_TrioConfiguration :
    adm hostHdr 0x0507 up (fun s1 => (s1.units.all fun p => !active s1 p.1)) = true ∧
    adm hostHdr 0x0508 up (fun s1 => decide (s1.chk = 0 ∧ (1 : Word) ≠ s1.chk)) = true ∧
    adm hostHdr 0x0509 up (fun s1 => decide (unitIx 7 0 s1 = some 28)) = true := by decide +kernel

theorem witness_TrioDebug :
    adm hostHdr 0x050A runningTrio (fun s1 =>
      let s2 := settleSuspect 0 s1
      decide ((s2.unit 0).st = .run ∧ (s2.unit 0).inCycle = false ∧ wdtOver 0 s2 = false ∧ (s2.unit 0).dbgWrites = [] ∧
        ((enterDebug 0 s2).unit 0).st = .debug ∧ unitIx 0 0 s1 = some 0)) = true ∧
    adm hostHdr 0x050A (setReg (trioAs { st := .run, inCycle := true, wdtOn := true }) (P.trioWdt 0) 0) (fun s1 =>
      let s2 := settleSuspect 0 s1
      decide ((s2.unit 0).st = .run ∧ ((enterDebug 0 s2).unit 0).st ≠ .debug)) = true ∧
    adm hostHdr 0x050B (trioAs { st := .debug }) (fun s1 => decide ((s1.unit 0).st = .debug)) = true ∧
    adm hostHdr 0x050C (trioAs { st := .debug, code := [0x01000000] }) (fun s1 => decide (0 < (s1.unit 0).code.length)) = true ∧
    adm hostHdr 0x050D (trioAs { st := .debug }) (fun s1 => decide ((s1.unit 0).st = .debug) && !confirmed s1) = true ∧
    adm hostHdr 0x050D { trioAs { st := .debug } with mram := { confirmed := some 0 } } (fun s1 => decide ((s1.unit 0).st = .debug) && confirmed s1) = true ∧
    adm hostHdr 0x050E runningTrio (fun _ => true) = true ∧ 31744 + 1024 ≤ 32768 ∧
    adm hostHdr 0x050F (trioAs { st := .run }) (fun s1 => decide ((s1.unit 0).st = .run)) = true ∧
    adm hostHdr 0x050F (trioAs { st := .stop }) (fun s1 => decide ((s1.unit 0).st ≠ .run)) = true ∧
    adm hostHdr 0x0510 (up.modCru fun c => { c with snapTick := some 5 })
      (fun s1 => decide (s1.cru.snapTick = some 5) &&
        !(cruRead (touch 0x60 6 (snapshotBase 7 5 + 1024) 1024 s1) (snapshotBase 7 5 + 1024) 1024).2) = true := by decide +kernel

theorem witness_TrioCycleStart :
    (unitIx 0 0 runningTrio = some 0 ∧ alive runningTrio 0 = true ∧ (runningTrio.unit 0).inCycle = false ∧
      wdtOver 0 (advance 5 runningTrio) = false ∧ (runningTrio.unit 0).wdtOn = false ∧ (inCores runningTrio 0).length = 3 ∧
      (inCores runningTrio 0).all (fun i => (inCores runningTrio 0).all fun j =>
        decide (sampleOf (advance 5 runningTrio).now (runningTrio.core (coreIx 0 i)) i [] =
          sampleOf (advance 5 runningTrio).now (runningTrio.core (coreIx 0 j)) j [])) = true ∧
      canonical {} runningTrio.cores = true ∧ canonical {} runningTrio.trios = true) ∧
    wdtOver 0 (advance (10 ^ 9) (trioAs { st := .run, inCycle := true, wdtOn := true })) = true := by decide +kernel

theorem witness_TrioAgreementEvents :
    (runningTrio.unit (4 * 0)).st = .run ∧
    suspectDue { runningTrio with cores := [(0, { st := .inn, blames := [5, 4, 3] })] } 0 = true ∧
    ([0, 1, 2].all fun m => decide (testMinority m = m)) = true ∧
    (let s := trioAs { st := .run, inCycle := true, cycle := 10001 }
     (s.trio 0).split = false ∧ alive s 0 = true ∧ cycleNo (s.unit 0) % 10000 = 0 ∧ (s.trio 0).testedAt ≠ some (cycleNo (s.unit 0))) ∧
    (let s := trioAs { st := .run, code := [0x01000000], kStage := some (0, zeros 1152) }
     (s.unit 0).code ≠ [] ∧ (s.unit 0).kAt + ms (10 * reg s (P.trioKcommit 0)) ≤ (advance (10 ^ 11) s).now ∧
     (s.unit 0).kStage.isSome = true ∧ canonical {} s.units = true) := by decide +kernel

/-! ### Field I/O -/

/-- A record with these bytes in place of the default one's, sealed. -/
def recordWith (puts : List (Nat × Bytes)) : Bytes := sealed 4 (puts.foldl (fun r p => splice r p.1 p.2) defaultRecord)

/-- Q0 with dark, bright and retry; Q1 with feedback input 4; pair 0 in equivalence, DISC 10 ms; pair 14 an encoder; input 2 on TP1. -/
def rec1 : Bytes := recordWith [(0xD0, [0x1C]), (0xD8, [0, 0x84, 10, 0]), (0x90, [1, 0, 10, 0]), (0xC8, [3, 0, 0, 0]), (0x80, [0]), (0x84, [0]),
  (0x19, [1])]

def fio (x : FioSt) : State := { up with fio := x }
def die : FioSt := { mode := 2, record := rec1, l1mv := 24000, l2mv := 24000, hbExpired := false, quench := false, tested := true }
/-- A voted safety output. -/
def marked : Bytes := [0xC0] ++ zeros 15

set_option maxRecDepth 100000 in
theorem test_records : defaultRecord.length = 336 ∧ crcEmbeddedOk defaultRecord 4 = true ∧ fioFieldsOk defaultRecord = true ∧
    rec1.length = 336 ∧ crcEmbeddedOk rec1 4 = true ∧ fioFieldsOk rec1 = true := by decide +kernel

theorem witness_FieldLink : (let s := fio die
    (dieUp s = true ∧ socUp s = true ∧ canonical {} s.cores = true) ∧ (40000 : Nat) < 40001 ∧
    s.iol.lost = false ∧ s.iol.frameAt + us 200 ≤ (advance (us 200) s).now ∧
    (instant (advance (us 200) s)).tracks = none ∧ (instant (advance (us 200) s)).commits = []) := by decide +kernel

theorem witness_FieldInputs :
    (let s := fio { die with ins := [(0, { evtDue := true, merged := 2 })] }
     (s.fin 0).evtDue = true ∧ s.clk.sp = .running ∧ (s.fin 0).evtAt = none) ∧
    discDue 0 (advance (ms 10) (fio { die with pairs := [(0, { since := some 0 })] })) = true ∧
    (let s := fio { die with ins := [(2, { filt := true })] }
     dieUp s = true ∧ s.fio.l1Low = false ∧ canonical {} s.fio.ins = true ∧ inTp s.fio.record 2 = 0 + 1 ∧ windowDue 0 (advance 5 s) = true ∧
     s.inst.at' < (advance 5 s).now) ∧
    (let w : TestWin := { n := 0, start := 0, pinOk := true, before := 0, mid := 4, after := 0 }
     let s : State := { fio { die with ins := [(2, { filt := true })], window := some w } with now := us 350 }
     s.fio.window = some w ∧ w.midDone = false ∧ w.start + us 350 ≤ s.now ∧ canonical {} s.fio.ins = true ∧ inTp s.fio.record 2 = w.n + 1 ∧
     (s.fin 2).filt = true ∧ w.mid.getLsbD 2 = true) ∧
    (let s := fio { die with encs := [(0, { a := true })] }
     pairMode s.fio.record (14 + 0) = 3 ∧ s.fio.l1Low = false ∧ canonical {} s.fio.encs = true ∧ (s.fenc 0).a = true ∧
     (s.fenc 0).a ≠ false ∧ (s.fenc 0).b ≠ true) := by decide +kernel

theorem witness_FieldOutputs :
    (let s := fio { die with outs := [(0, { drive := true })] }
     (s.fout 0).drive = true ∧ (s.fout 0).test = none ∧ qSafety s 0 = false ∧ bitAt (qCfg s.fio.record 0) 4 = true ∧
     bitAt (qCfg s.fio.record 0) 2 = true ∧ (s.fout 0).switchedAt + ms 1 ≤ (advance (ms 1) s).now ∧ heartbeatDue (advance (ms 1) s) = false ∧
     testDue 0 (advance (ms 1) s) = true) ∧
    (let s := fio { die with outs := [(0, { drive := true })], owners := marked }
     (s.fout 0).drive = true ∧ (s.fout 0).test ≠ some true ∧ qSafety s 0 = true) ∧
    (let s := fio { die with outs := [(0, { retryAt := some (ms 1000) })] }
     (s.fout 0).retryAt = some (ms 1000) ∧ ms 1000 ≤ (advance (ms 1000) s).now) ∧
    (let s := fio { die with outs := [(0, { rb := true })] }
     (s.fout 0).drive = false ∧ (s.fout 0).rb = true ∧ (s.fout 0).test = none ∧ (s.fout 0).latched.contains 44 = false ∧
     (s.fout 0).switchedAt + qRbTime s.fio.record 0 ≤ (advance (ms 5) s).now) ∧
    (let s := fio { die with outs := [(0, { classifyAt := some (ms 2) })] }
     (s.fout 0).classifyAt = some (ms 2) ∧ ms 2 ≤ (advance (ms 2) s).now) ∧
    (let s := fio die
     (s.fout 0).drive = false ∧ (s.fout 0).test = none ∧ bitAt (qCfg s.fio.record 0) 3 = true ∧ outsReleased s = true ∧
     heartbeatDue (advance 5 s) = false ∧ testDue 0 (advance 5 s) = true ∧ (s.fout 0).offAt ≠ some (advance 5 s).now ∧
     (s.fgrp 0).closed = true ∧ (3500 : Nat) < 3501 ∧ (2200 : Nat) < 2201) ∧
    (let s := fio { die with outs := [(0, { test := some true }), (2, { test := some false })] }
     (s.fout 0).test = some true ∧ (s.fout 2).test = some false ∧ heartbeatDue (advance (ms 1) s) = false ∧
     (s.fout 0).testAt + qDark s.fio.record 0 ≤ (advance (ms 1) s).now ∧ (s.fout 2).testAt + qDark s.fio.record 2 ≤ (advance (ms 1) s).now) ∧
    feedbackDue 1 (advance (ms 10) (fio { die with outs := [(1, { fbWait := some (true, 0) })] })) = true := by
  decide +kernel

/-- At 24 V nothing forces output 0 OFF, whatever the driver minimum is. -/
theorem witness_BrightTest : qClear (fio die) 0 = true := by
  have h : driverOk (fio die) = true := by
    have : Config.driverMin % 1001 < 1001 := Nat.mod_lt _ (by decide)
    exact decide_eq_true (show 9500 + Config.driverMin % 1001 ≤ 24000 by omega)
  unfold qClear
  rw [h]
  decide +kernel

theorem witness_FieldSafety :
    canonical {} (fio die).fio.outs = true ∧
    ((fio die).fio.l1Low = false ∧ (fio die).fio.l2Low = false ∧ (16799 : Nat) < l1Min rec1 ∧ (16799 : Nat) < l2Min rec1 ∧ borneOut false (advance 5 (fio die)) = true) ∧
    ((fio { die with l1Low := true, l2Low := true }).fio.l1Low = true ∧ l1Min rec1 + 500 < 17301 ∧ l2Min rec1 + 500 < 17301 ∧
      (fio die).fio.l1BadAt + ms 10 ≤ (advance (ms 10) (fio die)).now ∧ (fio die).fio.l2BadAt + ms 10 ≤ (advance (ms 10) (fio die)).now) ∧
    socUp up = true ∧
    (let s : State := { fio { die with hbSeq := some 255, hbRun := 3, hbExpired := true } with iol := { hbSent := some (0, false) } }
     s.iol.hbSent = some (0, false) ∧
     s.fio.shut = false ∧ s.fio.record ≠ [] ∧ heartbeatDue (advance 0 s) = false ∧ (∀ p, s.fio.hbSeq = some p → (0 : Byte) = p + 1)) ∧
    (heartbeatDue (advance (ms 3) (fio die)) = true ∧ outsReleased (fio die) = true) ∧
    ({ up with flt := { up.flt with quench := true } } : State).flt.quench = true ∧ up.flt.quench = false := by
  refine ⟨by decide +kernel, by decide +kernel, by decide +kernel, by decide +kernel, ⟨by decide +kernel, by decide +kernel,
    by decide +kernel, by decide +kernel, ?_⟩, by decide +kernel, by decide +kernel, by decide +kernel⟩
  intro p h; cases h; decide

set_option maxRecDepth 100000 in
theorem witness_FieldDie :
    (adm hostHdr 0x0601 up (fun s1 => !qOwnersBusy s1) = true ∧ rec1.length = 336 ∧ crcEmbeddedOk rec1 4 = true ∧ fioFieldsOk rec1 = true) ∧
    adm hostHdr 0x0602 (fio die) (fun s1 => decide (s1.fio.record ≠ [])) = true ∧
    adm hostHdr 0x0603 (fio { die with outs := [(0, { latched := [43] }), (1, { latched := [44], rb := true })], groups := [(0, { closed := false })] })
      (fun s1 => canonical {} s1.fio.outs && canonical {} s1.fio.groups && decide ((s1.fout 0).latched = [43] ∧ (s1.fout 1).latched = [44] ∧
        (s1.fout 1).rb = true ∧ (s1.fout (4 * 1 + 0)).rb = false)) = true ∧
    (fio { die with recordNext := some (rec1, false) }).fio.recordNext = some (rec1, false) ∧
    (let s := fio { die with mode := 1, tested := false }
     s.fio.mode = 1 ∧ s.fio.testFailed = false ∧ s.fio.tested = false) ∧
    ((fio die).fio.shut = false ∧ canonical {} (fio die).fio.outs = true ∧ (155 : Int) ≤ 165 ∧ (139 : Int) < 140 ∧ (165 : Int) < 166) := by
  decide +kernel

/-! ### Erg Link -/

def slotRow (start ty owner len : Nat) : Bytes := le 4 start ++ [b8 ty, b8 owner] ++ le 2 len

/-- A ring schedule of six slots: sync, DATA of devices 1 and 2, a claim slot, a SPARE slot that names device 1, SERVICE of the
lead. -/
def sched : Bytes := sealed 4 (le 2 1 ++ le 2 6 ++ zeros 4 ++ le 4 60000 ++ [4, 1, 255] ++ zeros 17 ++
  slotRow 0 0 0 64 ++ slotRow 2000 1 1 8 ++ slotRow 4000 1 2 8 ++ slotRow 6000 3 255 16 ++ slotRow 8000 5 1 8 ++ slotRow 10000 4 0 64)

def ergUp (e : ErgSt) : State := { up with erg := { e with device := 1, sched := sched, portA := { e.portA with up := true } } }

/-- A frame with the FCS of its slot and cycle. -/
def frameOf (ty sender slot cycle : Nat) (p : Bytes) : ErgFrame :=
  let f : ErgFrame := { ftype := b8 ty, sender := b8 sender, slot := BitVec.ofNat 16 slot, cycle := w32 cycle, hops := 0, payload := p, fcs := 0 }
  { f with fcs := ergFcs slot cycle f }

theorem test_schedule : schedOk sched = true ∧ crcEmbeddedOk sched 4 = true ∧ 32 ≤ sched.length ∧
    (sched.length ≤ 1388) := by decide +kernel

/-- A remote-signal map without entries. -/
def emptyMap : Bytes := sealed 4 (le 2 1 ++ zeros 16478)

theorem map_raw : (le 2 1 ++ zeros 16478).length = 16480 := by rw [List.length_append, zeros_length, le_length]

theorem map_length : emptyMap.length = 16480 := by
  unfold emptyMap sealed; rw [splice_length (by rw [le_length, map_raw]; omega), map_raw]

theorem map_zero (k o : Nat) (h : 8 ≤ o) : leAt k emptyMap o = 0 := by
  unfold emptyMap sealed
  rw [show zeros 16478 = zeros 6 ++ zeros 16472 from by unfold zeros; rw [List.replicate_append_replicate],
    ← List.append_assoc, splice_append _ (by rw [le_length]; decide)]
  apply leAt_tail
  rw [splice_length (by rw [le_length]; decide)]
  exact h

theorem map_runs : txRuns emptyMap = [] := by
  unfold txRuns
  rw [show mapTxY emptyMap = fun _ => 0 from funext fun y => map_zero 4 _ (by omega),
    show mapTxAngle emptyMap = fun _ => 0 from funext fun a => map_zero 4 _ (by omega)]
  decide +kernel

theorem map_fits (sc : Bytes) (dev : Nat) : mapFits sc dev emptyMap = true := by
  unfold mapFits
  rw [map_runs]
  have hy : ∀ y, mapTxY emptyMap y = 0 := fun y => map_zero 4 _ (by omega)
  have hx : ∀ x, mapRxX emptyMap x = 0 := fun x => map_zero 4 _ (by omega)
  have ha : ∀ a, mapTxAngle emptyMap a = 0 := fun a => map_zero 4 _ (by omega)
  have hn : ∀ n, mapRxAngle emptyMap n = 0 := fun n => map_zero 4 _ (by omega)
  simp only [hy, hx, ha, hn, txFits, rxFits, show entUsed 0 = false from rfl, Bool.not_false, Bool.true_or, apart]
  simp

theorem map_fields : mapFieldsOk emptyMap = true := by
  have hy : ∀ y, mapTxY emptyMap y = 0 := fun y => map_zero 4 _ (by omega)
  have hx : ∀ x, mapRxX emptyMap x = 0 := fun x => map_zero 4 _ (by omega)
  have ha : ∀ a, mapTxAngle emptyMap a = 0 := fun a => map_zero 4 _ (by omega)
  have hn : ∀ n, mapRxAngle emptyMap n = 0 := fun n => map_zero 4 _ (by omega)
  have h8 : allZero (sub emptyMap 8 8) = true := by decide +kernel
  have hs : u16 emptyMap 0 = 1 ∧ u16 emptyMap 2 = 0 := by decide +kernel
  unfold mapFieldsOk
  simp only [hy, hx, ha, hn, map_length, h8, hs]
  decide +kernel

theorem witness_ErgMap : emptyMap.length = 16480 ∧ crcEmbeddedOk emptyMap 4 = true ∧ mapFieldsOk emptyMap = true ∧
    mapFits (judgeSched up) (deviceNo up) emptyMap = true ∧ votedActive up = false ∧ adm hostHdr 0x0702 up (fun _ => true) = true :=
  ⟨map_length, sealed_ok (by rw [map_raw]; omega), map_fields, map_fits _ _, by decide +kernel, by decide +kernel⟩

theorem witness_ErgCommands :
    (adm hostHdr 0x0701 up (fun s1 => whole 0x0701 (one 0 sched) s1 fun i bs s2 => decide (i = 0 ∧ bs = sched ∧ s2.erg.st ≠ .running ∧ s2.erg.st ≠ .leading)) = true) ∧
    adm hostHdr 0x0703 (ergUp { st := .listen }) (fun s1 => decide (s1.erg.st = .listen)) = true ∧
    adm hostHdr 0x0703 (ergUp { st := .running }) (fun s1 => decide (s1.erg.st = .running)) = true ∧
    adm hostHdr 0x0704 (ergUp { st := .running }) (fun s1 => decide (s1.erg.st = .running)) = true := by decide +kernel

def rxUp : State := ergUp { st := .running, cycle := 7, grants := [] }
def leadUp : State :=
  let s := ergUp { st := .leading, cycle := 7, role := 1 }
  { s with erg := { s.erg with device := 0 } }

/-- The expected stamp of a frame from a neighbour. -/
def stampOf (f : ErgFrame) : Int := 10 * slotStart sched f.slot.toNat + 1280

/-- The state in which a frame is judged, and the slot it is judged by. -/
def atFrame (f : ErgFrame) (s : State) : State := useChannel 0x5A 2 2 (forwardFrame false (stampOf f) f (advance 0 s))
def judged (f : ErgFrame) (s : State) : Bool := frameValid (expectedSlot (stampOf f) f.hops.toNat (atFrame f s)) f (atFrame f s)

set_option maxRecDepth 100000 in
theorem witness_ErgFrames :
    let d := frameOf 1 2 2 7 (zeros 8)
    let n := frameOf 2 2 2 7 []
    let c := frameOf 3 1 3 7 (pad 16 (zeros 8 ++ [1]))
    let v := frameOf 4 0 5 7 (zeros 64)
    portUsable (ergPort false rxUp) = true ∧ rxUp.erg.st ≠ .off ∧ examines (atFrame d rxUp) = true ∧ rxUp.erg.heldService = none ∧
    ([frameOf 1 2 2 8 (zeros 8), { n with fcs := 0 }, { c with fcs := 0 }, { v with rsvd := 1 }].all fun f => !judged f rxUp) = true ∧
    (judged d rxUp && judged n rxUp && judged v rxUp && judged c leadUp) = true ∧
    ([(d, rxUp), (n, rxUp), (v, rxUp), (c, leadUp)].all fun (f, s) =>
      let k := f.slot.toNat
      let s2 := hearPort false (atFrame f s)
      let s3 := notePath false f s2
      expectedSlot (stampOf f) f.hops.toNat (atFrame f s) = k &&
        inErgWindow s2.erg.cycleNs (stampOf f) (10 * slotStart s2.erg.sched k + (f.hops.toNat + 1) * 1280) s2 &&
        !s2.erg.missed.contains k && decide (stampOf f + frameNs f < missNs s3.erg.cycleNs k s3 ∧
          tget none s2.erg.accepted k = none ∧ f.sender.toNat ≠ s.erg.device)) = true ∧
    (let s2 := hearPort false (atFrame d rxUp)
     inErgWindow s2.erg.cycleNs (40000 + 1280 + 500) (10 * slotStart s2.erg.sched 2 + 1280) s2 = false ∧
     inErgWindow s2.erg.cycleNs (40000 + 1280 + 499) (10 * slotStart s2.erg.sched 2 + 1280) s2 = true ∧
     expectedSlot (40000 + 1280 + 500) 0 (atFrame d rxUp) = 2) ∧
    (let s := { rxUp with erg := { rxUp.erg with accepted := tset none [] 2 (some d.fcs) } }
     tget none (hearPort false (atFrame d s)).erg.accepted 2 = some d.fcs) := by decide +kernel

/-- The payload of a sync of the schedule above from the module of a serial number. -/
def syncOf (serial : Nat) : Bytes := be 8 serial ++ be 4 60000 ++ be 4 (u32 sched 4) ++ zeros 4 ++ grantBytes [] ++ zeros 12

set_option maxRecDepth 100000 in
theorem witness_ErgSync :
    let f := frameOf 0 0 0 9 (syncOf 5)
    let at0 (s : State) := atFrame f s
    (syncValid { f with fcs := f.fcs + 1 } (at0 rxUp) = false ∧ f.ftype = 0 ∧ syncValid f (at0 rxUp) = true) ∧
    (ergUp { st := .silent }).erg.st = .silent ∧
    (leadUp.erg.st = .leading ∧ leadUp.erg.role = 1 ∧ syncSerial f.payload ≠ leadUp.upd.serial ∧ syncTakeover f.payload = false ∧
      portUsable (ergPort false leadUp) = true ∧ syncValid f (at0 leadUp) = true) ∧
    (let s := ergUp { st := .listen, role := 2 }
     s.erg.st = .listen ∧ s.erg.role = 2 ∧ f.sender.toNat ≠ s.erg.device ∧ s.erg.mapBad = false ∧ syncAgrees f.payload s = true ∧
      f.cycle ≠ s.erg.cycle ∧ syncValid f (at0 s) = true ∧ consistent f 1280 ((hearPort false (at0 s)).modErg fun e => { e with mismatch := false }) = true) := by
  decide +kernel

/-- A map whose X bit 0 comes in slot 2, with two missed updates. -/
def staleUp : State := ergUp { st := .running, map := zeros 0x2010 ++ le 4 (2 ^ 31 + 2), xMiss := [(0, 2)] }

theorem witness_XStale :
    0 ∈ slotX 2 staleUp ∧ staleLimit (fld (mapRxX staleUp.erg.map 0) 26 23) ≤ tget 0 staleUp.erg.xMiss 0 ∧ (0 : Nat) < 2048 := by
  have h : mapRxX staleUp.erg.map 0 = 2 ^ 31 + 2 := by
    unfold mapRxX u32 leAt sub
    rw [show staleUp.erg.map = zeros 0x2010 ++ le 4 (2 ^ 31 + 2) from rfl, show 0x2010 + 4 * 0 = 0x2010 from rfl,
      List.drop_left' (zeros_length 0x2010)]; decide
  have hn : staleUp.erg.map.isEmpty = false := rfl
  refine ⟨?_, by rw [h]; decide, by decide⟩
  unfold slotX entriesOf
  rw [hn]
  exact List.mem_filter.2 ⟨List.mem_range.2 (by decide), by rw [h]; decide⟩

theorem witness_ErgTiming :
    (transmits rxUp = true ∧ ownsSlot 1 rxUp = true ∧ slotType rxUp.erg.sched 1 = slotData ∧ rxUp.erg.onWire.contains 1 = false ∧
      tget none rxUp.erg.sentFcs 1 = none ∧ tget none rxUp.erg.capture 1 = none ∧
      atEdgeOf (startNs 1 (advance 1500 rxUp) - 5000) (advance 1500 rxUp) = true ∧
      (let s0 := advance 2000 rxUp
       atEdgeOf (startNs 1 s0) s0 = true ∧ -250 < guardOffset 1 (-249) s0 ∧ guardOffset 1 249 s0 < 250 ∧ guardOffset 1 (-250) s0 ≤ -250 ∧
       250 ≤ guardOffset 1 250 s0)) ∧
    (let s0 := advance 10000 rxUp; guardStart 1 s0 + slotNs 1 s0 + 250 ≤ 10 * (s0.now : Int)) ∧
    atEdgeOf (startNs 3 (advance 6000 rxUp)) (advance 6000 rxUp) = true ∧
    (slotsOf rxUp.erg.sched slotClaim = [3] ∧ rxUp.erg.claimWait = 0 ∧ rxUp.erg.claimOut = false ∧ tget none rxUp.erg.sentFcs 3 = none ∧
      ((spareOf rxUp.erg.sched rxUp.erg.device).any fun m => decide (grantedTo rxUp.erg.grants m ≠ some rxUp.erg.device)) = true) ∧
    (rxUp.erg.st ≠ .off ∧ 2 < schedSlots rxUp.erg.sched ∧ tget none rxUp.erg.accepted 2 = none ∧ 2 ∉ rxUp.erg.missed ∧
      ownsSlot 2 rxUp = false ∧ rxUp.erg.heldService = none ∧ missNs rxUp.erg.cycleNs 2 rxUp ≤ 10 * ((advance 10000 rxUp).now : Int)) ∧
    (let s := ergUp { st := .syncing, syncRun := 3 }
     s.erg.st = .syncing ∧ s.erg.joinWait = false ∧ s.erg.cycleNs + cyclePeriod s ≤ 10 * ((advance (10 ^ 7) s).now : Int) + 10) ∧
    (let s := ergUp { st := .running, syncMiss := 3, role := 2 }
     s.erg.st = .running ∧ 3 ≤ s.erg.syncMiss ∧ s.erg.role = 2) ∧
    (let s := ergUp { st := .running, cutRun := 2, cutNow := true }
     transmits s = true ∧ 3 ≤ s.erg.cutRun + b2n s.erg.cutNow) := by decide +kernel

theorem witness_ErgUpkeep :
    (let s := ergUp { st := .silent, silentCause := 1, otherSerial := 5 }
     s.erg.st = .silent ∧ s.erg.silentCause = 1 ∧ s.erg.silentLeft = 0 ∧ s.upd.serial.toNat < s.erg.otherSerial.toNat) ∧
    (let s := ergUp { st := .leading, grantIdle := [(4, 256)] }
     s.erg.st = .leading ∧ 256 ≤ tget 0 s.erg.grantIdle 4 ∧ tget none s.erg.accepted 4 = none) ∧
    (let s := ergUp { st := .running, portA := { idle := 16 } }
     s.erg.st ≠ .off ∧ schedRing s.erg.sched = true ∧ 16 ≤ (ergPort false s).idle ∧ s.st.inReset = false ∧ echoDue (ergPort false s) = true ∧
      (instant (advance 5 s)).ergRx = none) ∧
    (let s := ergUp { st := .listen, joinWait := true }
     s.erg.joinWait = true ∧ s.erg.joinAt + ms (10 * reg s P.ergJoinWait) ≤ (advance (10 ^ 11) s).now) := by decide +kernel

/-! ### Authentication, update and life cycle -/

def updUp (u : UpdSt) : State := { up with upd := u }
/-- The host session holds a NONCE of zeros, issued at time 0. -/
def nonced (u : UpdSt) (s : State) : State := modSvc { s with upd := u } 1 fun v => { v with nonce := some (zeros 16, 0) }

/-- FIPS 180, and an ECDSA signature of RFC 6979 A.2.5 over the message "sample". -/
theorem test_sha256 : (sha256 [0x61, 0x62, 0x63]).take 8 = [0xBA, 0x78, 0x16, 0xBF, 0x8F, 0x01, 0xCF, 0xEA] := by decide +kernel

def ecKey : Bytes := be 32 0x60FED4BA255A9D31C961EB74C6356D68C049B8923B61FA6CE669622E60F29FB6 ++
  be 32 0x7903FE1008B8BC99A41AE9E95628BC64F2F1B20C2D7E9F5177A3C294D4462299

theorem test_ecdsa : ecdsaOk ecKey (be 32 0xEFD48B2AACB6A8FD1140DD9CD45E81D69D2C877B56AAF991C34D0EA84EAF3716 ++
    be 32 0xF7CB1C942D657C41D436C7A1B6E29F65F3E900DBB9AFF4064DC4AB2F843ACDA8) (sha256 [0x73, 0x61, 0x6D, 0x70, 0x6C, 0x65]) = true := by
  decide +kernel

/-- A signature over serial number 0, the NONCE of zeros and LC_RETURN or LC_SCRAP. -/
def sigReturn : Bytes := be 32 0xefd48b2aacb6a8fd1140dd9cd45e81d69d2c877b56aaf991c34d0ea84eaf3716 ++ be 32 0x9200f0e54fa6632c460157d608fe8d4d93a0821c56a79ed4ce5219dd52ad0fac
def sigScrap : Bytes := be 32 0x85ff1ef0a204e4146c7d83e5174af0c2aa3c00501d80f4103e23c5303bf87a5a ++ be 32 0x9fe77ba6296679910fccefcd0cbe06e69266187168bb2fec39fd0cfb956f720a

theorem witness_Authentication :
    (adm svcHdr 0x0E01 up (fun s1 => !lockedOut (linkIx .service) s1) = true ∧
      adm svcHdr 0x0E01 (updUp { lockout := [(0, some 0)] }) (fun s1 => lockedOut (linkIx .service) s1) = true) ∧
    adm svcHdr 0x0E02 (nonced {} up) (fun s1 =>
      match validNonce (sessionIx svcHdr s1) s1 with
      | some n => decide ((hmacSha256 (pad 32 s1.upd.key) (n ++ serialBytes s1 ++ [b8 (sessionNo (sessionIx svcHdr s1))])).length = 32)
      | none => false) = true ∧
    adm svcHdr 0x0E02 (updUp { failRun := [(0, 2)] }) (fun s1 =>
      decide (validNonce (sessionIx svcHdr s1) s1 = none ∧ tget 0 s1.upd.failRun 0 = 2)) = true ∧
    adm svcHdr 0x0E02 up (fun s1 => decide (validNonce (sessionIx svcHdr s1) s1 = none ∧ tget 0 s1.upd.failRun 0 = 0)) = true ∧
    validNonce 1 (advance (ms 10000) (nonced {} up)) = none ∧
    lockedOut 0 (advance (ms 60000) (updUp { lockout := [(0, some 0)] })) = false := by decide +kernel

/-- The host session holds the update lock. -/
def locked (u : UpdSt) : State := updUp { u with lock := lockCode (sessionIx svcHdr up) }

/-- The ROM's recovery, its session open and holding the lock. -/
def inRom : State := {
  up with
  st := { step := 1, rom := true }
  host := { rom := { sess := some { ip := 2, port := 2, lastAt := 0 } } }
  upd := { slotB := { state := 3 }, lock := lockCode 3 } }

theorem witness_UpdateCommands :
    (adm svcHdr 0x0E10 up (fun s1 => decide (s1.upd.lock = 0 ∧ s1.inst.opened = none)) = true ∧
      adm svcHdr 0x0E10 (updUp { lock := 1 + lockCode (sessionIx svcHdr up) }) (fun s1 =>
        decide (s1.upd.lock ≠ 0 ∧ s1.upd.lock ≠ lockCode (sessionIx svcHdr s1))) = true) ∧
    adm svcHdr 0x0E11 (locked {}) (fun s1 => holdsLock svcHdr s1 && !s1.upd.ctl.pending &&
      whole 0x0E11 (one 0 (zeros 257)) s1 fun i bs _ => decide (i = 0 ∧ bs = zeros 257)) = true ∧
    adm svcHdr 0x0E12 (locked { slotB := { state := 2, image := zeros 257 } }) (fun s1 => holdsLock svcHdr s1 && decide ((otherSlot s1).state = 2)) = true ∧
    adm svcHdr 0x0E12 (locked {}) (fun s1 => holdsLock svcHdr s1 && decide ((otherSlot s1).state ≠ 2)) = true ∧
    (adm svcHdr 0x0E13 (locked { slotB := { state := 3 } }) (fun s1 => holdsLock svcHdr s1 && !activateRefused s1 && !s1.st.rom) = true ∧
      adm svcHdr 0x0E13 inRom (fun s1 => holdsLock svcHdr s1 && !activateRefused s1 && s1.st.rom) = true) ∧
    adm svcHdr 0x0E14 (locked { ctl := { pending := true } }) (fun s1 => holdsLock svcHdr s1 && s1.upd.ctl.pending) = true ∧
    adm svcHdr 0x0E15 (locked {}) (holdsLock svcHdr) = true ∧ adm svcHdr 0x0E15 up (fun s1 => !holdsLock svcHdr s1) = true ∧
    (let s := locked {}
     s.upd.lock ≠ 0 ∧ s.upd.lockAt + ms 60000 ≤ (advance (ms 60000) s).now) := by decide +kernel

theorem witness_TrialBoots :
    (let s := updUp { ctl := { pending := true, trialUsed := 2 } }
     s.upd.ctl.pending = true ∧ bootReason 0 s = 0 ∧ s.upd.ctl.trialUsed < 3 ∧ bootReason 3 s ≠ 0) ∧
    (updUp { ctl := { pending := true, trialUsed := 3 } }).upd.ctl.trialUsed = 3 ∧
    (up.upd.ctl.pending = false ∧ bootReason 0 up = 0 ∧ bootReason 3 up ≠ 0) := by decide +kernel

/-- A deployed module that has started, its customer key as above. -/
def deployed : State := modSvc (nonced { lc := 2, custHash := sha256 ecKey } up) 1 fun v => { v with authed := true }

theorem witness_LifeCycle :
    adm svcHdr 0x0F01 up (fun _ => true) = true ∧
    adm svcHdr 0x0E20 up (fun s1 => decide (s1.upd.lc = 1 ∧ s1.upd.ctl.pending = false ∧ activeClass s1 = 1 ∧ s1.upd.custHash = [])) = true ∧
    adm svcHdr 0x0E20 (updUp { custHash := sha256 ecKey }) (fun s1 => decide (s1.upd.custHash ≠ [] ∧ s1.upd.custHash ≠ sha256 (zeros 64))) = true ∧
    adm svcHdr 0x0E20 deployed (fun s1 => decide (s1.upd.lc ≠ 1)) = true ∧
    (adm svcHdr 0x0E21 deployed (fun s1 => lifeCheck svcHdr 0x0E21 [] [] s1 = some Status.badParam) = true ∧
      adm svcHdr 0x0E21 up (fun s1 => lifeCheck svcHdr 0x0E21 [] [] s1 = none) = true) ∧
    (adm svcHdr 0x0E22 deployed (fun s1 => lifeCheck svcHdr 0x0E22 [] [] s1 = some Status.badParam) = true ∧
      adm svcHdr 0x0E22 up (fun s1 => lifeCheck svcHdr 0x0E22 [] [] s1 = none) = true) := by decide +kernel

/-- A deployed module accepts the signatures above. -/
theorem witness_Deployed : adm svcHdr 0x0E21 deployed (fun s1 =>
      lifeCheck svcHdr 0x0E21 ecKey sigReturn s1 = none && lifeCheck svcHdr 0x0E22 ecKey sigScrap s1 = none && decide (s1.upd.lc = 2)) = true := by
  decide +kernel

theorem witness_ClockEvents :
    (let s := { up with clk := { up.clk with locks := 0x7F } }
     up.clk.backup = false ∧ up.st.inReset = false ∧ (s.clk.locks.getLsbD 0 && s.clk.locks.getLsbD 5 && s.clk.locks.getLsbD 6) = true ∧
      (domUp 0 s && domUp 5 s && domUp 6 s) = true ∧ s.cru.st = .inService) ∧
    (let s := { up with clk := { up.clk with locks := 0, doms := [(1, .stopped)] } }
     tget .running s.clk.doms 1 = .stopped ∧ s.clk.locks.getLsbD 1 = false ∧ tget 0 s.clk.stoppedAt 1 + ms 1 ≤ (advance (ms 1) s).now ∧
      s.st.inReset = false ∧ domUp 1 s = false ∧ hungIn 1 s = none ∧
      (hungIn 1 (s.modHost fun x => { x with held := some { h := hostHdr, opcode := 0x0902, hung := some 1 } })).isSome = true) ∧
    up.tick.lastEdge ≠ (advance 5 up).now ∧
    (let s := { up with clk := { up.clk with locks := 0, doms := (List.range 7).map fun d => (d, .stopped) } }
     (List.range 7).all (fun d => !s.clk.locks.getLsbD d && !domUp d s) = true ∧ s.clk.spOut = false) ∧
    ((104 : Int) < 105 ∧ (114 : Int) < 115 ∧ (115 : Int) ≤ 140 ∧ (140 : Int) < 141 ∧ (127 : Int) ≤ 140) := by decide +kernel

theorem witness_ServiceProcessor :
    spRuns up = true ∧
    (let s := { up with clk := { up.clk with spDue := true } }
     s.clk.spDue = true ∧ s.clk.spOut = false ∧ s.clk.sp ≠ .restarting ∧ s.st.inReset = false ∧ (recentRestarts (advance 0 s)).length < 3) ∧
    (let s := { up with clk := { up.clk with spDue := true, restarts := [3, 2, 1] } }
     3 ≤ (recentRestarts (advance 0 s)).length) ∧
    (up.upd.ctl.pending = false ∧ bootReason 0 up = 0 ∧ up.host.held = none ∧ up.st.bist = none) ∧
    ({ up with clk := { up.clk with sp := .restarting } } : State).clk.spDue = false ∧ up.inst.confirmed = none ∧ up.inst.fltEvents = [] := by decide +kernel

theorem witness_ResetAndStart :
    (up.st.inReset = false ∧ State.reset.st.inReset = false) ∧
    (let e : StartOutcome := {}
     e.lcVoteBad = none ∧ e.svcBoot = false ∧ e.badBlocks = [] ∧ e.cruBad = false ∧ e.fwReason = 0 ∧
     e.bootBad = [] ∧ (0x60, 1) ∈ ({ badBlocks := [(0x60, 1)] } : StartOutcome).badBlocks) ∧
    (State.reset.upd.lc < 4 ∧ (updUp { lc := 4 }).upd.lc = 4 ∧ State.reset.upd.ctl.pending = false ∧ (activeSlot State.reset).image = [] ∧
      goodCtl State.reset.upd.ctlCopy0 State.reset.upd.ctlCopy1 = some false ∧ ctlOf State.reset.upd.ctlCopy0 = State.reset.upd.ctl) ∧
    (let s := { up with st := { step := 9 } }
     s.st.step = 9 ∧ allTrained s = true ∧ s.erg.joinWait = false ∧ s.cru.st ≠ .recovering ∧ s.clk.sp ≠ .restarting) := by decide +kernel

/-! ### Events, and the block as a whole -/

theorem witness_EventRaising :
    (zeros 56).length = 56 ∧ up.host.eseq ≠ 0xFFFFFFFF ∧ entryClass (entryOf 1 ([0, 0, 3] ++ zeros 53)) = 3 ∧
    entryClass (entryOf 1 (zeros 56)) < 3 ∧ State.reset.cru.st ≠ .inService ∧ up.cru.st = .inService ∧ Memory.wf up.cru.mem = true := by
  decide +kernel

theorem witness_FaultDetection :
    ((up.src 20).held = none ∧ (up.src 20).active = false) ∧
    ((detect 20 0 up).src 20).held = some { loc := 0, detail := 0 } ∧
    (((faulted true).src 20).held = none ∧ ((faulted true).src 20).active = true) := by decide +kernel

theorem witness_StepWithoutCommand :
    (up.pending = [] ∧ up.host.queue = []) ∧
    (let s := up.modHost fun x => { x with queue := [.evtAck hostHdr] }
     s.host.queue = [.evtAck hostHdr] ∧ s.clk.sp = .running ∧ s.clk.spDue = false ∧ s.host.held = none) ∧
    ({ up with clk := { up.clk with sp := .restarting } } : State).clk.sp ≠ .running := by decide +kernel

/-- A command at the front of the queue of a state in canonical form, and its next state: the hypotheses of the statements about
every step. -/
theorem witness_Step :
    Memory.wf State.reset.cru.mem = true ∧ State.reset.cores = [] ∧
    step { State.reset with pending := [.nresetFall 5 20] } = exec (.nresetFall 5 20) State.reset ∧
    ∃ t, exec (.nresetFall 5 20) State.reset = .next t :=
  ⟨by decide +kernel, by decide +kernel, rfl, _, rfl⟩

theorem test_reset : reg State.reset P.tickRate = 60000 ∧ reg State.reset P.tickSource = 0 ∧ reg State.reset P.sysEvtResend = 100 ∧
    reg State.reset P.ergRole = 0 ∧ State.reset.erg.st = .off := by decide +kernel

/-! ### Worked examples of the spec -/

/-- The known answers of 16 Table 16.2, over the bytes "123456789". -/
theorem test_presets :
    let m : Bytes := [0x31, 0x32, 0x33, 0x34, 0x35, 0x36, 0x37, 0x38, 0x39]
    crcStore m = 0xE3069283 ∧ crcRun ergPreset m = 0xCBF43926 ∧ crcIol m = 0x29B1 := by decide +kernel

/-- 01, the double-bit error of device 5. -/
theorem test_location : locAddr (ergUp {} |>.modErg fun e => { e with role := 2, device := 5 }) 3 0x12345678 = 0x0000530091A2B3C0 := by
  decide +kernel

/-- 10 Table 10.13: words of the door program, and what they spell. -/
theorem test_door_program :
    let o (sp : BitVec 4) (a : BitVec 16) : TArg := .opd { space := sp, ixf := false, addr := a }
    let door : List (Word × BitVec 8 × TArg) := [(0x10900014, 0x10, o 9 20), (0x12900301, 0x12, o 9 769),
      (0x300A0064, 0x30, .timer { num := 10, pv := false, base := 0, count := 100 }), (0x19000000, 0x19, .nil),
      (0x20100003, 0x20, o 1 3), (0x21800028, 0x21, o 8 40), (0x24000007, 0x24, .edge 7), (0x38020000, 0x38, .num 2)]
    door.all (fun p => let i : TInstr := { code := p.2.1, arg := p.2.2 }
      decide (decodeTrio p.1 = some i ∧ encodeTrio i = p.1)) = true := by decide +kernel

/-- 10 R274: LDW with IMM 0x86A0, then LDIH with IMM 1, gives 100,000. -/
theorem test_constant : ∃ c, semLdw { space := 14, ixf := false, addr := 0x86A0 } {} = .ok c ∧ c.wacc = 0xFFFF86A0 ∧
    ∃ d, semLdih 1 c = .ok d ∧ d.wacc = 0x000186A0 := ⟨_, rfl, rfl, _, rfl, rfl⟩

/-- 06, the encoder counts and Table 6.4's rows k and k+9. -/
theorem test_track :
    ([(239, 1050), (242, 1063), (270, 1187), (273, 1200)] : List (Int × Int)).all
      (fun p => decide ((p.1 * 288000 + 32768) / 65536 = p.2)) = true ∧
    (let s (th : Int) (z : Nat) : State := { up with
       tracks := [(0, { theta := 65536 * th, omega := 65536 * 15, st := .run })], hostAge := [(0, 0)]
       regs := [(P.mirHostAngle 0, z), (P.mirTrkGain 0, 26 * 256 + 128)], regsEdge := [(P.mirTrkGain 0, 26 * 256 + 128)] }
     (updateTrack 0 (s 1035 1050)).track 0 = { theta := 65536 * 1050, omega := 65536 * 15, st := .run } ∧
     (updateTrack 0 (s 1170 1187)).track 0 = { theta := 65536 * 1186, omega := 65536 * 15 + 13312, st := .run }) ∧
    roundAway (2048 * 1062) 800 = 2719 := by decide +kernel

/-- 04: 18,658,333 credits at 60 Hz; 13 Table 13.7: occupancy of a DATA slot of 256 bytes over a span of 11. -/
theorem test_budgets : capacityAt 60000 = 18658333 ∧ slotOccupancy (zeros 0x0C ++ [11] ++ zeros 0x19 ++ le 2 256) 0 = 3848 := by decide +kernel

/-- 19 Table 19.8: the boots of a trial that is never confirmed, and its fallback. -/
theorem test_trial :
    let s0 := updUp {
      ctl := { activeB := true, pending := true, seq := 41 }, slotA := { state := 7, version := 0x30100 }
      slotB := { state := 3, version := 0x30200, rb := 3 }, floor := 0x30100, rbCount := 2 }
    let s1 := (bootSp 0 s0).2
    let s2 := (bootSp 0 s1).2
    let s3 := (bootSp 0 s2).2
    let s4 := (bootSp 0 s3).2
    s1.upd.ctl = { activeB := true, pending := true, trialUsed := 1, seq := 42 } ∧ s1.upd.running = 0x30200 ∧ slotState true s1 = 6 ∧
    s3.upd.ctl = { activeB := true, pending := true, trialUsed := 3, seq := 44 } ∧
    s4.upd.ctl = { activeB := false, pending := false, trialUsed := 0, seq := 45 } ∧ s4.upd.running = 0x30100 ∧ slotState true s4 = 4 ∧
    s4.upd.floor = 0x30100 ∧ s4.upd.rbCount = 2 ∧ (s4.src 94).active = true := by decide +kernel

end Sys2Proof.Tests
end

section
/-! PROOF. The timers and counters of a trio core (10 R275, R279, R282; 11 R308): what each of their instructions leaves of
the core, and what a core that is ready to execute one does. -/

namespace Sys2Proof.Machine

/-! ### The core after an instruction that does not end its cycle -/

/-- A core that is ready stands one instruction further as the meaning leaves it, where the meaning ends no cycle and keeps the
core state. -/
theorem done_fetchRun_further {s : State} {ci : Nat} {i : TInstr} {sem : CoreStep} {clk : Nat} {c' : Core}
    (hr : ready ci i s = true) (hs : sem (s.core ci) = .ok (further clk c')) (he : c'.ended = (s.core ci).ended)
    (hst : c'.st = (s.core ci).st) : done (fetchRun ci i sem s) = .next (ran ci (further clk c') s) :=
  congrArg Host.Outcome.next (fetchRun_ready hr hs (he.trans (ready_not_ended hr)) hst)

/-- The same of an instruction that writes only under a condition. -/
theorem done_fetchRun_further_ite {s : State} {ci : Nat} {i : TInstr} {sem : CoreStep} {clk : Nat} {b : Bool} {c' : Core}
    (hr : ready ci i s = true) (hs : sem (s.core ci) = .ok (further clk (if b then c' else s.core ci)))
    (he : c'.ended = (s.core ci).ended) (hst : c'.st = (s.core ci).st) :
    done (fetchRun ci i sem s) = .next (ran ci (further clk (if b then c' else s.core ci)) s) := by
  cases b with
  | false => exact done_fetchRun_further hr hs rfl rfl
  | true => exact done_fetchRun_further hr hs he hst

/-- Z and N of a result: the model takes N as the sign bit, the claims as bit 31. -/
theorem setWacc_eq_withResult (c : Core) (r : Word) (v cy : Bool) : setWacc c r v cy = withResult c r v cy := by
  simp [setWacc, withResult, BitVec.msb_eq_getLsbD_last]

/-! ### Timers (10 R278, R279; 11 R308) -/

/-- The flag byte of a timer's record holds Q, IN and RUN in bits 0 to 2 (10 R278). -/
theorem packBits_three (q inp run : Bool) : packBits [q, inp, run] = b2n q + 2 * b2n inp + 4 * b2n run := by
  simp only [packBits]; omega

theorem timerUnit_eq_getD : ∀ b : BitVec 2, timerUnit b = [100, 1000, 10000, 100000].getD b.toNat 0 := by decide

/-- PRESET of an evaluation, from the record or from the word (10 R271, R279). -/
def timerPreset (tm : TimerRef) (c : Core) : Nat :=
  if tm.pv then tmPreset c tm.num.toNat else tm.count.toNat * [100, 1000, 10000, 100000].getD tm.base.toNat 0

/-- The previous input and the time of the last evaluation; those of the evaluation itself just after an exchange (11 R308). -/
def timerInput (tm : TimerRef) (c : Core) : Bool := if masked c tm.num.toNat then c.acc else tmFlag c tm.num.toNat 1
def timerLast (tm : TimerRef) (c : Core) : Nat := if masked c tm.num.toNat then c.tnow.toNat else tmLast c tm.num.toNat

/-- ELAPSED with the time since the last evaluation, at most PRESET (10 R279). -/
def timerGrown (tm : TimerRef) (c : Core) : Nat :=
  min (tmElapsed c tm.num.toNat + (c.tnow.toNat + 2 ^ 32 - timerLast tm c) % 2 ^ 32) (timerPreset tm c)

/-- ELAPSED, Q and RUN that a rule gives the timer of a core. -/
def timerVerdict (rule : TimerRule) (tm : TimerRef) (c : Core) : Nat × Bool × Bool :=
  rule c.acc (timerInput tm c) (timerPreset tm c) (tmElapsed c tm.num.toNat)
    ((c.tnow.toNat + 2 ^ 32 - timerLast tm c) % 2 ^ 32) (tmFlag c tm.num.toNat 0) (tmFlag c tm.num.toNat 2)

/-- The core with the record of an evaluated timer: Q in ACC, and the timer out of the exchange mask. -/
def timerLeft (tm : TimerRef) (c : Core) (r : Nat × Bool × Bool) : Core :=
  let n := tm.num.toNat
  { (if masked c n then unmask c n else c) with
    acc := r.2.1
    sram := Memory.put c.sram (timerAt n) (le 4 (timerPreset tm c) ++ le 4 r.1 ++ le 4 c.tnow.toNat ++
      [b8 (b2n r.2.1 + 2 * b2n c.acc + 4 * b2n r.2.2)]) }

theorem timerLeft_ended (tm : TimerRef) (c : Core) (r : Nat × Bool × Bool) : (timerLeft tm c r).ended = c.ended := by
  simp only [timerLeft]; split <;> rfl

theorem timerLeft_st (tm : TimerRef) (c : Core) (r : Nat × Bool × Bool) : (timerLeft tm c r).st = c.st := by
  simp only [timerLeft]; split <;> rfl

/-- The four evaluations differ in their rule only. -/
theorem timerOp_eq (rule : TimerRule) (tm : TimerRef) (c : Core) :
    timerOp rule tm c = .ok (further 12 (timerLeft tm c (timerVerdict rule tm c))) := by
  simp only [timerOp, timerUnit_eq_getD, putTimer, putSram, packBits_three]
  by_cases h : masked c tm.num.toNat = true <;>
    simp only [timerLeft, timerVerdict, timerPreset, timerInput, timerLast, h, if_true, if_false, Bool.false_eq_true] <;> rfl

/-! What the four rules give, in the terms of 10 R279. -/

theorem timerVerdict_ton (tm : TimerRef) (c : Core) :
    timerVerdict tonRule tm c =
      let e := if c.acc && timerInput tm c then timerGrown tm c else 0
      (e, c.acc && decide (timerPreset tm c ≤ e), c.acc && !decide (timerPreset tm c ≤ e)) := by
  unfold timerVerdict tonRule
  cases c.acc <;> rfl

theorem timerVerdict_tof (tm : TimerRef) (c : Core) :
    timerVerdict tofRule tm c =
      if c.acc then (0, true, false)
      else if timerInput tm c then (0, decide (0 < timerPreset tm c), decide (0 < timerPreset tm c))
      else if tmFlag c tm.num.toNat 0 then
        (timerGrown tm c, decide (timerGrown tm c < timerPreset tm c), decide (timerGrown tm c < timerPreset tm c))
      else (tmElapsed c tm.num.toNat, false, false) := rfl

theorem timerVerdict_tp (tm : TimerRef) (c : Core) :
    timerVerdict tpRule tm c =
      if tmFlag c tm.num.toNat 2 then
        (if timerPreset tm c ≤ timerGrown tm c then (timerGrown tm c, false, false)
          else (timerGrown tm c, tmFlag c tm.num.toNat 0, true))
      else if c.acc && !timerInput tm c then (0, decide (0 < timerPreset tm c), decide (0 < timerPreset tm c))
      else (tmElapsed c tm.num.toNat, tmFlag c tm.num.toNat 0, false) := by
  unfold timerVerdict tpRule
  cases tmFlag c tm.num.toNat 2 <;> rfl

theorem timerVerdict_trt (tm : TimerRef) (c : Core) :
    timerVerdict trtRule tm c =
      let e := if c.acc && timerInput tm c then timerGrown tm c else tmElapsed c tm.num.toNat
      (e, decide (timerPreset tm c ≤ e), c.acc && !decide (timerPreset tm c ≤ e)) := rfl

/-- The module after an evaluation that found ELAPSED, Q and RUN. -/
def timerRan (ci : Nat) (tm : TimerRef) (s : State) (r : Nat × Bool × Bool) : State :=
  ran ci (further 12 (timerLeft tm (s.core ci) r)) s

theorem runTimer_ready {s : State} {ci : Fin 24} {code : BitVec 8} {tm : TimerRef} (rule : TimerRule)
    (hr : ready ci { code := code, arg := .timer tm } s = true) :
    runTimer ci code tm (timerOp rule tm) s = .next (timerRan ci tm s (timerVerdict rule tm (s.core ci))) :=
  done_fetchRun_further hr (timerOp_eq rule tm _) (timerLeft_ended ..) (timerLeft_st ..)

/-- TRS writes the record back with ELAPSED, Q and RUN 0 and LAST at T_NOW (10 R279). -/
theorem semTrs_eq (k : BitVec 8) (c : Core) :
    semTrs k c = .ok (further 6 (if c.acc then
      { c with sram := Memory.put c.sram (timerAt k.toNat) (le 4 (tmPreset c k.toNat) ++ le 4 0 ++ le 4 c.tnow.toNat ++
        [b8 (2 * b2n (tmFlag c k.toNat 1))]) } else c)) := by
  have hflags (inp : Bool) : b2n false + 2 * b2n inp + 4 * b2n false = 2 * b2n inp := by simp [b2n]
  simp only [semTrs, putTimer, putSram, packBits_three, hflags]
  rfl

/-- TPS takes a negative WACC as 0 and sets V (10 R275). -/
theorem semTps_eq (k : BitVec 8) (c : Core) :
    semTps k c = .ok (further 6 { c with
      sram := Memory.put c.sram (timerAt k.toNat) (le 4 (if c.wacc.toInt < 0 then 0 else c.wacc.toNat))
      v := decide (c.wacc.toInt < 0), ovs := c.ovs || decide (c.wacc.toInt < 0) }) := by
  simp only [semTps, BitVec.msb_eq_toInt, decide_eq_true_eq]
  rfl

theorem semTle_eq (k : BitVec 8) (c : Core) :
    semTle k c = .ok (further 6 (withResult c (BitVec.ofNat 32 (tmElapsed c k.toNat)) false false)) := by
  simp only [semTle, setWacc_eq_withResult]
  rfl

/-! ### Counters (10 R281, R282; 11 R308) -/

/-- The core after a count: VALUE, the previous input in flag `b` and Q written, Q in ACC, V where the count stands at its limit,
and the input of the mask entry `m` no longer in the exchange mask. -/
def counterLeft (n b m : Nat) (c : Core) (value : Int) (q atEnd : Bool) : Core :=
  { putCtFlag (putCtFlag (putValue (unmask c m) n value) n b c.acc) n 0 q with acc := q, v := atEnd, ovs := c.ovs || atEnd }

theorem counterLeft_ended (n b m : Nat) (c : Core) (value : Int) (q atEnd : Bool) :
    (counterLeft n b m c value q atEnd).ended = c.ended := rfl

theorem counterLeft_st (n b m : Nat) (c : Core) (value : Int) (q atEnd : Bool) :
    (counterLeft n b m c value q atEnd).st = c.st := rfl

theorem semCtu_eq (k : BitVec 8) (c : Core) :
    semCtu k c =
      let rise := c.acc && !(if masked c (1000 + k.toNat) then c.acc else ctFlag c k.toNat 1)
      let full := decide (ctValue c k.toNat = 2 ^ 31 - 1)
      let v := if rise && !full then ctValue c k.toNat + 1 else ctValue c k.toNat
      .ok (further 10 (counterLeft k.toNat 1 (1000 + k.toNat) c v (decide (ctPreset c k.toNat ≤ v)) (rise && full))) := rfl

theorem semCtd_eq (k : BitVec 8) (c : Core) :
    semCtd k c =
      let rise := c.acc && !(if masked c (2000 + k.toNat) then c.acc else ctFlag c k.toNat 2)
      let empty := decide (ctValue c k.toNat = -2 ^ 31)
      let v := if rise && !empty then ctValue c k.toNat - 1 else ctValue c k.toNat
      .ok (further 10 (counterLeft k.toNat 2 (2000 + k.toNat) c v (decide (v ≤ 0)) (rise && empty))) := rfl

theorem semCrs_eq (k : BitVec 8) (c : Core) :
    semCrs k c = .ok (further 6 (if c.acc then putCtFlag (putValue c k.toNat 0) k.toNat 0 false else c)) := rfl

theorem semCld_eq (k : BitVec 8) (c : Core) :
    semCld k c = .ok (further 6 (if c.acc then putCtFlag (putValue c k.toNat (ctPreset c k.toNat)) k.toNat 0 false else c)) :=
  rfl

theorem semCps_eq (k : BitVec 8) (c : Core) :
    semCps k c = .ok (further 6 { c with sram := Memory.put c.sram (counterAt k.toNat + 4) (le 4 c.wacc.toNat) }) := rfl

theorem semClv_eq (k : BitVec 8) (c : Core) :
    semClv k c = .ok (further 6 (withResult c (BitVec.ofInt 32 (ctValue c k.toNat)) false false)) := by
  simp only [semClv, setWacc_eq_withResult]
  rfl

/-! ### The timers and counters of a core that is ready -/

/-- Settles O4, by the one form of the timer evaluations and one equation per instruction: the statement's abbreviations are first
replaced by the functions of the record that they spell out. -/
theorem trioTimersCounters : Obligations.TrioTimersCounters := by
  refine ⟨?evaluations, ?timers, ?counters⟩
  case evaluations =>
    intro ci tm s c n first preset elapsed flags q run inp last grown out
    have hout (e : Nat) (q run : Bool) : out e q run = timerRan ci tm s (e, q, run) := rfl
    have hpreset : preset = timerPreset tm c := rfl
    have hinp : inp = timerInput tm c := rfl
    have hgrown : grown = timerGrown tm c := rfl
    have hq : q = tmFlag c n 0 := rfl
    have hrun : run = tmFlag c n 2 := rfl
    clear_value out grown preset inp q run
    subst hpreset hinp hgrown hq hrun
    simp only [hout]
    refine ⟨fun h => ?ton, fun h => ?tof, fun h => ?tp, fun h => ?trt⟩
    case ton =>
      have hres := runTimer_ready tonRule h
      rw [timerVerdict_ton] at hres
      exact hres
    case tof =>
      have hres := runTimer_ready tofRule h
      simp only [timerVerdict_tof, apply_ite (timerRan ci tm s)] at hres
      exact hres
    case tp =>
      have hres := runTimer_ready tpRule h
      simp only [timerVerdict_tp, apply_ite (timerRan ci tm s)] at hres
      exact hres
    case trt =>
      have hres := runTimer_ready trtRule h
      rw [timerVerdict_trt] at hres
      exact hres
  case timers =>
    intro ci k s c a out
    refine ⟨fun h => ?trs, fun h => ?tps, fun h => ?tle⟩
    case trs => exact done_fetchRun_further_ite h (semTrs_eq k _) rfl rfl
    case tps => exact done_fetchRun_further h (semTps_eq k _) rfl rfl
    case tle => exact done_fetchRun_further h (semTle_eq k _) rfl rfl
  case counters =>
    intro ci k s c a value preset flag put
    have hput (d : Core) (v : Int) : put d v = putValue d k.toNat v := rfl
    have hflag (b : Nat) : flag b = ctFlag c k.toNat b := rfl
    have hvalue : value = ctValue c k.toNat := rfl
    have hpreset : preset = ctPreset c k.toNat := rfl
    clear_value put flag preset value
    subst hvalue hpreset
    simp only [hput, hflag]
    refine ⟨fun h => ?ctu, fun h => ?ctd, fun h => ?crs, fun h => ?cld, fun h => ?cps, fun h => ?clv⟩
    case ctu => exact done_fetchRun_further h (semCtu_eq k _) (counterLeft_ended ..) (counterLeft_st ..)
    case ctd => exact done_fetchRun_further h (semCtd_eq k _) (counterLeft_ended ..) (counterLeft_st ..)
    case crs => exact done_fetchRun_further_ite h (semCrs_eq k _) rfl rfl
    case cld => exact done_fetchRun_further_ite h (semCld_eq k _) rfl rfl
    case cps => exact done_fetchRun_further h (semCps_eq k _) rfl rfl
    case clv => exact done_fetchRun_further h (semClv_eq k _) rfl rfl

end Sys2Proof.Machine
end

section
/-! PROOF. The firmware update commands (19 R490 to R492, R496, R498, R505): what a write of the boot record leaves of the slots
and the boot control word, what each command's own checks and effect answer, and the reply of an admitted packet. -/

namespace Sys2Proof.Machine

/-! ### Writes of the boot record (19 R489) -/

@[simp] theorem writeBoot_upd (s : State) (f : UpdSt → UpdSt) : (s.writeBoot f).upd = f s.upd := rfl

@[simp] theorem modSlot_ctl (b : Bool) (f : Slot → Slot) (s : State) : (modSlot b f s).upd.ctl = s.upd.ctl := by
  cases b <;> rfl

@[simp] theorem modSlot_floor (b : Bool) (f : Slot → Slot) (s : State) : (modSlot b f s).upd.floor = s.upd.floor := by
  cases b <;> rfl

@[simp] theorem modSlot_rbCount (b : Bool) (f : Slot → Slot) (s : State) : (modSlot b f s).upd.rbCount = s.upd.rbCount := by
  cases b <;> rfl

@[simp] theorem slot_modSlot_same (b : Bool) (f : Slot → Slot) (s : State) : slot b (modSlot b f s) = f (slot b s) := by
  cases b <;> rfl

@[simp] theorem writeCtl_ctl (f : BootCtl → BootCtl) (s : State) :
    (writeCtl f s).upd.ctl = { f s.upd.ctl with seq := (s.upd.ctl.seq + 1) % 256 } := rfl
@[simp] theorem writeCtl_floor (f : BootCtl → BootCtl) (s : State) : (writeCtl f s).upd.floor = s.upd.floor := rfl
@[simp] theorem writeCtl_rbCount (f : BootCtl → BootCtl) (s : State) : (writeCtl f s).upd.rbCount = s.upd.rbCount := rfl
@[simp] theorem slot_writeCtl (b : Bool) (f : BootCtl → BootCtl) (s : State) : slot b (writeCtl f s) = slot b s := rfl

/-! ### Steps 2 to 4 of a confirmation (19 R496) -/

@[simp] theorem confirmSteps_ctl (s : State) : (confirmSteps s).upd.ctl = s.upd.ctl := by simp [confirmSteps]

theorem confirmSteps_floor (s : State) :
    (confirmSteps s).upd.floor.toNat = max s.upd.floor.toNat (activeSlot s).version.toNat := by
  simp only [confirmSteps, modSlot_floor, writeBoot_upd]
  split <;> omega

theorem confirmSteps_rbCount (s : State) :
    (confirmSteps s).upd.rbCount = max s.upd.rbCount (min 64 (activeSlot s).rb) := by
  simp only [confirmSteps, modSlot_rbCount, writeBoot_upd]

theorem otherSlot_confirmSteps_state (s : State) : (otherSlot (confirmSteps s)).state = 5 := by
  rw [otherSlot, confirmSteps_ctl, confirmSteps, slot_modSlot_same]

/-! ### The reply of an admitted packet -/

/-- An answer that is not held is replied to. -/
theorem done_serve_replied {h : Hdr} {op ix st : Nat} {params out : Bytes} {c : Instr} {body : State → Answer} {s s1 t : State}
    (ha : admitted h op s = some (ix, s1)) (hb : body s1 = (st, out, t)) (hst : st ≠ Status.held) :
    done (serve h op params c body s) = .next (reply h ix op st out t) := by
  rw [serve_admitted params c body ha, hb, conclude_ok h ix op st out t hst]
  rfl

/-- A held answer is the state it leaves. -/
theorem done_serve_held {h : Hdr} {op ix : Nat} {params out : Bytes} {c : Instr} {body : State → Answer} {s s1 t : State}
    (ha : admitted h op s = some (ix, s1)) (hb : body s1 = (Status.held, out, t)) :
    done (serve h op params c body s) = .next t := by
  rw [serve_admitted params c body ha, hb, conclude_held]
  rfl

/-! ### What each command answers -/

/-- Taking the lock changes the lock and its clock, and what this edge knows of itself. -/
theorem takeLock_eq (h : Hdr) (ix : Nat) (s : State) :
    takeLock h ix s =
      { s with upd := { s.upd with lock := lockCode ix, lockAt := s.now }, inst := (takeLock h ix s).inst } := by
  unfold takeLock
  split <;> rfl

theorem updOpenBody_free {h : Hdr} {s : State} (hl : s.upd.lock = 0 ∨ s.upd.lock = lockCode (sessionIx h s)) :
    updOpenBody h s =
      (Status.ok, [b8 (b2n (!s.upd.ctl.activeB)), b8 s.upd.rbCount, 0, 0] ++ be 4 s.upd.floor.toNat,
        takeLock h (sessionIx h s) s) := by
  simp only [updOpenBody, if_pos hl]

/-- What an edge knows of a lock taken on it comes from the commands of that edge alone. -/
theorem instant_opened_none {s : State} (ho : s.inst.opened = none) : (instant s).opened = none := by
  unfold instant
  split
  · exact ho
  · rfl

theorem updOpenBody_taken {h : Hdr} {s : State} (h0 : s.upd.lock ≠ 0) (hl : s.upd.lock ≠ lockCode (sessionIx h s))
    (ho : s.inst.opened = none) : updOpenBody h s = (Status.busy, [], s) := by
  have hw : lockWon (sessionIx h s) s = none := by simp only [lockWon, instant_opened_none ho]
  simp only [updOpenBody, if_neg (not_or.mpr ⟨h0, hl⟩), hw]
  rfl

theorem updDownloadBody_whole {h : Hdr} {part : BulkPart} {i : Nat} {img : Bytes} {s t : State} (hl : holdsLock h s = true)
    (hp : s.upd.ctl.pending = false) (hi : part.index = 0) (hlo : 257 ≤ part.total) (hhi : part.total ≤ 16777216)
    (hw : bulkStep 0x0E11 part s = .whole i img t) : updDownloadBody h part s = downloadWhole i img t := by
  have hsize : ¬ (part.index ≠ 0 ∨ part.total < 257 ∨ 16777216 < part.total) := by omega
  simp [updDownloadBody, hl, hp, hsize, bulk, hw, downloadWhole]

theorem updVerifyBody_unverified {h : Hdr} {s : State} (hl : holdsLock h s = true) (hu : (otherSlot s).state = 2) :
    let r := containerReason (otherSlot s).image s
    updVerifyBody h s = (if r = 0 then Status.ok else Status.checkFail, [b8 r],
      setReg (modSlot (!s.upd.ctl.activeB) (fun x => { x with state := if r = 0 then 3 else 4 }) s) P.updLastVerify r) := by
  simp [updVerifyBody, hl, hu]

theorem updVerifyBody_not_unverified {h : Hdr} {s : State} (hl : holdsLock h s = true) (hu : (otherSlot s).state ≠ 2) :
    updVerifyBody h s = (Status.wrongState, [], s) := by
  simp [updVerifyBody, hl, hu, reject]

/-- The boot control word of an activation: the other slot is active, its trial pending with no boot used (19 R492). -/
def activated (c : BootCtl) : BootCtl := { c with activeB := !c.activeB, pending := true, trialUsed := 0 }

theorem updActivateBody_rom {h : Hdr} {s : State} (hl : holdsLock h s = true) (hr : activateRefused s = false)
    (hrom : s.st.rom = true) : updActivateBody h s = (Status.ok, [], writeCtl activated s) := by
  have hrom' : (writeCtl activated s).st.rom = true := hrom
  simp only [updActivateBody, hl, hr, Bool.not_true, Bool.false_eq_true, if_false]
  exact if_pos hrom'

theorem updActivateBody_firmware {h : Hdr} {s : State} (hl : holdsLock h s = true) (hr : activateRefused s = false)
    (hrom : s.st.rom = false) :
    updActivateBody h s = (Status.held, [], restartSp 0
      (reply h (sessionIx h (writeCtl activated s)) 0x0E13 Status.ok [] (writeCtl activated s))) := by
  have hrom' : ¬ (writeCtl activated s).st.rom = true := ne_true_of_eq_false hrom
  simp only [updActivateBody, hl, hr, Bool.not_true, Bool.false_eq_true, if_false]
  exact if_neg hrom'

/-- The state a confirmation leaves: PENDING 0 first, then steps 2 to 4. -/
def afterConfirm (s : State) : State := confirmSteps (writeCtl (fun c => { c with pending := false }) s)

theorem updConfirmBody_pending {h : Hdr} {s : State} (hl : holdsLock h s = true) (hp : s.upd.ctl.pending = true) :
    ∃ t out, updConfirmBody h s = (Status.ok, out, t) ∧ t.upd = (afterConfirm s).upd ∧ t.regs = s.regs ∧ t.mram = s.mram := by
  simp only [updConfirmBody, hl, hp, Bool.not_true, Bool.false_eq_true, if_false]
  exact ⟨_, _, rfl, rfl, rfl, rfl⟩

theorem updCloseBody_holder {h : Hdr} {s : State} (hl : holdsLock h s = true) :
    updCloseBody h s = (Status.ok, [], releaseLock s) := by simp only [updCloseBody, if_pos hl]

theorem updCloseBody_other {h : Hdr} {s : State} (hl : holdsLock h s = false) :
    updCloseBody h s = (Status.denied, [], s) := by simp [updCloseBody, hl, reject]

theorem expireLock_due {s : State} (hl : s.upd.lock ≠ 0) (ht : s.upd.lockAt + ms 60000 ≤ s.now) :
    expireLock s = releaseLock s := if_pos ⟨hl, ht⟩

/-! ### The commands -/

/-- Settles O47: what the body of each command answers, replied to as the packet is admitted. That a close by another than the
holder is DENIED is the model's reading of 19 R498 (DEDUCED, log 46). -/
theorem updateCommands : Obligations.UpdateCommands := by
  intro h at' ix part img s s1 s2 jx b
  refine ⟨fun ha => ⟨fun hl => ?opened, fun h0 hl ho => ?busy⟩, fun ha hl hp hi hlo hhi hw => ?downloaded,
    fun ha hl hu => ?judged, fun ha hl hu => ?notUnverified, fun ha hl hr => ⟨fun hrom => ?rom, fun hrom => ?firmware⟩,
    fun ha hl hp => ?confirmed, fun ha => ⟨fun hl => ?closed, fun hl => ?notHolder⟩, fun hl ht => ?expired⟩
  case opened =>
    exact ⟨_, _, done_serve_replied ha (updOpenBody_free hl) (by decide), takeLock_eq h _ s1, by simp [be_length], rfl⟩
  case busy => exact done_serve_replied ha (updOpenBody_taken h0 hl ho) (by decide)
  case downloaded => exact done_serve_replied ha (updDownloadBody_whole hl hp hi hlo hhi hw) (by decide)
  case judged =>
    intro r judged
    exact done_serve_replied ha (updVerifyBody_unverified hl hu) (by split <;> decide)
  case notUnverified => exact done_serve_replied ha (updVerifyBody_not_unverified hl hu) (by decide)
  case rom => exact done_serve_replied ha (updActivateBody_rom hl hr hrom) (by decide)
  case firmware => exact done_serve_held ha (updActivateBody_firmware hl hr hrom)
  case confirmed =>
    obtain ⟨t, out, hbody, hupd, hregs, hmram⟩ := updConfirmBody_pending hl hp
    have hother : otherSlot t = otherSlot (afterConfirm s1) := by simp only [otherSlot, slot, hupd]
    refine ⟨t, out, done_serve_replied ha hbody (by decide), ?_, ?_, ?_, ?_, ?_, hregs, hmram⟩
    · simp [hupd, afterConfirm]
    · simp [hupd, afterConfirm, b]
    · simp [hupd, afterConfirm, confirmSteps_floor, activeSlot]
    · simp [hupd, afterConfirm, confirmSteps_rbCount, activeSlot]
    · rw [hother]; exact otherSlot_confirmSteps_state _
  case closed => exact done_serve_replied ha (updCloseBody_holder hl) (by decide)
  case notHolder => exact done_serve_replied ha (updCloseBody_other hl) (by decide)
  case expired => exact congrArg Host.Outcome.next (expireLock_due (s := advance at' s) hl ht)

end Sys2Proof.Machine
end
